-- ==== Sys2Proof/Word.lean ====
section
/-! DEFINITION. The word and byte types of the VX2568 model, and the name of a bit field of a register. -/
namespace Sys2Proof

/-- Every BAR0 register is 32 bits wide (R5). -/
abbrev Word := BitVec 32

/-- The smallest addressable unit of flash, host memory and every window (R5). -/
abbrev Byte := BitVec 8

/-- A field of a register: the register's BAR0 byte offset (R517), the field's lowest bit and its width. -/
structure RF where
  off : Nat
  lo  : Nat
  n   : Nat
deriving DecidableEq, Repr

/-- `true` when `p` holds, as the number a one-bit field takes. -/
def bit (p : Bool) : Nat := if p then 1 else 0

end Sys2Proof
end

