-- ==== Sys2Proof/Syntax.lean ====
section
/-! DEFINITION. The commands of the VX2568 block (spec/opcode_table.json, one constructor per row) and the data they carry:
PCIe TLPs, Turmaster Fabric Protocol (TFP) packets, link-layer control flits, and the arrival paths of register accesses. -/
namespace Sys2Proof

/-! ### PCI Express TLPs -/

/-- The TLP types of the PCI Express Base Specification that the switch tells apart (R304, R311, R230). -/
inductive TlpKind where
  | memRd | memRdLk | memWr | dmWr | ioRd | ioWr | cfgRd | cfgWr | fetchAdd | swap | cas | msg | cpl
deriving DecidableEq, Repr

/-- A PASID TLP prefix: value, Privileged Mode Requested, Execute Requested (R311). -/
structure Pasid where
  val : Nat
  pmr : Bool
  er  : Bool
deriving DecidableEq, Repr

/-- One TLP as the switch sees it after decoding. `dest` is the Routing ID of a configuration request, an ID-routed message or a
completion; `dword` the register of a configuration request; `status`, `byteCount`, `lowerAddr` and `cplRid` belong to completions;
`prefixes` are the bytes of the other TLP prefixes; `extra` counts those of an ECRC, and of anything else of which L of R149 tells the length alone. -/
structure Tlp where
  kind      : TlpKind
  addr      : Nat := 0
  lenDw     : Nat := 1
  firstBe   : Nat := 15
  lastBe    : Nat := 0
  rid       : Nat := 0
  tag       : Nat := 0
  tc        : Nat := 0
  ro        : Bool := false
  ido       : Bool := false
  ns        : Bool := false
  at_       : Nat := 0
  pasid     : Option Pasid := none
  ep        : Bool := false
  ide       : Bool := false
  dest      : Nat := 0
  dword     : Nat := 0
  cfgType1  : Bool := false
  status    : Nat := 0
  byteCount : Nat := 0
  lowerAddr : Nat := 0
  cplRid    : Nat := 0
  msgCode   : Nat := 0
  msgRoute  : Nat := 0
  prefixes  : List Byte := []
  extra     : Nat := 0
  data      : List Byte := []
deriving DecidableEq, Repr

/-! ### PCI Express links -/

/-- What is new on a port's link (R121, R123, R131, R132, R144): training has completed, with the lanes that failed equalisation, that trained inverted and
on which a receiver was found, and whether the lanes run reversed; the partner has changed rate or width; L0p has changed the lanes in use; or the LTSSM
has reached another state. -/
inductive LinkNews where
  | trained (eqFail polarity detected : BitVec 16) (reversed : Bool)
  | adapted
  | l0p
  | ltssm (st : Fin 10)
deriving DecidableEq, Repr

/-- How a packet's cells come while the transmit stage sends it (R159): all of them; a cut-through packet's stop arriving; or the non-Flit TLP that is being
cut through fails its LCRC, and comes again as a new arrival. -/
inductive Arrival where
  | whole | stopped | lcrc
deriving DecidableEq, Repr

/-- One turn of the transmit stage of a SCHED index, and how the cells of the packet it sends come. -/
structure TransmitTurn where
  index   : Fin 100
  arrival : Arrival
deriving DecidableEq, Repr

/-! ### What the hardware reports about itself -/

/-- What a quadrant's REFCLK is found to be: present and stable for 100 us, or so no longer (R117, R145). -/
structure RefclkReport where
  quadrant : Fin 4
  ok       : Bool
deriving DecidableEq, Repr

/-- The region an ECC error strikes; `both`: both copies of it (R242). -/
structure RegionHit where
  region : Fin 8192
  both   : Bool
deriving DecidableEq, Repr

/-! ### TFP packets (R309 to R313, R364, R365) -/

/-- The TFP common header (R309). `gen` is the 25-bit GEN field. -/
structure TfpHdr where
  kind     : Nat
  tc       : Nat := 0
  poison   : Bool := false
  hops     : Nat := 0
  dstDev   : Nat := 0
  srcDev   : Nat := 0
  dstPort  : Nat := 0
  srcPort  : Nat := 0
  colour   : Nat := 0
  gen      : Nat := 0
  xid      : Nat := 0
  xidGen   : Nat := 0
  window   : Nat := 0x7FF
deriving DecidableEq, Repr

/-- The request body of a bridged packet (R311); `op` is the raw OP field. -/
structure ReqBody where
  op       : Nat
  tlpTc    : Nat := 0
  ido      : Bool := false
  ro       : Bool := false
  ns       : Bool := false
  at_      : Nat := 0
  lenDw    : Nat := 1
  firstBe  : Nat := 15
  lastBe   : Nat := 0
  pasid    : Option Pasid := none
  msgCode  : Nat := 0
  msgRoute : Nat := 0
  addr     : Nat := 0
  rid      : Nat := 0
  tag      : Nat := 0
deriving DecidableEq, Repr

/-- The answer body of BR_CPL, BR_WACK and BR_END (R312). -/
structure AnsBody where
  status    : Nat
  byteCount : Nat := 0
  lowerAddr : Nat := 0
  lenDw     : Nat := 0
  cplRid    : Nat := 0
  cause     : Nat := 0
deriving DecidableEq, Repr

/-- The BR_RWF notice body (R313). -/
structure NoticeBody where
  window : Nat
  cause  : Nat
  count  : Nat
  addr   : Nat
deriving DecidableEq, Repr

/-- The sideband body of SB_POLL and SB_STATE (R330); `state` holds its bits [40:12]. -/
structure SbBody where
  port  : Nat
  seq   : Nat
  state : Nat := 0
deriving DecidableEq, Repr

/-- The RMA header (R364). -/
structure RmaHdr where
  dstConn : Nat
  srcConn : Nat
  phase   : Nat := 0
  ro      : Bool := false
  psn     : Nat := 0
  counter : Nat := 0
deriving DecidableEq, Repr

/-- What follows the common header of a TFP packet. An RMA packet keeps its encrypted operation body and data, and its tag, as the
bytes on the wire (R366); management and twin messages keep their content bytes. -/
inductive TfpBody where
  | req (r : ReqBody) (data : List Byte)
  | ans (a : AnsBody) (data : List Byte)
  | notice (n : NoticeBody)
  | sideband (b : SbBody)
  | rma (h : RmaHdr) (cipher tag : List Byte)
  | msg (content : List Byte)
deriving DecidableEq, Repr

/-- A TFP packet. -/
structure Tfp where
  hdr  : TfpHdr
  body : TfpBody
deriving DecidableEq, Repr

/-- The virtual channels of the link layer (R281). -/
inductive Chan where
  | req | rsp | mgt
deriving DecidableEq, Repr

/-- The TIME flit (R278), in the manual's field order. -/
structure TimeFlit where
  kind     : Nat
  seq      : Nat := 0
  state    : Nat := 0
  hops     : Nat := 0
  errBound : Nat := 0
  holdMs   : Nat := 0
  tTx      : Nat := 0
  tRx      : Nat := 0
  srcDev   : Nat := 0
deriving DecidableEq, Repr

/-- The TRAIN flit (R278). -/
structure TrainFlit where
  proto    : Nat := 1
  state    : Nat := 0
  role     : Nat := 0
  devValid : Bool := false
  devid    : Nat := 0
  mode     : Nat := 0
  side     : Nat := 0
  nextRx   : Nat := 0
deriving DecidableEq, Repr

/-! ### Arrival paths and outcomes -/

/-- The paths on which a register access arrives (R474): a PCIe port's management function (with the partition it belongs to), a
management message on a bundle, the MSP, the JTAG debug port. -/
inductive Path where
  | pcie (port : Fin 96) (part : Fin 32)
  | bundle (b : Fin 4)
  | msp
  | jtag
deriving DecidableEq, Repr

/-- How a completion toward one of the switch's own masters ended. -/
inductive HostStatus where
  | ok | ur | ca | poison | guard
deriving DecidableEq, Repr

/-- What a scheduler ECC error hit (R201). -/
inductive SchedEcc where
  | subscriber (i : Fin 4096)
  | gateList (i : Fin 100)
  | sampler (i : Fin 18208)
deriving DecidableEq, Repr

/-- What a bridge ECC error hit (R333). -/
inductive BridgeEcc where
  | tag (x : Fin 16384)
  | route (d : Fin 2047)
  | window (w : Fin 2048)
deriving DecidableEq, Repr

/-- What an RMA ECC error hit (R370). -/
inductive RmaEcc where
  | key (k : Fin 4096)
  | conn (c : Fin 1024)
  | ring (r : Fin 64)
deriving DecidableEq, Repr

/-- A sequenced packet as it arrives on a bundle (R275): its envelope fields, whether its CRC checks, and its content; `resvd` for a unit whose TYPE is a
reserved one (R274), of which no other field counts. -/
structure LinkPacket where
  chan  : Chan
  flits : Nat
  pad   : Nat
  seq   : Nat
  np    : Bool
  crcOk : Bool
  p     : Tfp
  resvd : Bool := false
deriving DecidableEq, Repr

/-- A slow-mode training frame (R263): see the bundle chapter's frame table. -/
structure TrainFrame where
  kind  : Nat
  bytes : List Byte
  crcOk : Bool
deriving DecidableEq, Repr

/-- What arrived on one physical lane in a superblock period: the sampling phase it is received with, in 1/64 UI (R260), and the bits of its stream that
follow those of the period before, first to last, as many on every lane. -/
structure LaneBits where
  lane  : Nat
  phase : Nat
  bits  : List Bool
deriving DecidableEq, Repr

/-! ### The commands -/

/-- The commands and events of the block: one constructor per row of spec/opcode_table.json, in its order. -/
inductive Instr where
  /-- REGISTER_WRITE (R9): A write to a register without a row of its own takes effect according to its access type, view and privilege. -/
  | registerWrite (path : Path) (off : BitVec 24) (val : Word)
  /-- LO_READ_LATCH (R8): A read of a _LO register returns the low half and latches the high half for the same arrival path. -/
  | loReadLatch (path : Path) (off : BitVec 24)
  /-- RC_READ (R519): A read of an RC register returns its value and then clears it, keeping any change made in the same cycle. -/
  | rcRead (path : Path) (off : BitVec 24)
  /-- LEDGER_GRANT (R30): The ledger arbiter grants one waiting event per core cycle and stamps it with the next ledger number and FT. -/
  | ledgerGrant (src : Nat)
  /-- EVENTS_COALESCED (R33): When a place frees in a hardware source's store, one EVENTS_COALESCED event carrying the coalescing record is entered and the record is cleared. -/
  | eventsCoalesced (src : Nat)
  /-- SOURCE_WAIT_RELEASE (R33): A request held at a full request-driven source is carried out in the cycle in which a place frees, in arrival order. -/
  | sourceWaitRelease (src : Nat)
  /-- GEN_RETIRE (R25): At the first cycle in which no TLP holds the previous generation, the DRAINING bit clears and a generation-retired event is issued. -/
  | genRetire (t : Fin 5)
  /-- TLP_INGRESS (R21): A TLP enters a PCIe port, its descriptor is formed and stamped, and it is coloured, guarded, translated and classified. -/
  | tlpIngress (port : Fin 96) (t : Tlp)
  /-- UPSTREAM_HOT_RESET (R134): Hot Reset or DL_Down on an upstream port resets its partition's virtual switch and ends traffic queued toward it. -/
  | upstreamHotReset (port : Fin 96) (dlDown : Bool)
  /-- SUBSCRIBER_HEAD_RELEASE (R184): An eligible pre-queue head is released into its VOQ and the subscriber's eligibility time is updated. -/
  | subscriberHeadRelease (sub : Fin 4096)
  /-- WHEEL_SLOT_RELEASE (R185): At a wheel slot boundary up to four due heads per cycle are released, setting WHEEL_LATE when more are due. -/
  | wheelSlotRelease 
  /-- ORDERED_VOQ_RELEASE (R155): A TLP held behind an earlier TLP of its port and class is released once that TLP is in its VOQ or its copies have crossed. -/
  | orderedVoqRelease (pkt : Nat)
  /-- CROSSBAR_GRANT (R156): The crossbar connects an input to an output and moves a granted packet's cells into the egress buffer. -/
  | crossbarGrant (pkt : Nat)
  /-- EGRESS_TRANSMIT (R192): The transmit stage starts the eligible head of a class on the link, subject to gates, guard band, rate and credits. -/
  | egressTransmit (turn : TransmitTurn)
  /-- MULTICAST_REPLICATE (R164): When staging and a copy slot are free, a multicast TLP moves into staging and one copy per member is enqueued. -/
  | multicastReplicate (pkt : Nat) (slot : Fin 32)
  /-- MIRROR_RECORD_WRITE (R168): The replication engine writes a staged mirror copy as a record into the analysis port's ring. -/
  | mirrorRecordWrite (sess : Fin 8)
  /-- CORE_ECC_ERROR (R174): A buffer or descriptor ECC error is corrected or, if uncorrectable, poisons or discards the packet and raises source 36. -/
  | coreEccError (buffer : Fin 73) (double : Bool) (pkt : Option Nat) (header : Bool)
  /-- CROSSBAR_PARITY_ERROR (R174): A crossbar parity error raises FATAL on source 37. -/
  | crossbarParityError 
  /-- REPLICATION_STATE_ERROR (R174): An inconsistency in the replication engine's counts or copy state raises UC on source 55. -/
  | replicationStateError (slot : Fin 32)
  /-- SPILL_SRAM_ERROR (R174): A spill SRAM error raises an event on source 54. -/
  | spillSramError (share : Fin 32) (double : Bool)
  /-- MIRROR_ENABLE (R170): Setting a mirror session's ENABLE is checked for ownership, destination and ring shape and starts copying. -/
  | mirrorEnable (path : Path) (sess : Fin 8)
  /-- MIRROR_DISABLE (R170): Clearing a mirror session's ENABLE stops new copies while staged copies are written out. -/
  | mirrorDisable (path : Path) (sess : Fin 8)
  /-- MC_EN_SET (R164): Setting CORE.CTRL.MC_EN runs the checker and is refused while multicast owns no spill share. -/
  | mcEnSet (path : Path)
  /-- LOADER_RUN (R72): After reset release or wake, the tadpole loader chooses, verifies, checks and applies an image or enters BARE. -/
  | loaderRun 
  /-- MODE_REQUEST (R37): A direct mode request is checked against the permitted transitions and refused with MODE_FORBIDS or another code. -/
  | modeRequest (path : Path) (mode : Fin 8)
  /-- IMG_STAGE (R86): IMG.CTRL.STAGE starts verification and classification of the inactive slot. -/
  | imgStage (path : Path)
  /-- IMG_STAGE_DONE (R86): Verification ends with STAGE_STATE VERIFIED and a switch-over class, or REFUSED. -/
  | imgStageDone 
  /-- IMG_SWITCH (R87): IMG.CTRL.SWITCH rechecks the staged image against runtime state and stages the switch-over at its epoch. -/
  | imgSwitch (path : Path)
  /-- IMG_CANCEL (R91): IMG.CTRL.CANCEL withdraws a SWITCH_PENDING switch-over before its drains begin. -/
  | imgCancel (path : Path)
  /-- SWITCHOVER_DRAIN_START (R87): At FT equal to the epoch minus a port's deadline, the switch starts that port's drain for the switch-over. -/
  | switchoverDrainStart (port : Fin 96)
  /-- SWITCHOVER_APPLY (R87): At the epoch a LIVE or DRAIN switch-over applies as one commit, or a RESET-class one performs a warm reset. -/
  | switchoverApply 
  /-- ARV_COMMIT (R76): IMG.CTRL.ARV_COMMIT blows anti-rollback fuses up to the active image's ARV. -/
  | arvCommit (path : Path)
  /-- FUSE_READBACK (R76): After 200 µs a blown fuse is read back, raising source 51 if it failed. -/
  | fuseReadback (ok : Bool)
  /-- KEYSLOT_REVOKE (R71): IMG.CTRL.REVOKE_OTHER burns the revocation fuse of the key slot the active image does not use. -/
  | keyslotRevoke (path : Path)
  /-- BOOTPTR_WRITE (R90): IMG.CTRL.BOOTPTR_WRITE writes the boot pointer to name BOOTPTR_SLOT. -/
  | bootptrWrite (path : Path)
  /-- FLASH_WINDOW_WRITE (R85): A write into the flash window programs a buffered 256-byte page, unless the target is protected. -/
  | flashWindowWrite (path : Path) (off : Fin 32768) (val : Word)
  /-- FLASH_ERASE (R85): IMG.FLASH_CTRL.ERASE erases the selected 64 KiB block, unless protected. -/
  | flashErase (path : Path)
  /-- FLASH_OP_DONE (R85): A flash erase or program finishes, BUSY clears and waiting window writes proceed. -/
  | flashOpDone 
  /-- COMMIT_GO (R77): GLB.COMMIT.GO snapshots the shadows and starts the checker on the resulting state. -/
  | commitGo (path : Path)
  /-- CHECKER_RESULT (R78): The checker finishes a commit or enable and reports its first failure, or accepts and applies or stages it. -/
  | checkerResult 
  /-- ENABLE_BIT_WRITE (R77): A write that sets an enable bit is queued for the checker, and the register interface stalls while the queue is full. -/
  | enableBitWrite (path : Path) (off : BitVec 24) (val : Word)
  /-- COMMIT_CANCEL (R81): GLB.COMMIT.CANCEL withdraws a STAGED commit before its epoch. -/
  | commitCancel (path : Path)
  /-- COMMIT_APPLY (R111): A staged commit applies at the first core cycle in which local FT reaches its epoch. -/
  | commitApply 
  /-- STRICT_SWEEP_END (R238): The strict sweep finishes within 50 µs, STRICT_BUSY clears and the count is journaled. -/
  | strictSweepEnd 
  /-- PPS_EDGE (R98): A TREF_PPS edge is sampled and used to set, discipline or lock FT, or counted if out of window. -/
  | ppsEdge 
  /-- PPS_EDGE_MISSED (R99): An expected edge's window passes without an edge, and two in a row are loss of reference. -/
  | ppsEdgeMissed 
  /-- TOD_RECORD (R97): A time-of-day record is received whole and accepted or counted as bad. -/
  | todRecord (bytes : List Byte)
  /-- TOD_TIMEOUT (R99): Three consecutive seconds without a valid record are loss of reference. -/
  | todTimeout 
  /-- SYNC_SEND (R102): Each interval a device not in FREE sends SYNC on every owned bundle except its upstream. -/
  | syncSend 
  /-- SYNC_RECEIVE (R101): A SYNC on the upstream bundle is used to correct FT and derive the time state, or ignored on another bundle. -/
  | syncReceive (b : Fin 4) (f : TimeFlit)
  /-- DELAY_REQ_RECEIVE (R100): A DELAY_REQ is answered with DELAY_RESP carrying its arrival FT. -/
  | delayReqReceive (b : Fin 4) (f : TimeFlit)
  /-- DELAY_RESP_RECEIVE (R100): A DELAY_RESP completes the delay measurement and offset computation. -/
  | delayRespReceive (b : Fin 4) (f : TimeFlit)
  /-- SYNC_LOSS (R101): Four intervals without a valid SYNC, or loss of the upstream bundle, is loss of reference. -/
  | syncLoss 
  /-- TIME_HOLD_LONG (R103): After 10 s of holdover HOLD_PHASE is set and the counter is paced from the AON crystal. -/
  | timeHoldLong 
  /-- AON_TICK (R94): Each 32.768 kHz tick advances the AON FT copy by 131,072 units. -/
  | aonTick 
  /-- TIME_SNAP (R116): TIME.CTRL.SNAP latches FT into TIME.SNAP_FT. -/
  | timeSnap (path : Path)
  /-- TIME_SET (R116): TIME.CTRL.SET loads TIME.SET into FT as a step with SOURCE 2, or is journaled as TIME_SET_REFUSED. -/
  | timeSet (path : Path)
  /-- PTM_REQUEST (R106): A PTM Request on a port with PTM_EN is answered with FT in nanoseconds. -/
  | ptmRequest (port : Fin 96)
  /-- PPS_OUT_PULSE (R107): With PPS_OUT 1, TREF_PPS_OUT rises at each FT whole second for 1 ms. -/
  | ppsOutPulse 
  /-- ALARM_FIRE (R108): A general alarm fires when FT reaches AT, rearms if periodic and acts for its owner. -/
  | alarmFire (n : Fin 16)
  /-- ALARM_ENABLE_WRITE (R109): A write to an alarm is accepted only from its owner, and ENABLE on an unowned alarm sets RESOURCE_OWNED. -/
  | alarmEnableWrite (path : Path) (n : Fin 16) (val : Word)
  /-- WAKE_ALARM_FIRE (R110): At an AON tick with FT at or past WAKE_AT and ARM set, FIRED is set and, in PARKED, the device wakes. -/
  | wakeAlarmFire 
  /-- PORT_ENABLE (R140): Setting PORT.CTRL.ENABLE runs the checker and, if accepted, starts training and the PERST timer. -/
  | portEnable (path : Path) (n : Fin 96)
  /-- PORT_DISABLE (R140): Clearing ENABLE on a DRAINED port takes its link to Disabled, or is refused with NOT_DRAINED. -/
  | portDisable (path : Path) (n : Fin 96)
  /-- PORT_RETRAIN (R131): PORT.CTRL.RETRAIN retrains the link toward the current target rate. -/
  | portRetrain (path : Path) (n : Fin 96)
  /-- PORT_DRAIN (R137): PORT.CTRL.DRAIN starts a drain, sampling the deadline and refusing new requests. -/
  | portDrain (path : Path) (n : Fin 96)
  /-- PORT_REOPEN (R140): PORT.CTRL.REOPEN returns a DRAINING or DRAINED port to ACTIVE, after the checker for DRAINED. -/
  | portReopen (path : Path) (n : Fin 96)
  /-- PORT_SHED (R141): PORT.CTRL.SHED sheds the port with the collector cause. -/
  | portShed (path : Path) (n : Fin 96)
  /-- PORT_UNSHED (R142): PORT.CTRL.UNSHED clears the collector cause, or is refused with FAULT_LATCHED. -/
  | portUnshed (path : Path) (n : Fin 96)
  /-- PORT_HOT_RESET (R144): PORT.CTRL.HOT_RESET sends Hot Reset on a downstream port, taking the link down as a commanded loss. -/
  | portHotReset (path : Path) (n : Fin 96)
  /-- PERST_HOLD_WRITE (R133): Setting PERST_HOLD drives PE_PERST_N low, and clearing it allows release once the other conditions hold. -/
  | perstHoldWrite (path : Path) (n : Fin 96) (hold : Bool)
  /-- PERST_RELEASE (R133): PE_PERST_N is released once 100 ms after power good or enable, REFCLK stability and ENABLE hold. -/
  | perstRelease (n : Fin 96)
  /-- REFCLK_STABLE (R145): A quadrant's REFCLK is found present and stable for 100 µs and REFCLK_OK is set. -/
  | refclkStable (report : RefclkReport)
  /-- PORT_LINK_UP (R131): Training completes at a rate and width, setting DEGRADED and raising CE if below configuration. -/
  | portLinkUp (n : Fin 96) (rate : Fin 8) (width : Fin 8) (flit : Bool) (news : LinkNews)
  /-- PORT_LINK_DOWN (R136): A downstream link goes from DL_Active to DL_Down and the switch performs the link-down flush. -/
  | portLinkDown (n : Fin 96)
  /-- DRAIN_COMPLETE (R138): A draining port with nothing queued and nothing outstanding becomes DRAINED early. -/
  | drainComplete (n : Fin 96)
  /-- DRAIN_DEADLINE (R138): At the deadline remaining requests are aborted or discarded and the port becomes DRAINED. -/
  | drainDeadline (n : Fin 96)
  /-- DPC_TRIGGER (R141): DPC or eDPC on a downstream port sheds it with the DPC cause. -/
  | dpcTrigger (n : Fin 96)
  /-- DPC_CLEAR (R142): The host clears DPC Trigger Status, clearing the DPC cause. -/
  | dpcClear (n : Fin 96)
  /-- SLOT_POWER_CONTROL_WRITE (R452): A host write of Power Controller Control sets or clears the channel's WANT. -/
  | slotPowerControlWrite (n : Fin 96) (off : Bool)
  /-- HOST_BUS_NUMBER_WRITE (R210): A host bus number write outside the partition's range is completed but not applied, counted and journaled. -/
  | hostBusNumberWrite (part : Fin 32) (dev : Fin 32) (sec : Byte) (sub : Byte)
  /-- BOUND_CONFIG_ACCESS (R217): A host configuration access to a bound function is passed on or answered by the switch for BARs, ROM, VF identity or placeholder. -/
  | boundConfigAccess (port : Fin 96) (t : Tlp)
  /-- MAILBOX_GO (R225): PART.CFG_CTRL.GO issues a configuration request to a shared port or a function below it. -/
  | mailboxGo (path : Path)
  /-- MAILBOX_COMPLETION (R225): A completion for the mailbox request arrives and RESULT and data are set. -/
  | mailboxCompletion (status : Fin 8) (data : Word)
  /-- MAILBOX_TIMEOUT (R225): No completion within 50 ms ends the mailbox request with RESULT 4. -/
  | mailboxTimeout 
  /-- GUARD_ECC_ERROR (R242): A region table ECC error is corrected, repaired from the LOCK copy or makes the region cover nothing. -/
  | guardEccError (hit : RegionHit) (double : Bool)
  /-- SCHED_ECC_ERROR (R201): A scheduler structure ECC error is corrected, or acts on the subscriber, gate list or sampler hit. -/
  | schedEccError (what : SchedEcc) (double : Bool)
  /-- GATE_ENTRY_CHANGE (R190): At an entry boundary of a running gate list the open classes change. -/
  | gateEntryChange (i : Fin 100)
  /-- GATE_LIST_START (R193): A committed gate list starts at its first cycle start at or after application. -/
  | gateListStart (i : Fin 100)
  /-- SAMPLER_PERIOD (R196): In each sampling period every sampler records depth and sojourn into its histograms. -/
  | samplerPeriod 
  /-- SAMP_SEL_WRITE (R198): A write to SCHED.SAMP_SEL copies a sampler's record into SAMP_DATA and optionally clears it. -/
  | sampSelWrite (path : Path) (val : Word)
  /-- SAMPLE_CLEAR (R205): SCHED.CTRL.SAMPLE_CLEAR zeroes every sampler's bins and peaks. -/
  | sampleClear (path : Path)
  /-- PHY_ENABLE (R248): Setting FBL.PHY_CTRL.ENABLE powers the bundle and starts its PLL, or is refused. -/
  | phyEnable (path : Path) (b : Fin 4)
  /-- PHY_DISABLE (R384): Clearing FBL.PHY_CTRL.ENABLE takes the bundle OFF at once and ends held packets. -/
  | phyDisable (path : Path) (b : Fin 4)
  /-- BUNDLE_RETRAIN (R264): FBL.PHY_CTRL.RETRAIN restarts training at the identity phase with the attempt count reset. -/
  | bundleRetrain (path : Path) (b : Fin 4)
  /-- BUNDLE_PLL_LOCK (R264): The bundle PLL locks, the clock lane runs and IDENT frames are sent. -/
  | bundlePllLock (b : Fin 4)
  /-- PARTNER_CLOCK_STABLE (R265): The partner's forwarded clock has been stable for 10 µs and training enters IDENT. -/
  | partnerClockStable (b : Fin 4)
  /-- PARTNER_CLOCK_LOSS (R268): The partner's clock is absent for 8 ns and the bundle enters DOWN with cause CLOCK. -/
  | partnerClockLoss (b : Fin 4)
  /-- TRAINING_FRAME_RECEIVE (R263): A slow-mode training frame with a good CRC is received and used for lane mapping, coefficients, width and DONE. -/
  | trainingFrameReceive (b : Fin 4) (lane : Fin 16) (f : TrainFrame)
  /-- COEF_ROUND_END (R263): A coefficient round ends, PRBS errors are counted and the next request or CHECK decision is made. -/
  | coefRoundEnd (b : Fin 4) (errs : List Nat)
  /-- TRAIN_ATTEMPT_TIMEOUT (R265): An attempt not UP within 2 ms restarts from IDENT, or after three attempts enters DOWN with TIMEOUT. -/
  | trainAttemptTimeout (b : Fin 4)
  /-- SUPERBLOCK_TRANSMIT (R251): Each superblock period the transmitter sends comma, scrambled stuffed payload and fill on every active lane. -/
  | superblockTransmit (b : Fin 4)
  /-- SUPERBLOCK_RECEIVE (R259): A superblock is received, its comma aligned, payload destuffed and descrambled, and violations counted. -/
  | superblockReceive (b : Fin 4) (lanes : List LaneBits)
  /-- NARROW_COMPLETE (R267): Narrowing reaches UP at width 8, sets NARROWED and raises CE, or goes DOWN with no half left. -/
  | narrowComplete (b : Fin 4)
  /-- LINK_PERIOD_TRANSMIT (R279): In each period the link transmitter places control flits, replayed packets and new packets in priority order. -/
  | linkPeriodTransmit (b : Fin 4)
  /-- LINK_PACKET_RECEIVE (R289): A sequenced packet is framing-checked and accepted, discarded as duplicate, or answered with NAK. -/
  | linkPacketReceive (b : Fin 4) (p : LinkPacket)
  /-- IDLE_RECEIVE (R274): An IDLE flit is received and ignored after its CRC check. -/
  | idleReceive (b : Fin 4) (crcOk : Bool)
  /-- ACK_RECEIVE (R291): An ACK frees acknowledged packets from the replay store and restates the pause mask. -/
  | ackReceive (b : Fin 4) (seq : BitVec 16) (pause : BitVec 4) (crcOk : Bool)
  /-- NAK_RECEIVE (R291): A NAK starts a replay from NAK_SEQ unless the replay in progress has not yet resent it. -/
  | nakReceive (b : Fin 4) (seq : BitVec 16) (pause : BitVec 4) (resync : Bool) (crcOk : Bool)
  /-- PAUSE_RECEIVE (R285): A PAUSE flit updates the partner's pause mask, acted on within 20 ns. -/
  | pauseReceive (b : Fin 4) (pause : BitVec 4) (crcOk : Bool)
  /-- REPLAY_RECEIVE (R290): A REPLAY flit at a period start ends RESYNC and accepting resumes at FIRST_SEQ. -/
  | replayReceive (b : Fin 4) (first : BitVec 16) (count : BitVec 16) (periodStart : Bool) (crcOk : Bool)
  /-- TRAIN_RECEIVE (R296): A partner TRAIN flit is checked for protocol and role and drives INIT, RESUME and READY exchange. -/
  | trainReceive (b : Fin 4) (f : TrainFlit) (crcOk : Bool)
  /-- TRAIN_SEND (R296): Every 100 ns during INIT or RETRAIN the link layer sends TRAIN. -/
  | trainSend (b : Fin 4)
  /-- REPLAY_TIMER_EXPIRE (R291): No acknowledgement advance for REPLAY_TIMER starts a replay, or a retrain or DOWN at the limits. -/
  | replayTimerExpire (b : Fin 4)
  /-- RESYNC_NAK_TIMER (R290): Every 1 µs in RESYNC the receiver repeats NAK with RESYNC set. -/
  | resyncNakTimer (b : Fin 4)
  /-- RESYNC_TIMEOUT (R299): Four replay timer periods in RESYNC without REPLAY request a PHY retrain. -/
  | resyncTimeout (b : Fin 4)
  /-- LINK_INIT_TIMEOUT (R299): 1 ms in INIT without ACTIVE requests a PHY retrain, or DOWN on the third time. -/
  | linkInitTimeout (b : Fin 4)
  /-- LINK_RETRAIN_TIMEOUT (R299): 1 ms in RETRAIN without PHY UP takes the link DOWN with RETRAIN_TIMEOUT. -/
  | linkRetrainTimeout (b : Fin 4)
  /-- AUTO_RESTART_EXPIRE (R298): After DOWN_HOLD_MS in DOWN with AUTO_RESTART, ENABLE is cleared. -/
  | autoRestartExpire (b : Fin 4)
  /-- AUTO_RESTART_REENABLE (R298): 200 µs after the restart clear, ENABLE is set again. -/
  | autoRestartReenable (b : Fin 4)
  /-- LINK_RESTART (R298): FBL.LL_CTRL.RESTART restarts the link from DOWN or REFUSED, or is refused with STATE_FORBIDS. -/
  | linkRestart (path : Path) (b : Fin 4)
  /-- LL_PAUSE_WRITE (R286): A write to LL_PAUSE is refused with THRESHOLD if it would break the threshold conditions. -/
  | llPauseWrite (path : Path) (b : Fin 4) (v : Fin 4) (val : Word)
  /-- LL_LIMIT_WRITE (R302): A write to LL_LIMIT with a zero field is refused with LIMIT_RANGE. -/
  | llLimitWrite (path : Path) (b : Fin 4) (val : Word)
  /-- BR_POSTED_RECEIVE (R305): A BR_POSTED packet at its destination is issued as a posted TLP, or ended with a BR_RWF notice. -/
  | brPostedReceive (b : Fin 4) (p : Tfp)
  /-- BR_ACKED_RECEIVE (R320): A BR_ACKED write is issued at the target and answered with BR_WACK when it leaves or ends. -/
  | brAckedReceive (b : Fin 4) (p : Tfp)
  /-- BR_NP_RECEIVE (R323): A BR_NP request takes an IN entry and is issued at the target port, or is ended with an error BR_CPL. -/
  | brNpReceive (b : Fin 4) (p : Tfp)
  /-- IN_COMPLETION_RECEIVE (R326): A PCIe completion for an IN entry is returned as BR_CPL, freeing the entry on the last. -/
  | inCompletionReceive (port : Fin 96) (t : Tlp)
  /-- BR_CPL_RECEIVE (R326): A BR_CPL at the origin is restored to the requester's IDs and delivered, or discarded as late. -/
  | brCplReceive (b : Fin 4) (p : Tfp)
  /-- BR_WACK_RECEIVE (R320): A BR_WACK frees its OUT entry, records a failure in the fence and releases a waiting non-posted request. -/
  | brWackReceive (b : Fin 4) (p : Tfp)
  /-- BR_RWF_RECEIVE (R322): A BR_RWF notice adds to the partition's RWF count, fills its record and raises its vector. -/
  | brRwfReceive (b : Fin 4) (p : Tfp)
  /-- BR_END_RECEIVE (R327): A BR_END is delivered to the requester as Completer Abort. -/
  | brEndReceive (b : Fin 4) (p : Tfp)
  /-- TAG_WAIT_RELEASE (R323): A request waiting for a tag entry, free tag or answer reservation proceeds when one frees. -/
  | tagWaitRelease (pkt : Nat)
  /-- RWF_NOTICE_SEND (R322): When the 10 µs window of a notice accumulator ends, a BR_RWF with the accumulated count is sent. -/
  | rwfNoticeSend (dev : Nat) (window : Nat)
  /-- FENCE_READ (R321): A read of BRG.FENCE copies the failed requesters into FENCE_SNAP and clears the fence. -/
  | fenceRead (path : Path) (w : Fin 2048)
  /-- TAG_RECLAIM (R329): BRG.TAG_CTRL.RECLAIM ends every OUT entry for RECLAIM_DEVID with Completer Abort. -/
  | tagReclaim (path : Path)
  /-- TAG_RECLAIM_DONE (R329): The reclaim finishes within 50 µs and RECLAIM_BUSY clears. -/
  | tagReclaimDone 
  /-- SB_POLL_SEND (R330): At each firing of the sideband alarm the bridge polls every valid watch entry and marks STALE after MISS_LIMIT misses. -/
  | sbPollSend 
  /-- SB_POLL_RECEIVE (R330): A polled device answers SB_POLL with SB_STATE sampled in the arrival cycle. -/
  | sbPollReceive (b : Fin 4) (p : Tfp)
  /-- SB_STATE_RECEIVE (R331): An SB_STATE answer is copied to the watch entry and a change raises its vector. -/
  | sbStateReceive (b : Fin 4) (p : Tfp)
  /-- BRIDGE_ECC_ERROR (R333): A tag, route or window ECC error is corrected, or ends the entry or disables the route or window. -/
  | bridgeEccError (what : BridgeEcc) (double : Bool)
  /-- BUNDLE_DRAIN (R384): BRG.BUNDLE_DRAIN.DRAIN makes the bundle not usable for new packets and samples its deadline. -/
  | bundleDrain (path : Path) (b : Fin 4)
  /-- BUNDLE_REOPEN (R384): BRG.BUNDLE_DRAIN.REOPEN makes a DRAINING or DRAINED bundle usable again. -/
  | bundleReopen (path : Path) (b : Fin 4)
  /-- BUNDLE_DRAIN_COMPLETE (R384): A draining bundle with nothing queued or unacknowledged becomes DRAINED early. -/
  | bundleDrainComplete (b : Fin 4)
  /-- BUNDLE_DRAIN_DEADLINE (R384): At the bundle drain deadline queued packets are ended and the bundle becomes DRAINED. -/
  | bundleDrainDeadline (b : Fin 4)
  /-- RING_ENABLE (R337): Setting RMA.RING.ENABLE starts a ring at zero indices, or is refused. -/
  | ringEnable (path : Path) (r : Fin 64)
  /-- RING_DISABLE (R340): Clearing RMA.RING.ENABLE stops the ring. -/
  | ringDisable (path : Path) (r : Fin 64)
  /-- RING_DOORBELL (R340): A write of SQ_TAIL rings the doorbell, or stops the ring with ERR on overrun. -/
  | ringDoorbell (path : Path) (r : Fin 64) (tail : BitVec 16)
  /-- RMA_DESCRIPTOR_FETCHED (R342): A fetched descriptor is processed in index order, split into segments or completed at once. -/
  | rmaDescriptorFetched (r : Fin 64) (bytes : List Byte)
  /-- RMA_HOST_READ_COMPLETE (R343): A completion for an engine read of host memory arrives, or fails its descriptor with LOCAL_PCIE. -/
  | rmaHostReadComplete (tag : Nat) (status : HostStatus) (data : List Byte)
  /-- RMA_SEGMENT_SEND (R352): When credits and an answer reservation allow, a WRITE or READ_REQ segment is encrypted and sent. -/
  | rmaSegmentSend (c : Fin 1024)
  /-- COMPLETION_RECORD_WRITE (R342): A completion record is written in index order once every earlier descriptor of the ring has completed. -/
  | completionRecordWrite (r : Fin 64)
  /-- KEY_REGISTER (R346): KEYCMD REGISTER makes a key VALID with a new generation, or is refused with KEY_STATE. -/
  | keyRegister (path : Path) (p : Fin 32)
  /-- KEY_REVOKE (R346): KEYCMD REVOKE makes a key REVOKING or REVOKED, or is refused. -/
  | keyRevoke (path : Path) (p : Fin 32)
  /-- KEY_FREE (R346): KEYCMD FREE makes a REVOKED key INVALID, or is refused. -/
  | keyFree (path : Path) (p : Fin 32)
  /-- KEY_POOL_WRITE (R346): A KEY_POOL write that removes an index holding a non-INVALID key, or overlaps a pool, is refused. -/
  | keyPoolWrite (path : Path) (p : Fin 32) (val : Word)
  /-- CONN_DATA_WRITE (R374): A write to connection words 0–2 while the connection is not FREE is refused with KEY_STATE. -/
  | connDataWrite (path : Path) (k : Fin 4) (val : Word)
  /-- CONN_OPEN (R350): CONN_CMD OPEN checks the connection's fields and moves it to OPENING, or refuses it. -/
  | connOpen (path : Path)
  /-- CONN_CLOSE (R351): CONN_CMD CLOSE flushes descriptors in progress and moves the connection to CLOSING. -/
  | connClose (path : Path)
  /-- CONN_CLOSE_COMPLETE (R351): A CLOSING connection with no validated packet in flight becomes FREE, zeroising its keys. -/
  | connCloseComplete (c : Fin 1024)
  /-- CONN_SWITCH_KEY (R355): CONN_CMD SWITCH_KEY toggles the TX phase and restarts the counter, or is refused with KEY_PHASE. -/
  | connSwitchKey (path : Path)
  /-- CRYPTO_LOAD (R354): RMA.CRYPTO_SEL.LOAD copies the key words into the selected slot and zeroes them. -/
  | cryptoLoad (path : Path)
  /-- CRYPTO_ZERO (R374): RMA.CRYPTO_SEL.ZERO zeroises the selected slot, or is refused for the TX phase in use. -/
  | cryptoZero (path : Path)
  /-- RMA_PACKET_RECEIVE (R356): An RMA packet is authenticated and duplicate-checked, then placed in staging or discarded. -/
  | rmaPacketReceive (b : Fin 4) (p : Tfp)
  /-- RMA_STAGING_TAKE (R347): A WRITE or READ_REQ taken from staging is checked against its key and placed, served or answered with NAK. -/
  | rmaStagingTake 
  /-- READ_RESP_RECEIVE (R357): A READ_RESP acknowledges its PSN and its data is written to local memory. -/
  | readRespReceive (b : Fin 4) (p : Tfp)
  /-- RMA_ACK_RECEIVE (R357): An RMA ACK acknowledges PSNs, takes the credit limit and opens an OPENING connection. -/
  | rmaAckReceive (b : Fin 4) (p : Tfp)
  /-- RMA_NAK_RECEIVE (R365): An RMA NAK fails its work request with REMOTE_NAK, or for SEQ resends from EXPECTED. -/
  | rmaNakReceive (b : Fin 4) (p : Tfp)
  /-- RESUME_RECEIVE (R367): A RESUME is answered with RESUME_ACK and the receive and send sides are realigned. -/
  | resumeReceive (b : Fin 4) (p : Tfp)
  /-- RESUME_ACK_RECEIVE (R367): A RESUME_ACK makes a RESUMING connection ACTIVE with a CONN_RESUMED event. -/
  | resumeAckReceive (b : Fin 4) (p : Tfp)
  /-- RMA_RETRANSMIT_TIMER (R361): RTO_US without acknowledgement retransmits a PSN, or breaks the connection at the retry limit. -/
  | rmaRetransmitTimer (c : Fin 1024)
  /-- CONN_OPEN_ACK_TIMER (R351): An OPENING connection sends an ACK with CUM_PSN 0xFF_FFFF every RTO_US. -/
  | connOpenAckTimer (c : Fin 1024)
  /-- RESUME_SEND_TIMER (R367): A RESUMING connection sends RESUME every RTO_US, breaking after RETRY_LIMIT unanswered. -/
  | resumeSendTimer (c : Fin 1024)
  /-- RMA_ACK_TIMER (R357): A receiver with unacknowledged arrivals sends an ACK at least once per 1 µs. -/
  | rmaAckTimer (c : Fin 1024)
  /-- RMA_ECC_ERROR (R370): A key, connection or ring ECC error is corrected, or invalidates, breaks or stops what it hit. -/
  | rmaEccError (what : RmaEcc) (double : Bool)
  /-- CRYPTO_ECC_ERROR (R371): A crypto store double-bit error zeroises the slot and breaks its connection. -/
  | cryptoEccError (c : Fin 1024) (rx : Bool) (phase : Bool) (double : Bool)
  /-- TW_HELLO_SEND (R396): TW_HELLO is sent on entering HELLO, on change of its fields and every 1 ms. -/
  | twHelloSend 
  /-- TW_HELLO_RECEIVE (R395): A partner TW_HELLO is checked and arbitration settles roles, or the pair is REFUSED. -/
  | twHelloReceive (b : Fin 4) (p : Tfp)
  /-- CHECKPOINT_SEND (R399): At each twin alarm firing while IN_SYNC, a side carrying traffic sends a checkpoint of changed records. -/
  | checkpointSend 
  /-- TW_CKPT_RECEIVE (R399): A complete checkpoint is applied in one cycle and acknowledged. -/
  | twCkptReceive (b : Fin 4) (p : Tfp)
  /-- TW_CKPT_ACK_RECEIVE (R399): A TW_CKPT_ACK advances CKPT_SENT. -/
  | twCkptAckReceive (b : Fin 4) (p : Tfp)
  /-- TW_COMMIT_RECEIVE (R380): A pair commit snapshot is checked by the partner's checker and the result returned. -/
  | twCommitReceive (b : Fin 4) (p : Tfp)
  /-- TW_COMMIT_RESULT_RECEIVE (R380): The partner's result stages the pair commit or refuses it with TWIN_MISMATCH. -/
  | twCommitResultReceive (b : Fin 4) (p : Tfp)
  /-- PAIR_COMMIT_TIMEOUT (R380): No partner answer within 10 ms refuses the pair commit with TWIN_MISMATCH. -/
  | pairCommitTimeout 
  /-- TW_ROLE_RECEIVE (R397): A TW_ROLE YIELD, TAKEOVER, HANDOVER, RESTORE or HANDBACK drives the receiving side's role change. -/
  | twRoleReceive (b : Fin 4) (p : Tfp)
  /-- TW_SYNC_RECEIVE (R394): A TW_SYNC message's records are applied to the mirror during a full sync. -/
  | twSyncReceive (b : Fin 4) (p : Tfp)
  /-- TW_SYNC_DONE_RECEIVE (R394): TW_SYNC_DONE ends a full sync and the pair enters IN_SYNC. -/
  | twSyncDoneReceive (b : Fin 4) (p : Tfp)
  /-- STATE_HASH_MISMATCH (R400): A STATE_HASH difference persisting 1 ms after a commit raises UC and returns the pair to SYNCING. -/
  | stateHashMismatch 
  /-- CROAK_TOGGLE (R403): Every 500 µs each running croak output toggles. -/
  | croakToggle (out : Fin 2)
  /-- CROAK_EDGE (R404): An edge on CROAK_IN marks its slot present and re-centres the slot grid. -/
  | croakEdge 
  /-- CROAK_SLOT_END (R404): A slot ends without an edge and three missed slots make croak lost. -/
  | croakSlotEnd 
  /-- TWIN_LINK_SILENT (R404): 1,000 µs without a good flit on the twin link makes it silent. -/
  | twinLinkSilent 
  /-- TWIN_TAKE_OVER (R406): TWIN.DECIDE.TAKE_OVER over the MSP makes a SUSPECT side fail over and send TAKEOVER. -/
  | twinTakeOver (path : Path)
  /-- TWIN_STAND_DOWN (R406): TWIN.DECIDE.STAND_DOWN makes a SUSPECT side enter SHADOW and the pair REFUSED. -/
  | twinStandDown (path : Path)
  /-- TWIN_DEMOTE (R412): TWIN.CTRL.DEMOTE sends HANDOVER and drains the data ports to hand traffic over at the epoch. -/
  | twinDemote (path : Path)
  /-- TWIN_RESTORE (R413): TWIN.CTRL.RESTORE stages the survivor's return to its former mode at the epoch. -/
  | twinRestore (path : Path)
  /-- TWIN_HANDBACK (R413): TWIN.CTRL.HANDBACK stages the survivor's drain into SHADOW at the epoch. -/
  | twinHandback (path : Path)
  /-- TWIN_RESYNC (R418): TWIN.CTRL.RESYNC starts a full sync in IN_SYNC or SYNCING. -/
  | twinResync (path : Path)
  /-- TWIN_ROLE_EPOCH (R412): At the epoch of a DEMOTE, RESTORE or HANDBACK the sides change role. -/
  | twinRoleEpoch 
  /-- PAIR_KEY_LOAD (R401): TWIN.PAIR_KEY_CTRL.LOAD copies the pair key words and restarts the IV counter. -/
  | pairKeyLoad (path : Path)
  /-- TWIN_MIRROR_ECC (R416): A mirror store ECC error is CE, or discards the mirror and returns the pair to SYNCING. -/
  | twinMirrorEcc (double : Bool)
  /-- FAULT_EVENT (R421): A block raises a fault event, which latches and is taken as a capture or a repeat. -/
  | faultEvent (src : Fin 64) (cls : Fin 4) (inst : Nat)
  /-- FAULT_STATUS_CLEAR (R431): Writing 1 to a fault status bit clears it and LATCHED, releasing pins, unless it holds a FATAL capture of 36, 37 or 52. -/
  | faultStatusClear (path : Path) (mask : BitVec 64)
  /-- FIRST_REARM (R432): Writing 1 to FLT.FIRST.VALID re-arms the first-fault record. -/
  | firstRearm (path : Path)
  /-- FAULT_INJECT (R433): FLT.INJECT.GO raises an event on source 63 treated as a real event. -/
  | faultInject (path : Path)
  /-- SHED_CMD_SHED (R428): FLT.SHED_CMD.SHED sheds the partition or bundle at once. -/
  | shedCmdShed (path : Path)
  /-- SHED_CMD_UNSHED (R428): FLT.SHED_CMD.UNSHED releases the partition or bundle, or is refused with FAULT_LATCHED. -/
  | shedCmdUnshed (path : Path)
  /-- JOURNAL_WRITE (R440): The journal unit takes a granted entry, hash-chains it and stores it in the ring. -/
  | journalWrite 
  /-- JOURNAL_DRAIN_WRITE (R443): The drain engine writes the next entry or marker into the host ring, or stops with DRAIN_ERR. -/
  | journalDrainWrite 
  /-- JOURNAL_GAP_ACK (R442): JRNL.CTRL.GAP_ACK consumes the overrun marker, clearing GAP and LOST. -/
  | journalGapAck (path : Path)
  /-- JOURNAL_RD_INDEX_WRITE (R447): A write of JRNL.RD_INDEX with DRAIN_EN 0 advances the consumer index, or is ignored if out of range. -/
  | journalRdIndexWrite (path : Path) (val : Word)
  /-- JOURNAL_ECC_ERROR (R444): A journal ECC error is corrected, or the entry is delivered with CORRUPT. -/
  | journalEccError (entry : Fin 4096) (double : Bool)
  /-- SLOT_ON (R452): SLOT.CTRL.ON sets WANT. -/
  | slotOn (path : Path) (n : Fin 16)
  /-- SLOT_OFF (R452): SLOT.CTRL.OFF clears WANT and turns the gate off with cause COMMAND. -/
  | slotOff (path : Path) (n : Fin 16)
  /-- SLOT_CLEAR (R459): SLOT.CTRL.CLEAR leaves TRIPPED or GATE_FAULT for OFF with FAULTS 0. -/
  | slotClear (path : Path) (n : Fin 16)
  /-- SLOT_KILL_CLEAR (R456): SLOT.CTRL.KILL_CLEAR leaves KILLED if Vout is below 1 V, or is refused with OUTPUT_STILL_LIVE. -/
  | slotKillClear (path : Path) (n : Fin 16)
  /-- SLOT_PRESENCE_CHANGE (R457): SLOT_PRSNT_N changes level and the debounce starts. -/
  | slotPresenceChange (n : Fin 16) (present : Bool)
  /-- SLOT_PRESENCE_DEBOUNCED (R457): Presence held 20 ms becomes debounced, starting an insertion or turning the gate off on removal. -/
  | slotPresenceDebounced (n : Fin 16)
  /-- SLOT_REMOVAL_WINDOW (R457): 500 ms of continuous absence moves the channel to EMPTY. -/
  | slotRemovalWindow (n : Fin 16)
  /-- SLOT_INSERT_DELAY_END (R453): The insertion delay ends and a waiting ramp may start. -/
  | slotInsertDelayEnd (n : Fin 16)
  /-- SLOT_OFF_TIME_END (R454): The retry off time ends and the channel ramps again or goes OFF. -/
  | slotOffTimeEnd (n : Fin 16)
  /-- SLOT_RAMP_END (R453): Vout reaches the ramp end and the channel waits for gate enhancement. -/
  | slotRampEnd (n : Fin 16)
  /-- SLOT_GATE_ENHANCED (R453): The gate enhances and the channel reports power good. -/
  | slotGateEnhanced (n : Fin 16)
  /-- SLOT_GATE_STUCK (R455): The gate not enhanced 2 ms after ramp end turns the gate off and enters GATE_FAULT. -/
  | slotGateStuck (n : Fin 16)
  /-- SLOT_LIMIT_ENTER (R454): The sense voltage reaches the limit, the channel is in limit and the fault timer counts. -/
  | slotLimitEnter (n : Fin 16)
  /-- SLOT_FAULT_TIMER (R454): The fault timer reaches TIMER and the channel trips. -/
  | slotFaultTimer (n : Fin 16)
  /-- SLOT_FAST_TRIP (R454): Current crosses three times the limit and the gate is pulled within 1 µs. -/
  | slotFastTrip (n : Fin 16)
  /-- SLOT_RAMP_STALL (R454): The ramp deadline passes and the channel trips with RAMP_STALL. -/
  | slotRampStall (n : Fin 16)
  /-- SLOT_VIN_OV (R454): VIN_SLOT above 16.5 V for 10 µs trips every powered channel. -/
  | slotVinOv 
  /-- SLOT_OUTPUT_CHECK (R456): 50 ms after a gate turn-off Vout is sampled, and a live output makes the channel KILLED. -/
  | slotOutputCheck (n : Fin 16) (mv : Nat)
  /-- SLOT_FAULTS_AGE_OUT (R454): 60 s continuously ON without limit clears FAULTS. -/
  | slotFaultsAgeOut (n : Fin 16)
  /-- SLOT_ATTENTION (R458): A debounced attention assertion sets Attention Button Pressed and the sideband ATTENTION bit. -/
  | slotAttention (n : Fin 16) (level : Bool)
  /-- SLOT_MEAS_UPDATE (R450): Every 100 µs the channel's current and voltage measurements are updated. -/
  | slotMeasUpdate (n : Fin 16) (iout : Nat) (vout : Nat) (vgate : Nat) (vin : Nat)
  /-- DIE_LINK_LOST (R459): The die link lost for 100 µs moves every channel to DIE_LOST with gates off. -/
  | dieLinkLost 
  /-- DIE_LINK_RESTORED (R459): The die link returns and each channel enters TRIPPED or KILLED. -/
  | dieLinkRestored 
  /-- MG_DISCOVER_RECEIVE (R482): MG_DISCOVER is answered with MG_IDENTITY, or a manager raises a conflict under R41. -/
  | mgDiscoverReceive (b : Fin 4) (p : Tfp)
  /-- MG_IDENTITY_RECEIVE (R485): An MG_IDENTITY answer is returned to its MDMA engine's buffer. -/
  | mgIdentityReceive (b : Fin 4) (p : Tfp)
  /-- MG_ASSIGN_RECEIVE (R482): MG_ASSIGN sets the device's DevID and VALID, or is refused. -/
  | mgAssignReceive (b : Fin 4) (p : Tfp)
  /-- MG_READ_RECEIVE (R482): MG_READ reads COUNT + 1 DW in the privileged view and answers with MG_READ_DATA. -/
  | mgReadReceive (b : Fin 4) (p : Tfp)
  /-- MG_READ_DATA_RECEIVE (R485): An MG_READ_DATA answer is written back to its engine's buffer. -/
  | mgReadDataReceive (b : Fin 4) (p : Tfp)
  /-- MG_WRITE_RECEIVE (R482): MG_WRITE writes DW in ascending order until the first refusal and answers with MG_RESULT. -/
  | mgWriteReceive (b : Fin 4) (p : Tfp)
  /-- MG_RESULT_RECEIVE (R485): An MG_RESULT answer is written back to its engine's buffer. -/
  | mgResultReceive (b : Fin 4) (p : Tfp)
  /-- MGMT_CONFIG_ACCESS (R465): A configuration access to a management function is served by its configuration header and capabilities. -/
  | mgmtConfigAccess (port : Fin 96) (t : Tlp)
  /-- MGMT_BAR_REQUEST_REFUSED (R469): A request of a size or type the management function does not accept gets Unsupported Request or is discarded. -/
  | mgmtBarRequestRefused (port : Fin 96) (t : Tlp)
  /-- MSP_WRITE (R483): An MSP write frame writes a BAR0 register and answers done, CRC error or refused. -/
  | mspWrite (frame : List Byte)
  /-- MSP_READ (R483): An MSP read frame returns a BAR0 register value with a CRC, or refused. -/
  | mspRead (frame : List Byte)
  /-- MSP_STATUS (R483): An MSP status frame returns FLT.PINS bits 7:0. -/
  | mspStatus (frame : List Byte)
  /-- MDMA_ENABLE (R487): Setting MDMA.ENG.ENABLE starts an owned engine, or is refused. -/
  | mdmaEnable (path : Path) (e : Fin 8)
  /-- MDMA_DISABLE (R487): Clearing MDMA.ENG.ENABLE completes descriptors in progress with FLUSHED. -/
  | mdmaDisable (path : Path) (e : Fin 8)
  /-- MDMA_OWNER_WRITE (R487): A write of ENG.OWNER gives the engine to a partition, or is refused while enabled or for engine 0. -/
  | mdmaOwnerWrite (path : Path) (e : Fin 8) (val : Word)
  /-- MDMA_DOORBELL (R484): A write of an engine's SQ_TAIL rings its doorbell, or stops it with ERR on overrun. -/
  | mdmaDoorbell (path : Path) (e : Fin 8) (tail : BitVec 16)
  /-- MDMA_SNAPSHOT (R485): A SNAPSHOT descriptor writes counters to host memory, or fails with PRIV. -/
  | mdmaSnapshot (e : Fin 8)
  /-- MDMA_MSG_SEND (R485): A MSG_SEND descriptor reads message content and sends it as a management message. -/
  | mdmaMsgSend (e : Fin 8)
  /-- MDMA_NOP (R484): A NOP descriptor completes with a record. -/
  | mdmaNop (e : Fin 8)
  /-- MDMA_MSG_TIMEOUT (R485): No answer within 10 ms fails a MSG_SEND with MSG_TIMEOUT. -/
  | mdmaMsgTimeout (e : Fin 8)
  /-- MDMA_ECC_ERROR (R493): An engine state ECC error is corrected, or stops the engine with ERR. -/
  | mdmaEccError (e : Fin 8) (double : Bool)
  /-- PARK_REQUEST (R501): PWR.CTRL.PARK starts the park sequence, or is refused. -/
  | parkRequest (path : Path)
  /-- PARK_SEQUENCE_STEP (R501): A step of the park sequence completes and the next begins, ending in PARKED or a refusal. -/
  | parkSequenceStep 
  /-- WAKE_PIN (R503): An enabled WAKE_IN held active for its debounce wakes the device from PARKED or latches PIN. -/
  | wakePin (i : Fin 4)
  /-- MSP_WAKE (R503): PWR.CTRL.WAKE written over the MSP in PARKED wakes the device. -/
  | mspWake 
  /-- RESET_N_WAKE (R503): RESET_N held low in PARKED wakes the device. -/
  | resetNWake 
  /-- WAKE_RETRY_TIMER (R504): 100 ms after a failed wake attempt the rails are requested on again, or FAIL is set after three. -/
  | wakeRetryTimer 
  /-- PMBUS_POLL (R498): Every 250 µs the master reads STATUS_WORD until the request's result appears, or ends it on NACK. -/
  | pmbusPoll (word : Option (BitVec 16))
  /-- PMBUS_TIMEOUT (R498): 5 ms without the result times the request out with RAIL_TIMEOUT and a UC event. -/
  | pmbusTimeout 
  /-- PMBUS_ALERT_POLL (R499): While PMB_ALERT_N is low, STATUS_WORD of each enabled rail is read every 1 ms and faults raised. -/
  | pmbusAlertPoll (words : List (Option (BitVec 16)))
  /-- RAIL_CLEAR (R499): PWR.RAIL.STATUS.CLEAR sends CLEAR_FAULTS to the rail. -/
  | railClear (path : Path) (r : Fin 4)
  /-- AVS_STEP (R500): Each 1 ms with AVS enabled the core voltage is moved one 5 mV step toward the margin target. -/
  | avsStep (marginMv : Int)
  /-- AVS_EN_WRITE (R500): Clearing AVS_EN requests 750 mV, and setting it restarts AVS. -/
  | avsEnWrite (path : Path) (en : Bool)
  /-- FUSE_PROG_KEY (R510): PWR.FUSE_CMD GO with PROG_KEY programs a key-hash slot if the lifecycle permits. -/
  | fuseProgKey (path : Path)
  /-- FUSE_SET_PROD (R510): PWR.FUSE_CMD GO with SET_PROD blows the PROD fuse if permitted. -/
  | fuseSetProd (path : Path)
  /-- FUSE_SET_RETURN (R510): PWR.FUSE_CMD GO with SET_RETURN blows the RETURN fuse if permitted. -/
  | fuseSetReturn (path : Path)
  /-- UNLOCK_CHALLENGE (R511): The JTAG UNLOCK_CHALLENGE instruction returns a nonce and the die identity. -/
  | unlockChallenge 
  /-- UNLOCK_RESPONSE (R511): The JTAG UNLOCK_RESPONSE is verified and sets UNLOCKED, or counts a failure toward lockout. -/
  | unlockResponse (bytes : List Byte)
  /-- JTAG_IDCODE (R512): The IDCODE instruction returns 0x1256_8E3D. -/
  | jtagIdcode 
  /-- JTAG_BYPASS (R512): BYPASS, or any unknown code, selects the bypass register. -/
  | jtagBypass 
  /-- JTAG_SAMPLE_PRELOAD (R512): SAMPLE/PRELOAD samples and preloads the boundary register. -/
  | jtagSamplePreload (pins : List Bool) (drive : List Bool)
  /-- JTAG_EXTEST (R512): EXTEST takes the digital pins under boundary scan. -/
  | jtagExtest 
  /-- EXTEST_EXIT (R512): Leaving EXTEST by Test-Logic-Reset or TRST_N performs a warm reset. -/
  | extestExit 
  /-- DAP_NOP (R513): A DAP_ACCESS NOP operation does nothing and reports OK. -/
  | dapNop 
  /-- DAP_BAR0_READ (R513): A DAP_ACCESS BAR0 read returns a register value, or PRIV or DOMAIN_OFF. -/
  | dapBar0Read (off : BitVec 24)
  /-- DAP_BAR0_WRITE (R513): A DAP_ACCESS BAR0 write writes a register, or reports PRIV or DOMAIN_OFF. -/
  | dapBar0Write (off : BitVec 24) (val : Word)
  /-- DAP_MEM_READ (R513): A DAP_ACCESS memory read is issued through a port with colour 0xFFE after the guard and LOCK checks. -/
  | dapMemRead (port : BitVec 7) (addr : BitVec 64)
  /-- DAP_MEM_WRITE (R513): A DAP_ACCESS memory write is issued through a port with colour 0xFFE after the guard and LOCK checks. -/
  | dapMemWrite (port : BitVec 7) (addr : BitVec 64) (val : Word)
  /-- DAP_COMPLETE (R513): The running DAP operation completes and its status is held for the next capture. -/
  | dapComplete (status : HostStatus) (data : Word)
  /-- COLD_RESET (R507): PWROK low resets everything, clearing FT, the ledger, the journal and RWS registers. -/
  | coldReset 
  /-- PWROK_RISE (R509): PWROK rises, TWIN_SIDE is sampled and FT starts at 0 in FREE. -/
  | pwrokRise (side : Bool)
  /-- FUSE_SENSE_DONE (R509): Fuses are sensed and lifecycle, key hashes, revocations and ARV counter latched. -/
  | fuseSenseDone 
  /-- WARM_RESET (R507): RESET_N low outside PARKED flushes pending events and resets the core domain, keeping warm-surviving state. -/
  | warmReset 
  /-- SOFT_WARM_RESET (R507): GLB.RESET.WARM performs a warm reset, or is refused with PRIV_PORT. -/
  | softWarmReset (path : Path)
  /-- BROWN_OUT (R530): A core-domain supply below its threshold holds the core in reset, losing waiting events, and restarts at step 5. -/
  | brownOut 
  /-- SUPPLY_EXCURSION (R530): A core-domain supply out of range for more than 10 µs raises UC on source 44. -/
  | supplyExcursion (r : Fin 4)
  /-- CORE_RELEASE (R509): With core supplies in range and RESET_N high, the core domain is released from reset. -/
  | coreRelease 
  /-- CORE_PLL_LOCK (R509): REFCLK 0 is present and the core PLL locks, and core clocks run. -/
  | corePllLock 
  /-- SRAM_INIT_DONE (R509): SRAM is cleared and ECC initialised, COLD_START or WARM_RESET is journaled and the loader starts. -/
  | sramInitDone 
  /-- XTAL_DETECT (R509): The AON crystal is detected and replaces the RC oscillator. -/
  | xtalDetect 
  /-- XTAL_STOP (R505): A stopped crystal raises UC on source 43 and the AON switches to the RC oscillator. -/
  | xtalStop 
  /-- CORE_PLL_LOSS (R505): Loss of core PLL lock, or of REFCLK 0, raises FATAL on source 52. -/
  | corePllLoss (refclk : Bool)
  /-- THERMAL_THRESHOLD (R547): A sensor sample crossing 118, 125 or 132 °C upward raises an event on source 53. -/
  | thermalThreshold (sensor : Fin 8) (level : Fin 3)
  /-- MDMA_HOST_READ_COMPLETE (R486): A completion for a management DMA engine's read of host memory (ring, descriptor or message content) arrives, letting the descriptor proceed or failing it with LOCAL_PCIE. -/
  | mdmaHostReadComplete (tag : Nat) (status : HostStatus) (data : List Byte)
  /-- VIN_SLOT_START_THRESHOLD (R453): VIN_SLOT rises to 8.5 V or above, releasing the hold on ramps so that a waiting channel with WANT set starts its ramp. -/
  | vinSlotStartThreshold 
  /-- DEMOTE_DRAIN_START (R412): At FT equal to the DEMOTE or HANDBACK epoch minus a data port's drain deadline, the switch starts that port's drain so that it is DRAINED at the epoch. -/
  | demoteDrainStart (port : Fin 96)
deriving DecidableEq, Repr

end Sys2Proof
end

