-- ==== Sys2Proof/Decode.lean ====
section
/-! DEFINITION. Decoding. No row of spec/opcode_table.json gives any bits (every row's `fields` is empty): the block takes commands,
not instruction words, so no word spells a command. -/
namespace Sys2Proof

/-- The command a word spells by the opcode table's bits: none, since no row gives bits. -/
def decodeTableWord (_nbits _w : Nat) : Option Instr := none

end Sys2Proof
end

