-- ==== Sys2Proof/Machine/Bits.lean ====
section
/-! DEFINITION. Bit fields of a word, byte order (R5: little-endian registers) and sign extension. -/
namespace Sys2Proof

/-- The `n` bits of `w` from bit `lo` upward, as a number. -/
def fieldOf (w : Word) (lo n : Nat) : Nat := w.toNat / 2 ^ lo % 2 ^ n

/-- The word whose bits `lo` to `lo + n - 1` are 1. -/
def fieldMask (lo n : Nat) : Word := BitVec.ofNat 32 (2 ^ n - 1) <<< lo

/-- `w` with its `n` bits from bit `lo` upward set to `v` (taken mod `2^n`). -/
def withField (w : Word) (lo n v : Nat) : Word :=
  (w &&& ~~~ fieldMask lo n) ||| (BitVec.ofNat 32 (v % 2 ^ n) <<< lo)

/-- Bit `i` of a number. -/
def bitOf (v i : Nat) : Bool := v.testBit i

/-- A number as `k` bytes, least significant first. -/
def leBytes : Nat → Nat → List Byte
  | 0, _ => []
  | k + 1, v => BitVec.ofNat 8 v :: leBytes k (v / 256)

/-- Bytes, least significant first, as a number. -/
def ofLe : List Byte → Nat
  | [] => 0
  | b :: bs => b.toNat + 256 * ofLe bs

/-- A number as `k` bytes, most significant first. -/
def beBytes (k v : Nat) : List Byte := (leBytes k v).reverse

/-- Bytes, most significant first, as a number. -/
def ofBe (bs : List Byte) : Nat := ofLe bs.reverse

/-- `v`, an `n`-bit two's complement number, as an integer. -/
def signedOf (n v : Nat) : Int := if v % 2 ^ n < 2 ^ (n - 1) then (v % 2 ^ n : Nat) else (v % 2 ^ n : Nat) - (2 ^ n : Nat)

/-- An integer as an `n`-bit two's complement number. -/
def unsignedOf (n : Nat) (i : Int) : Nat := (i % (2 ^ n : Nat)).toNat

/-- Saturation at the largest `n`-bit number. -/
def sat (n v : Nat) : Nat := min v (2 ^ n - 1)

/-- The least multiple of `k` at or above `v`. -/
def roundUp (v k : Nat) : Nat := (v + k - 1) / k * k

/-- `v` divided by `k`, rounded up. -/
def ceilDiv (v k : Nat) : Nat := (v + k - 1) / k

/-- `v` divided by `k`, rounded to the nearest (halves up). -/
def roundDiv (v k : Nat) : Nat := (2 * v + k) / (2 * k)

/-- The `n`-bit numbers whose bit is set in `v`, in rising order. -/
def bitsSet (n v : Nat) : List Nat := (List.range n).filter (fun i => v.testBit i)

/-- How many of the low `n` bits of `v` are set. -/
def popCount (n v : Nat) : Nat := (bitsSet n v).length

end Sys2Proof
end

