-- ==== Sys2Proof/Machine/Crc.lean ====
section
/-! DEFINITION. The cyclic redundancy checks of the manual, each from the polynomial, initial value, reflection and final XOR its rule
states: CRC-16 of R96, CRC-32 of R45, CRC-8 of R263 and R483. -/
namespace Sys2Proof

/-- One bit of an unreflected CRC of width `n`. -/
def crcBit (n poly c : Nat) (b : Bool) : Nat :=
  let top := c.testBit (n - 1) != b
  if top then (2 * c % 2 ^ n) ^^^ poly else 2 * c % 2 ^ n

/-- The bits of a byte, most significant first. -/
def bitsOf (b : Byte) : List Bool := (List.range 8).reverse.map (fun i => b.toNat.testBit i)

/-- An unreflected CRC: bits most significant first, no final XOR. -/
def crcMsb (n poly init : Nat) (m : List Byte) : Nat := (m.flatMap bitsOf).foldl (crcBit n poly) init

/-- The `n` bits of a number in reverse order. -/
def reflectBits (n v : Nat) : Nat := (List.range n).foldl (fun r i => 2 * r + bit (v.testBit i)) 0

/-- A reflected CRC: bits least significant first, register reflected, final XOR. -/
def crcLsb (n poly init fin : Nat) (m : List Byte) : Nat :=
  reflectBits n ((m.flatMap (fun b => (bitsOf b).reverse)).foldl (crcBit n poly) init) ^^^ fin

/-- CRC-16 of a time-of-day record (R96). -/
def crc16 (m : List Byte) : Nat := crcMsb 16 0x1021 0xFFFF m

/-- CRC-8 of a training frame (R263) and of an MSP frame (R483). -/
def crc8 (m : List Byte) : Nat := crcMsb 8 0x07 0xFF m

/-- CRC-32, IEEE 802.3 polynomial (R45). -/
def crc32 (m : List Byte) : Nat := crcLsb 32 0x04C11DB7 0xFFFFFFFF 0xFFFFFFFF m

/-- CRC-32C of a packet or control flit (R275, R278): polynomial 0x1EDC_6F41, reflected, initial and final XOR all ones. -/
def crc32c (m : List Byte) : Nat := crcLsb 32 0x1EDC6F41 0xFFFFFFFF 0xFFFFFFFF m

end Sys2Proof
end

