-- ==== Sys2Proof/Machine/Sha.lean ====
section
/-! DEFINITION. SHA-256 (the journal's chain, R441; STATE_HASH, R400) and SHA-384 (image sections and keys, R45, R69, R70), as the
Secure Hash Standard FIPS 180-4 gives them (PRESUMED: the manual names the functions and not their definition; log entry 3). -/
namespace Sys2Proof

/-- The 64-bit round constants; SHA-256 uses the upper halves of the first 64. -/
def shaK : List Nat :=
  [0x428A2F98D728AE22, 0x7137449123EF65CD, 0xB5C0FBCFEC4D3B2F, 0xE9B5DBA58189DBBC] ++
  [0x3956C25BF348B538, 0x59F111F1B605D019, 0x923F82A4AF194F9B, 0xAB1C5ED5DA6D8118] ++
  [0xD807AA98A3030242, 0x12835B0145706FBE, 0x243185BE4EE4B28C, 0x550C7DC3D5FFB4E2] ++
  [0x72BE5D74F27B896F, 0x80DEB1FE3B1696B1, 0x9BDC06A725C71235, 0xC19BF174CF692694] ++
  [0xE49B69C19EF14AD2, 0xEFBE4786384F25E3, 0xFC19DC68B8CD5B5, 0x240CA1CC77AC9C65] ++
  [0x2DE92C6F592B0275, 0x4A7484AA6EA6E483, 0x5CB0A9DCBD41FBD4, 0x76F988DA831153B5] ++
  [0x983E5152EE66DFAB, 0xA831C66D2DB43210, 0xB00327C898FB213F, 0xBF597FC7BEEF0EE4] ++
  [0xC6E00BF33DA88FC2, 0xD5A79147930AA725, 0x6CA6351E003826F, 0x142929670A0E6E70] ++
  [0x27B70A8546D22FFC, 0x2E1B21385C26C926, 0x4D2C6DFC5AC42AED, 0x53380D139D95B3DF] ++
  [0x650A73548BAF63DE, 0x766A0ABB3C77B2A8, 0x81C2C92E47EDAEE6, 0x92722C851482353B] ++
  [0xA2BFE8A14CF10364, 0xA81A664BBC423001, 0xC24B8B70D0F89791, 0xC76C51A30654BE30] ++
  [0xD192E819D6EF5218, 0xD69906245565A910, 0xF40E35855771202A, 0x106AA07032BBD1B8] ++
  [0x19A4C116B8D2D0C8, 0x1E376C085141AB53, 0x2748774CDF8EEB99, 0x34B0BCB5E19B48A8] ++
  [0x391C0CB3C5C95A63, 0x4ED8AA4AE3418ACB, 0x5B9CCA4F7763E373, 0x682E6FF3D6B2B8A3] ++
  [0x748F82EE5DEFB2FC, 0x78A5636F43172F60, 0x84C87814A1F0AB72, 0x8CC702081A6439EC] ++
  [0x90BEFFFA23631E28, 0xA4506CEBDE82BDE9, 0xBEF9A3F7B2C67915, 0xC67178F2E372532B] ++
  [0xCA273ECEEA26619C, 0xD186B8C721C0C207, 0xEADA7DD6CDE0EB1E, 0xF57D4F7FEE6ED178] ++
  [0x6F067AA72176FBA, 0xA637DC5A2C898A6, 0x113F9804BEF90DAE, 0x1B710B35131C471B] ++
  [0x28DB77F523047D84, 0x32CAAB7B40C72493, 0x3C9EBE0A15C9BEBC, 0x431D67C49C100D4C] ++
  [0x4CC5D4BECB3E42B6, 0x597F299CFC657E2A, 0x5FCB6FAB3AD6FAEC, 0x6C44198C4A475817]

/-- Initial hash value of SHA-256. -/
def sha256Iv : List Nat := [0x6A09E667, 0xBB67AE85, 0x3C6EF372, 0xA54FF53A, 0x510E527F, 0x9B05688C, 0x1F83D9AB, 0x5BE0CD19]

/-- Initial hash value of SHA-384. -/
def sha384Iv : List Nat :=
  [0xCBBB9D5DC1059ED8, 0x629A292A367CD507, 0x9159015A3070DD17, 0x152FECD8F70E5939] ++
  [0x67332667FFC00B31, 0x8EB44A8768581511, 0xDB0C2E0D64F98FA7, 0x47B5481DBEFA4FA4]

/-- What differs between the two functions: word width, block bytes, length-field bytes, the rotations of the four sigma functions
(last entry of the small ones a shift), the round constants. -/
structure ShaKind where
  w    : Nat
  blk  : Nat
  len  : Nat
  bs0  : Nat × Nat × Nat
  bs1  : Nat × Nat × Nat
  ss0  : Nat × Nat × Nat
  ss1  : Nat × Nat × Nat
  k    : List Nat

/-- SHA-256. -/
def sha256Kind : ShaKind :=
  ⟨32, 64, 8, (2, 13, 22), (6, 11, 25), (7, 18, 3), (17, 19, 10), (shaK.take 64).map (· / 2 ^ 32)⟩

/-- SHA-512, of which SHA-384 is the first 48 bytes under its own initial value. -/
def sha512Kind : ShaKind := ⟨64, 128, 16, (28, 34, 39), (14, 18, 41), (1, 8, 7), (19, 61, 6), shaK⟩

/-- Rotate an `n`-bit number right. -/
def rotr (n x r : Nat) : Nat := x / 2 ^ r + x % 2 ^ r * 2 ^ (n - r)

/-- A big sigma: three rotations. -/
def bigSigma (n : Nat) (r : Nat × Nat × Nat) (x : Nat) : Nat := rotr n x r.1 ^^^ rotr n x r.2.1 ^^^ rotr n x r.2.2

/-- A small sigma: two rotations and a shift. -/
def smallSigma (n : Nat) (r : Nat × Nat × Nat) (x : Nat) : Nat := rotr n x r.1 ^^^ rotr n x r.2.1 ^^^ x / 2 ^ r.2.2

/-- Bytes in groups of `n`; `fuel` bounds the number of groups. -/
def groups (n : Nat) : Nat → List Byte → List (List Byte)
  | 0, _ => []
  | fuel + 1, bs => if bs = [] then [] else bs.take n :: groups n fuel (bs.drop n)

/-- One more word of the message schedule, newest first. -/
def shaNext (k : ShaKind) (ws : List Nat) : List Nat :=
  let at_ := fun (i : Nat) => (ws[i]?).getD 0
  ((smallSigma k.w k.ss1 (at_ 1) + at_ 6 + smallSigma k.w k.ss0 (at_ 14) + at_ 15) % 2 ^ k.w) :: ws

/-- The schedule: the 16 words of a block and one more per remaining round, oldest first. -/
def shaSchedule (k : ShaKind) (block : List Byte) : List Nat :=
  let w16 := (groups (k.w / 8) 16 block).map ofBe
  ((List.range (k.k.length - 16)).foldl (fun ws _ => shaNext k ws) w16.reverse).reverse

/-- One round on the eight working variables. -/
def shaRound (k : ShaKind) (v : List Nat) (kw : Nat × Nat) : List Nat :=
  match v with
  | [a, b, c, d, e, f, g, h] =>
    let ones := 2 ^ k.w - 1
    let t1 := h + bigSigma k.w k.bs1 e + ((e &&& f) ^^^ ((e ^^^ ones) &&& g)) + kw.1 + kw.2
    let t2 := bigSigma k.w k.bs0 a + ((a &&& b) ^^^ (a &&& c) ^^^ (b &&& c))
    [(t1 + t2) % 2 ^ k.w, a, b, c, (d + t1) % 2 ^ k.w, e, f, g]
  | _ => v

/-- The compression of one block into the running hash. -/
def shaBlock (k : ShaKind) (hs : List Nat) (block : List Byte) : List Nat :=
  let v := (k.k.zip (shaSchedule k block)).foldl (shaRound k) hs
  (hs.zip v).map (fun e => (e.1 + e.2) % 2 ^ k.w)

/-- The padded message. -/
def shaPad (k : ShaKind) (m : List Byte) : List Byte :=
  let z := (2 * k.blk - 1 - k.len - m.length % k.blk) % k.blk
  m ++ [0x80] ++ List.replicate z 0 ++ beBytes k.len (8 * m.length)

/-- The hash of a message, as bytes. -/
def shaDigest (k : ShaKind) (iv : List Nat) (m : List Byte) : List Byte :=
  let p := shaPad k m
  ((groups k.blk (p.length / k.blk) p).foldl (shaBlock k) iv).flatMap (beBytes (k.w / 8))

/-- SHA-256: 32 bytes. -/
def sha256 (m : List Byte) : List Byte := shaDigest sha256Kind sha256Iv m

/-- SHA-384: 48 bytes. -/
def sha384 (m : List Byte) : List Byte := (shaDigest sha512Kind sha384Iv m).take 48

end Sys2Proof
end

