-- ==== Sys2Proof/Machine/Ecdsa.lean ====
section
/-! DEFINITION. ECDSA verification over P-384 with SHA-384 (R69, R70, R512), as FIPS 186-5 and SP 800-186 give it (PRESUMED: the manual
names the algorithm and the curve and not their definition; log entry 3). -/
namespace Sys2Proof

/-- The prime of P-384. -/
def p384P : Nat := 2 ^ 384 - 2 ^ 128 - 2 ^ 96 + 2 ^ 32 - 1
/-- The order of the base point. -/
def p384N : Nat := 0xffffffffffffffffffffffffffffffffffffffffffffffffc7634d81f4372ddf581a0db248b0a77aecec196accc52973
/-- The coefficient b. -/
def p384B : Nat := 0xb3312fa7e23ee7e4988e056be3f82d19181d9c6efe8141120314088f5013875ac656398d8a2ed19d2a85c8edd3ec2aef
/-- The base point. -/
def p384G : Nat × Nat :=
  (0xaa87ca22be8b05378eb1c71ef320ad746e1d3b628ba79b9859f741e082542a385502f25dbf55296c3a545e3872760ab7,
   0x3617de4a96262c6f5d9e98bf9292dc29f8f41dbd289a147ce9da3113b5f0b8c00a60b1ce1d7e819d7a431d7c90ea0e5f)

/-- `b ^ e mod m`, over the 384 low bits of `e`. -/
def powMod (b e m : Nat) : Nat :=
  (List.range 384).reverse.foldl (fun r i => let r2 := r * r % m; if e.testBit i then r2 * b % m else r2) 1

/-- The inverse modulo a prime. -/
def invMod (a m : Nat) : Nat := powMod (a % m) (m - 2) m

/-- A point, or none for the point at infinity. -/
abbrev Pt := Option (Nat × Nat)

/-- Point addition. -/
def ptAdd (a b : Pt) : Pt :=
  match a, b with
  | none, q => q
  | q, none => q
  | some (x1, y1), some (x2, y2) =>
    let p := p384P
    if x1 = x2 ∧ (y1 + y2) % p = 0 then none
    else
      let l := if x1 = x2 then (3 * x1 * x1 + (p - 3)) % p * invMod (2 * y1) p % p
        else (y2 + p - y1) % p * invMod (x2 + p - x1) p % p
      let x3 := (l * l + 2 * p - x1 - x2) % p
      some (x3, (l * ((x1 + p - x3) % p) + p - y1) % p)

/-- Scalar multiplication. -/
def ptMul (k : Nat) (q : Pt) : Pt :=
  (List.range 384).reverse.foldl (fun r i => let r2 := ptAdd r r; if k.testBit i then ptAdd r2 q else r2) none

/-- Whether a point lies on the curve. -/
def onCurve (x y : Nat) : Bool := x < p384P && y < p384P && y * y % p384P = (x * x * x + (p384P - 3) * x + p384B) % p384P

/-- Verify the 96-byte signature (r, s) of a message under the 96-byte public key (X, Y), all big-endian. -/
def ecdsaVerify (key sig msg : List Byte) : Bool :=
  let x := ofBe (key.take 48)
  let y := ofBe (key.drop 48)
  let r := ofBe (sig.take 48)
  let t := ofBe (sig.drop 48)
  let n := p384N
  if ¬ (0 < r ∧ r < n ∧ 0 < t ∧ t < n ∧ onCurve x y) then false
  else
    let z := ofBe (sha384 msg)
    let w := invMod t n
    match ptAdd (ptMul (z * w % n) (some p384G)) (ptMul (r * w % n) (some (x, y))) with
    | none => false
    | some (px, _) => px % n = r

end Sys2Proof
end

