-- ==== Sys2Proof/Config.lean ====
section
/-! DEFINITION. The values the manual leaves open and goes on: constants with no body, so that no proof can see what they are.
Each is applied to the state's count of free values drawn, so two draws need not agree. -/
namespace Sys2Proof

/-- A value the manual does not state, as a number. Log entry 2. -/
opaque Config.freeNat : Nat → Nat

/-- The identity the part's manufacturer fused into the die, byte by byte (R511 answers with it; the manual states no value). -/
opaque Config.dieIdentity : Nat → Byte

/-- The name of counter name `k` of the Device Description Table, character by character, where the manual gives none (R472). -/
opaque Config.counterName : Nat → Nat → Byte

end Sys2Proof
end

