-- ==== Sys2Proof/Machine/Regs.lean ====
section
/-! DEFINITION. The register map: one name per register definition of the manual with its BAR0 byte offset (R516, R517), one name
per field, and the table of definitions that the register interface reads (access type of each field, R9 and R519; reset word).
Names follow the manual: `PORT.STATUS n` is `PORT[n].STATUS`, `PORT.STATUS_DRAIN_STATE n` its field. -/
namespace Sys2Proof

/-- The access types of R9. -/
inductive Acc where
  | ro | rw | rw1c | w1s | rc | rws | rwk | sh
deriving DecidableEq, Repr

/-- One field of a register definition: lowest bit, width, access type. -/
structure FieldDef where
  lo : Nat
  n  : Nat
  acc : Acc
deriving DecidableEq, Repr

/-- Which half of a 64-bit pair a register is (R8). -/
inductive Half where
  | whole | lo | hi
deriving DecidableEq, Repr

/-- One register definition: offset of its first instance, (stride, count) of each index, its defined fields, its pair half. -/
structure RegDef where
  base   : Nat
  dims   : List (Nat × Nat)
  half   : Half
  fields : List FieldDef
deriving DecidableEq, Repr

/-- `GLB.GEN` (R27). -/
def GLB.GEN : Nat := 0x40
def GLB.GEN_GUARD_CUR : RF := ⟨GLB.GEN, 0, 4⟩
def GLB.GEN_WINDOW_CUR : RF := ⟨GLB.GEN, 4, 4⟩
def GLB.GEN_BINDING_CUR : RF := ⟨GLB.GEN, 8, 4⟩
def GLB.GEN_ROUTE_CUR : RF := ⟨GLB.GEN, 12, 4⟩
def GLB.GEN_SCHED_CUR : RF := ⟨GLB.GEN, 16, 4⟩
def GLB.GEN_GUARD_DRAINING : RF := ⟨GLB.GEN, 20, 1⟩
def GLB.GEN_WINDOW_DRAINING : RF := ⟨GLB.GEN, 21, 1⟩
def GLB.GEN_BINDING_DRAINING : RF := ⟨GLB.GEN, 22, 1⟩
def GLB.GEN_ROUTE_DRAINING : RF := ⟨GLB.GEN, 23, 1⟩
def GLB.GEN_SCHED_DRAINING : RF := ⟨GLB.GEN, 24, 1⟩
/-- `GLB.LEDGER_LO` (R36). -/
def GLB.LEDGER_LO : Nat := 0x50
def GLB.LEDGER_LO_NUM_LO : RF := ⟨GLB.LEDGER_LO, 0, 32⟩
/-- `GLB.LEDGER_HI` (R36). -/
def GLB.LEDGER_HI : Nat := 0x54
def GLB.LEDGER_HI_NUM_HI : RF := ⟨GLB.LEDGER_HI, 0, 16⟩
/-- `GLB.DEVID` (R42). -/
def GLB.DEVID : Nat := 0x48
def GLB.DEVID_DEVID : RF := ⟨GLB.DEVID, 0, 11⟩
def GLB.DEVID_VALID : RF := ⟨GLB.DEVID, 15, 1⟩
def GLB.DEVID_ROLE : RF := ⟨GLB.DEVID, 16, 2⟩
/-- `GLB.COMMIT` (R82). -/
def GLB.COMMIT : Nat := 0x60
def GLB.COMMIT_GO : RF := ⟨GLB.COMMIT, 0, 1⟩
def GLB.COMMIT_AT_EPOCH : RF := ⟨GLB.COMMIT, 1, 1⟩
def GLB.COMMIT_REVOKE_STRICT : RF := ⟨GLB.COMMIT, 2, 1⟩
def GLB.COMMIT_CHECK_ONLY : RF := ⟨GLB.COMMIT, 3, 1⟩
def GLB.COMMIT_CANCEL : RF := ⟨GLB.COMMIT, 4, 1⟩
/-- `GLB.COMMIT_STATUS` (R82). -/
def GLB.COMMIT_STATUS : Nat := 0x64
def GLB.COMMIT_STATUS_STATE : RF := ⟨GLB.COMMIT_STATUS, 0, 3⟩
def GLB.COMMIT_STATUS_REASON : RF := ⟨GLB.COMMIT_STATUS, 8, 8⟩
def GLB.COMMIT_STATUS_LOST : RF := ⟨GLB.COMMIT_STATUS, 16, 1⟩
def GLB.COMMIT_STATUS_REQUEST : RF := ⟨GLB.COMMIT_STATUS, 24, 2⟩
/-- `GLB.COMMIT_OFFENDER` (R82). -/
def GLB.COMMIT_OFFENDER : Nat := 0x68
def GLB.COMMIT_OFFENDER_INDEX : RF := ⟨GLB.COMMIT_OFFENDER, 0, 24⟩
def GLB.COMMIT_OFFENDER_SECTION : RF := ⟨GLB.COMMIT_OFFENDER, 24, 7⟩
def GLB.COMMIT_OFFENDER_KIND : RF := ⟨GLB.COMMIT_OFFENDER, 31, 1⟩
/-- `GLB.VIEW` (R82). -/
def GLB.VIEW : Nat := 0x6C
def GLB.VIEW_SHADOW : RF := ⟨GLB.VIEW, 0, 1⟩
/-- `IMG.CTRL` (R91). -/
def IMG.CTRL : Nat := 0x40000
def IMG.CTRL_STAGE : RF := ⟨IMG.CTRL, 0, 1⟩
def IMG.CTRL_SWITCH : RF := ⟨IMG.CTRL, 1, 1⟩
def IMG.CTRL_CANCEL : RF := ⟨IMG.CTRL, 2, 1⟩
def IMG.CTRL_ARV_COMMIT : RF := ⟨IMG.CTRL, 3, 1⟩
def IMG.CTRL_REVOKE_OTHER : RF := ⟨IMG.CTRL, 4, 1⟩
def IMG.CTRL_BOOTPTR_WRITE : RF := ⟨IMG.CTRL, 5, 1⟩
def IMG.CTRL_BOOTPTR_SLOT : RF := ⟨IMG.CTRL, 6, 1⟩
/-- `IMG.STATUS` (R91). -/
def IMG.STATUS : Nat := 0x40004
def IMG.STATUS_ACTIVE_SLOT : RF := ⟨IMG.STATUS, 0, 2⟩
def IMG.STATUS_STAGE_STATE : RF := ⟨IMG.STATUS, 2, 3⟩
def IMG.STATUS_CLASS : RF := ⟨IMG.STATUS, 5, 2⟩
def IMG.STATUS_LOST : RF := ⟨IMG.STATUS, 7, 1⟩
def IMG.STATUS_REASON : RF := ⟨IMG.STATUS, 8, 8⟩
def IMG.STATUS_FUSED_ARV : RF := ⟨IMG.STATUS, 16, 7⟩
def IMG.STATUS_ACTIVE_ARV : RF := ⟨IMG.STATUS, 24, 7⟩
/-- `IMG.FLASH_CTRL` (R91). -/
def IMG.FLASH_CTRL : Nat := 0x40008
def IMG.FLASH_CTRL_ERASE_HALF : RF := ⟨IMG.FLASH_CTRL, 16, 1⟩
def IMG.FLASH_CTRL_BASE : RF := ⟨IMG.FLASH_CTRL, 17, 9⟩
def IMG.FLASH_CTRL_ERASE : RF := ⟨IMG.FLASH_CTRL, 28, 1⟩
def IMG.FLASH_CTRL_BUSY : RF := ⟨IMG.FLASH_CTRL, 29, 1⟩
/-- `TIME.STATUS` (R116). -/
def TIME.STATUS : Nat := 0x10008
def TIME.STATUS_STATE : RF := ⟨TIME.STATUS, 0, 2⟩
def TIME.STATUS_SOURCE : RF := ⟨TIME.STATUS, 2, 2⟩
def TIME.STATUS_HOLD_PHASE : RF := ⟨TIME.STATUS, 4, 1⟩
def TIME.STATUS_EPOCH_OK : RF := ⟨TIME.STATUS, 5, 1⟩
def TIME.STATUS_STEPPED : RF := ⟨TIME.STATUS, 6, 1⟩
def TIME.STATUS_PPS_MISS : RF := ⟨TIME.STATUS, 7, 1⟩
def TIME.STATUS_TOD_BAD : RF := ⟨TIME.STATUS, 8, 1⟩
def TIME.STATUS_MSG_MISS : RF := ⟨TIME.STATUS, 9, 1⟩
def TIME.STATUS_EPOCH_UNLOCKED : RF := ⟨TIME.STATUS, 10, 1⟩
def TIME.STATUS_UPSTREAM : RF := ⟨TIME.STATUS, 11, 2⟩
def TIME.STATUS_HOPS : RF := ⟨TIME.STATUS, 13, 4⟩
def TIME.STATUS_LEAP_PENDING : RF := ⟨TIME.STATUS, 17, 1⟩
def TIME.STATUS_LEAP_SIGN : RF := ⟨TIME.STATUS, 18, 1⟩
def TIME.STATUS_QUALITY : RF := ⟨TIME.STATUS, 19, 4⟩
/-- `TIME.CTRL` (R116). -/
def TIME.CTRL : Nat := 0x1001C
def TIME.CTRL_INTERVAL : RF := ⟨TIME.CTRL, 0, 3⟩
def TIME.CTRL_PTM_EN : RF := ⟨TIME.CTRL, 3, 1⟩
def TIME.CTRL_SNAP : RF := ⟨TIME.CTRL, 4, 1⟩
def TIME.CTRL_SET : RF := ⟨TIME.CTRL, 5, 1⟩
/-- `TIME.ALARM.CTRL` (R116). -/
def TIME.ALARM_CTRL (n : Nat) : Nat := 0x10100 + 0x20 * n
def TIME.ALARM_CTRL_ENABLE (n : Nat) : RF := ⟨TIME.ALARM_CTRL n, 0, 1⟩
def TIME.ALARM_CTRL_PERIODIC (n : Nat) : RF := ⟨TIME.ALARM_CTRL n, 1, 1⟩
def TIME.ALARM_CTRL_VECTOR (n : Nat) : RF := ⟨TIME.ALARM_CTRL n, 8, 6⟩
/-- `TIME.ALARM.STATUS` (R116). -/
def TIME.ALARM_STATUS (n : Nat) : Nat := 0x10104 + 0x20 * n
def TIME.ALARM_STATUS_FIRED (n : Nat) : RF := ⟨TIME.ALARM_STATUS n, 0, 1⟩
def TIME.ALARM_STATUS_MISSED (n : Nat) : RF := ⟨TIME.ALARM_STATUS n, 1, 1⟩
def TIME.ALARM_STATUS_REASON (n : Nat) : RF := ⟨TIME.ALARM_STATUS n, 8, 8⟩
def TIME.ALARM_STATUS_OWNER (n : Nat) : RF := ⟨TIME.ALARM_STATUS n, 16, 8⟩
/-- `TIME.WAKE_CTRL` (R116). -/
def TIME.WAKE_CTRL : Nat := 0x10400
def TIME.WAKE_CTRL_ARM : RF := ⟨TIME.WAKE_CTRL, 0, 1⟩
def TIME.WAKE_CTRL_FIRED : RF := ⟨TIME.WAKE_CTRL, 1, 1⟩
/-- `PORT.CFG` (R144). -/
def PORT.CFG (n : Nat) : Nat := 0x80000 + 0x1000 * n
def PORT.CFG_OCTET (n : Nat) : RF := ⟨PORT.CFG n, 0, 5⟩
def PORT.CFG_LANE (n : Nat) : RF := ⟨PORT.CFG n, 5, 3⟩
def PORT.CFG_WIDTH (n : Nat) : RF := ⟨PORT.CFG n, 8, 3⟩
def PORT.CFG_ROLE (n : Nat) : RF := ⟨PORT.CFG n, 11, 2⟩
def PORT.CFG_RATE (n : Nat) : RF := ⟨PORT.CFG n, 13, 3⟩
def PORT.CFG_SRIS (n : Nat) : RF := ⟨PORT.CFG n, 16, 1⟩
def PORT.CFG_HOTPLUG (n : Nat) : RF := ⟨PORT.CFG n, 17, 1⟩
def PORT.CFG_PART (n : Nat) : RF := ⟨PORT.CFG n, 18, 5⟩
def PORT.CFG_SHARED (n : Nat) : RF := ⟨PORT.CFG n, 23, 1⟩
def PORT.CFG_SLOT (n : Nat) : RF := ⟨PORT.CFG n, 24, 8⟩
/-- `PORT.CFG2` (R144). -/
def PORT.CFG2 (n : Nat) : Nat := 0x80004 + 0x1000 * n
def PORT.CFG2_PERST (n : Nat) : RF := ⟨PORT.CFG2 n, 0, 8⟩
def PORT.CFG2_OVERHEAD (n : Nat) : RF := ⟨PORT.CFG2 n, 8, 6⟩
/-- `PORT.CTRL` (R144). -/
def PORT.CTRL (n : Nat) : Nat := 0x80008 + 0x1000 * n
def PORT.CTRL_ENABLE (n : Nat) : RF := ⟨PORT.CTRL n, 0, 1⟩
def PORT.CTRL_TARGET_RATE (n : Nat) : RF := ⟨PORT.CTRL n, 1, 3⟩
def PORT.CTRL_RETRAIN (n : Nat) : RF := ⟨PORT.CTRL n, 4, 1⟩
def PORT.CTRL_DRAIN (n : Nat) : RF := ⟨PORT.CTRL n, 5, 1⟩
def PORT.CTRL_REOPEN (n : Nat) : RF := ⟨PORT.CTRL n, 6, 1⟩
def PORT.CTRL_SHED (n : Nat) : RF := ⟨PORT.CTRL n, 7, 1⟩
def PORT.CTRL_UNSHED (n : Nat) : RF := ⟨PORT.CTRL n, 8, 1⟩
def PORT.CTRL_HOT_RESET (n : Nat) : RF := ⟨PORT.CTRL n, 9, 1⟩
def PORT.CTRL_PERST_HOLD (n : Nat) : RF := ⟨PORT.CTRL n, 10, 1⟩
def PORT.CTRL_NO_FLIT (n : Nat) : RF := ⟨PORT.CTRL n, 11, 1⟩
/-- `PORT.STATUS` (R144). -/
def PORT.STATUS (n : Nat) : Nat := 0x8000C + 0x1000 * n
def PORT.STATUS_DRAIN_STATE (n : Nat) : RF := ⟨PORT.STATUS n, 0, 2⟩
def PORT.STATUS_SHED (n : Nat) : RF := ⟨PORT.STATUS n, 2, 1⟩
def PORT.STATUS_DPC (n : Nat) : RF := ⟨PORT.STATUS n, 3, 1⟩
def PORT.STATUS_LINK_UP (n : Nat) : RF := ⟨PORT.STATUS n, 4, 1⟩
def PORT.STATUS_CUR_RATE (n : Nat) : RF := ⟨PORT.STATUS n, 5, 3⟩
def PORT.STATUS_CUR_WIDTH (n : Nat) : RF := ⟨PORT.STATUS n, 8, 3⟩
def PORT.STATUS_FLIT (n : Nat) : RF := ⟨PORT.STATUS n, 11, 1⟩
def PORT.STATUS_L0P (n : Nat) : RF := ⟨PORT.STATUS n, 12, 1⟩
def PORT.STATUS_DEGRADED (n : Nat) : RF := ⟨PORT.STATUS n, 13, 1⟩
def PORT.STATUS_SURPRISE_DOWN (n : Nat) : RF := ⟨PORT.STATUS n, 14, 1⟩
def PORT.STATUS_LTSSM (n : Nat) : RF := ⟨PORT.STATUS n, 16, 5⟩
def PORT.STATUS_REASON (n : Nat) : RF := ⟨PORT.STATUS n, 24, 8⟩
/-- `PORT.DRAIN_DEADLINE` (R144). -/
def PORT.DRAIN_DEADLINE (n : Nat) : Nat := 0x80010 + 0x1000 * n
def PORT.DRAIN_DEADLINE_DEADLINE_US (n : Nat) : RF := ⟨PORT.DRAIN_DEADLINE n, 0, 20⟩
/-- `PORT.DRAIN_STATS` (R144). -/
def PORT.DRAIN_STATS (n : Nat) : Nat := 0x80014 + 0x1000 * n
def PORT.DRAIN_STATS_NP_ABORTED (n : Nat) : RF := ⟨PORT.DRAIN_STATS n, 0, 16⟩
def PORT.DRAIN_STATS_P_DISCARDED (n : Nat) : RF := ⟨PORT.DRAIN_STATS n, 16, 16⟩
/-- `PORT.INSERTION` (R144). -/
def PORT.INSERTION (n : Nat) : Nat := 0x80018 + 0x1000 * n
def PORT.INSERTION_SERIAL (n : Nat) : RF := ⟨PORT.INSERTION n, 0, 16⟩
def PORT.INSERTION_SLOT_PORT (n : Nat) : RF := ⟨PORT.INSERTION n, 16, 1⟩
/-- `LANE.MAP` (R145). -/
def LANE.MAP (n : Nat) : Nat := 0xE0000 + 0x800 * n
def LANE.MAP_USED (n : Nat) : RF := ⟨LANE.MAP n, 0, 8⟩
def LANE.MAP_PORTS (n : Nat) : RF := ⟨LANE.MAP n, 8, 4⟩
def LANE.MAP_PAIRED (n : Nat) : RF := ⟨LANE.MAP n, 12, 1⟩
/-- `LANE.STATUS` (R145). -/
def LANE.STATUS (n : Nat) : Nat := 0xE0004 + 0x800 * n
def LANE.STATUS_RX_DETECT (n : Nat) : RF := ⟨LANE.STATUS n, 0, 8⟩
def LANE.STATUS_POLARITY (n : Nat) : RF := ⟨LANE.STATUS n, 8, 8⟩
def LANE.STATUS_REVERSED (n : Nat) : RF := ⟨LANE.STATUS n, 16, 1⟩
def LANE.STATUS_REFCLK_OK (n : Nat) : RF := ⟨LANE.STATUS n, 17, 1⟩
def LANE.STATUS_POWERED (n : Nat) : RF := ⟨LANE.STATUS n, 18, 1⟩
def LANE.STATUS_EQ_FAIL (n : Nat) : RF := ⟨LANE.STATUS n, 24, 8⟩
/-- `CORE.CTRL` (R176). -/
def CORE.CTRL : Nat := 0x110000
def CORE.CTRL_CUT_THROUGH : RF := ⟨CORE.CTRL, 0, 1⟩
def CORE.CTRL_MC_EN : RF := ⟨CORE.CTRL, 1, 1⟩
/-- `CORE.STATUS` (R176). -/
def CORE.STATUS : Nat := 0x110004
def CORE.STATUS_REASON : RF := ⟨CORE.STATUS, 0, 8⟩
def CORE.STATUS_MC_STALL : RF := ⟨CORE.STATUS, 8, 1⟩
/-- `CORE.ECC_STATUS` (R176). -/
def CORE.ECC_STATUS : Nat := 0x110008
def CORE.ECC_STATUS_CE : RF := ⟨CORE.ECC_STATUS, 0, 1⟩
def CORE.ECC_STATUS_UE : RF := ⟨CORE.ECC_STATUS, 1, 1⟩
def CORE.ECC_STATUS_BUFFER : RF := ⟨CORE.ECC_STATUS, 8, 8⟩
/-- `CORE.IBUF.LEVEL` (R176). -/
def CORE.IBUF_LEVEL (n : Nat) : Nat := 0x110100 + 0x10 * n
def CORE.IBUF_LEVEL_USED (n : Nat) : RF := ⟨CORE.IBUF_LEVEL n, 0, 16⟩
def CORE.IBUF_LEVEL_POOL_FREE (n : Nat) : RF := ⟨CORE.IBUF_LEVEL n, 16, 16⟩
/-- `CORE.IBUF.PEAK` (R176). -/
def CORE.IBUF_PEAK (n : Nat) : Nat := 0x110104 + 0x10 * n
def CORE.IBUF_PEAK_PEAK (n : Nat) : RF := ⟨CORE.IBUF_PEAK n, 0, 16⟩
/-- `CORE.PORTBUF` (R176). -/
def CORE.PORTBUF (n : Nat) : Nat := 0x110400 + 0x4 * n
def CORE.PORTBUF_MIN_CELLS (n : Nat) : RF := ⟨CORE.PORTBUF n, 0, 15⟩
def CORE.PORTBUF_SHARE (n : Nat) : RF := ⟨CORE.PORTBUF n, 16, 15⟩
/-- `CORE.MIRROR.CTRL` (R176). -/
def CORE.MIRROR_CTRL (n : Nat) : Nat := 0x110800 + 0x40 * n
def CORE.MIRROR_CTRL_ENABLE (n : Nat) : RF := ⟨CORE.MIRROR_CTRL n, 0, 1⟩
def CORE.MIRROR_CTRL_DIR (n : Nat) : RF := ⟨CORE.MIRROR_CTRL n, 1, 2⟩
def CORE.MIRROR_CTRL_FLOW (n : Nat) : RF := ⟨CORE.MIRROR_CTRL n, 3, 1⟩
def CORE.MIRROR_CTRL_SRC (n : Nat) : RF := ⟨CORE.MIRROR_CTRL n, 4, 7⟩
def CORE.MIRROR_CTRL_DEST (n : Nat) : RF := ⟨CORE.MIRROR_CTRL n, 11, 7⟩
def CORE.MIRROR_CTRL_COLOUR (n : Nat) : RF := ⟨CORE.MIRROR_CTRL n, 18, 12⟩
/-- `CORE.MIRROR.RING` (R176). -/
def CORE.MIRROR_RING (n : Nat) : Nat := 0x110820 + 0x40 * n
def CORE.MIRROR_RING_ENTRIES_EXP (n : Nat) : RF := ⟨CORE.MIRROR_RING n, 0, 5⟩
def CORE.MIRROR_RING_STRIDE_EXP (n : Nat) : RF := ⟨CORE.MIRROR_RING n, 8, 4⟩
def CORE.MIRROR_RING_TRUNC (n : Nat) : RF := ⟨CORE.MIRROR_RING n, 16, 13⟩
/-- `CORE.MIRROR.STATUS` (R176). -/
def CORE.MIRROR_STATUS (n : Nat) : Nat := 0x110824 + 0x40 * n
def CORE.MIRROR_STATUS_BUSY (n : Nat) : RF := ⟨CORE.MIRROR_STATUS n, 0, 1⟩
def CORE.MIRROR_STATUS_REASON (n : Nat) : RF := ⟨CORE.MIRROR_STATUS n, 8, 8⟩
/-- `CORE.MCG.CTRL` (R176). -/
def CORE.MCG_CTRL (n : Nat) : Nat := 0x111000 + 0x20 * n
def CORE.MCG_CTRL_ENABLE (n : Nat) : RF := ⟨CORE.MCG_CTRL n, 0, 1⟩
def CORE.MCG_CTRL_PART (n : Nat) : RF := ⟨CORE.MCG_CTRL n, 2, 5⟩
/-- `CORE.MC_MAP` (R176). -/
def CORE.MC_MAP (n : Nat) : Nat := 0x113000 + 0x4 * n
def CORE.MC_MAP_BASE (n : Nat) : RF := ⟨CORE.MC_MAP n, 0, 8⟩
def CORE.MC_MAP_COUNT (n : Nat) : RF := ⟨CORE.MC_MAP n, 8, 7⟩
/-- `CORE.COPY_SLOT` (R176). -/
def CORE.COPY_SLOT (n : Nat) : Nat := 0x113100 + 0x4 * n
def CORE.COPY_SLOT_OWNER (n : Nat) : RF := ⟨CORE.COPY_SLOT n, 0, 8⟩
def CORE.COPY_SLOT_OWNER_INST (n : Nat) : RF := ⟨CORE.COPY_SLOT n, 8, 8⟩
def CORE.COPY_SLOT_BUSY (n : Nat) : RF := ⟨CORE.COPY_SLOT n, 16, 1⟩
/-- `SCHED.CTRL` (R205). -/
def SCHED.CTRL : Nat := 0x120000
def SCHED.CTRL_SAMPLE_EN : RF := ⟨SCHED.CTRL, 0, 1⟩
def SCHED.CTRL_SAMPLE_CLEAR : RF := ⟨SCHED.CTRL, 1, 1⟩
/-- `SCHED.STATUS` (R205). -/
def SCHED.STATUS : Nat := 0x120004
def SCHED.STATUS_REASON : RF := ⟨SCHED.STATUS, 0, 8⟩
def SCHED.STATUS_WHEEL_LATE : RF := ⟨SCHED.STATUS, 8, 1⟩
def SCHED.STATUS_ECC_CE : RF := ⟨SCHED.STATUS, 9, 1⟩
def SCHED.STATUS_ECC_UE : RF := ⟨SCHED.STATUS, 10, 1⟩
/-- `SCHED.WHEEL` (R205). -/
def SCHED.WHEEL : Nat := 0x120008
def SCHED.WHEEL_SLOT_EXP : RF := ⟨SCHED.WHEEL, 0, 5⟩
def SCHED.WHEEL_SUB_BLOCKS : RF := ⟨SCHED.WHEEL, 8, 9⟩
/-- `SCHED.SAMPLE` (R205). -/
def SCHED.SAMPLE : Nat := 0x12000C
def SCHED.SAMPLE_PERIOD_US : RF := ⟨SCHED.SAMPLE, 0, 20⟩
def SCHED.SAMPLE_SOJ_EXP : RF := ⟨SCHED.SAMPLE, 20, 6⟩
/-- `SCHED.SUB_SEL` (R205). -/
def SCHED.SUB_SEL : Nat := 0x120010
def SCHED.SUB_SEL_INDEX : RF := ⟨SCHED.SUB_SEL, 0, 12⟩
/-- `SCHED.GATE_SEL` (R206). -/
def SCHED.GATE_SEL : Nat := 0x120040
def SCHED.GATE_SEL_PORTID : RF := ⟨SCHED.GATE_SEL, 0, 7⟩
def SCHED.GATE_SEL_ENTRY : RF := ⟨SCHED.GATE_SEL, 8, 8⟩
/-- `SCHED.SAMP_SEL` (R206). -/
def SCHED.SAMP_SEL : Nat := 0x120050
def SCHED.SAMP_SEL_INDEX : RF := ⟨SCHED.SAMP_SEL, 0, 15⟩
def SCHED.SAMP_SEL_CLEAR : RF := ⟨SCHED.SAMP_SEL, 15, 1⟩
/-- `SCHED.PORT.CLASS` (R207). -/
def SCHED.PORT_CLASS (n : Nat) : Nat := 0x121000 + 0x40 * n
def SCHED.PORT_CLASS_STRICT (n : Nat) : RF := ⟨SCHED.PORT_CLASS n, 0, 8⟩
/-- `SCHED.PORT.GATE_CTRL` (R207). -/
def SCHED.PORT_GATE_CTRL (n : Nat) : Nat := 0x121014 + 0x40 * n
def SCHED.PORT_GATE_CTRL_ENABLE (n : Nat) : RF := ⟨SCHED.PORT_GATE_CTRL n, 0, 1⟩
def SCHED.PORT_GATE_CTRL_ENTRIES (n : Nat) : RF := ⟨SCHED.PORT_GATE_CTRL n, 8, 9⟩
/-- `SCHED.PORT.GATE_STATUS` (R207). -/
def SCHED.PORT_GATE_STATUS (n : Nat) : Nat := 0x121030 + 0x40 * n
def SCHED.PORT_GATE_STATUS_OPEN (n : Nat) : RF := ⟨SCHED.PORT_GATE_STATUS n, 0, 8⟩
def SCHED.PORT_GATE_STATUS_ENTRY (n : Nat) : RF := ⟨SCHED.PORT_GATE_STATUS n, 8, 8⟩
def SCHED.PORT_GATE_STATUS_RUNNING (n : Nat) : RF := ⟨SCHED.PORT_GATE_STATUS n, 16, 1⟩
def SCHED.PORT_GATE_STATUS_PENDING (n : Nat) : RF := ⟨SCHED.PORT_GATE_STATUS n, 17, 1⟩
def SCHED.PORT_GATE_STATUS_FAULT (n : Nat) : RF := ⟨SCHED.PORT_GATE_STATUS n, 18, 1⟩
/-- `PART.CTRL` (R226). -/
def PART.CTRL : Nat := 0x410000
def PART.CTRL_PROXY_BUS : RF := ⟨PART.CTRL, 0, 8⟩
/-- `PART.TABLE.CTRL` (R226). -/
def PART.TABLE_CTRL (n : Nat) : Nat := 0x410100 + 0x20 * n
def PART.TABLE_CTRL_VALID (n : Nat) : RF := ⟨PART.TABLE_CTRL n, 0, 1⟩
def PART.TABLE_CTRL_UPSTREAM (n : Nat) : RF := ⟨PART.TABLE_CTRL n, 1, 7⟩
def PART.TABLE_CTRL_COLOUR (n : Nat) : RF := ⟨PART.TABLE_CTRL n, 8, 12⟩
def PART.TABLE_CTRL_VDSPS (n : Nat) : RF := ⟨PART.TABLE_CTRL n, 20, 5⟩
/-- `PART.VDSP` (R226). -/
def PART.VDSP (n : Nat) (m : Nat) : Nat := 0x411000 + 0x80 * n + 0x4 * m
def PART.VDSP_PRESENT (n : Nat) (m : Nat) : RF := ⟨PART.VDSP n m, 0, 1⟩
def PART.VDSP_KIND (n : Nat) (m : Nat) : RF := ⟨PART.VDSP n m, 1, 2⟩
def PART.VDSP_PORTID (n : Nat) (m : Nat) : RF := ⟨PART.VDSP n m, 3, 7⟩
def PART.VDSP_SEC_BUS (n : Nat) (m : Nat) : RF := ⟨PART.VDSP n m, 16, 8⟩
def PART.VDSP_SUB_BUS (n : Nat) (m : Nat) : RF := ⟨PART.VDSP n m, 24, 8⟩
/-- `PART.SHARED_VFID` (R226). -/
def PART.SHARED_VFID (n : Nat) : Nat := 0x412000 + 0x4 * n
def PART.SHARED_VFID_VENDOR (n : Nat) : RF := ⟨PART.SHARED_VFID n, 0, 16⟩
def PART.SHARED_VFID_DEVICE (n : Nat) : RF := ⟨PART.SHARED_VFID n, 16, 16⟩
/-- `PART.COLOUR_DATA0` (R226). -/
def PART.COLOUR_DATA0 : Nat := 0x410804
def PART.COLOUR_DATA0_VALID : RF := ⟨PART.COLOUR_DATA0, 0, 1⟩
def PART.COLOUR_DATA0_SELECT : RF := ⟨PART.COLOUR_DATA0, 1, 1⟩
def PART.COLOUR_DATA0_PORTID : RF := ⟨PART.COLOUR_DATA0, 2, 7⟩
def PART.COLOUR_DATA0_COLOUR : RF := ⟨PART.COLOUR_DATA0, 12, 12⟩
/-- `PART.CFG_CTRL` (R226). -/
def PART.CFG_CTRL : Nat := 0x410908
def PART.CFG_CTRL_GO : RF := ⟨PART.CFG_CTRL, 0, 1⟩
def PART.CFG_CTRL_WRITE : RF := ⟨PART.CFG_CTRL, 1, 1⟩
def PART.CFG_CTRL_BE : RF := ⟨PART.CFG_CTRL, 2, 4⟩
def PART.CFG_CTRL_TYPE : RF := ⟨PART.CFG_CTRL, 6, 1⟩
def PART.CFG_CTRL_PORTID : RF := ⟨PART.CFG_CTRL, 7, 7⟩
def PART.CFG_CTRL_BUSY : RF := ⟨PART.CFG_CTRL, 16, 1⟩
def PART.CFG_CTRL_RESULT : RF := ⟨PART.CFG_CTRL, 17, 3⟩
def PART.CFG_CTRL_REASON : RF := ⟨PART.CFG_CTRL, 24, 8⟩
/-- `GUARD.STATUS` (R245). -/
def GUARD.STATUS : Nat := 0x140000
def GUARD.STATUS_REASON : RF := ⟨GUARD.STATUS, 0, 8⟩
def GUARD.STATUS_STRICT_BUSY : RF := ⟨GUARD.STATUS, 8, 1⟩
def GUARD.STATUS_ECC_CE : RF := ⟨GUARD.STATUS, 9, 1⟩
def GUARD.STATUS_ECC_UE : RF := ⟨GUARD.STATUS, 10, 1⟩
def GUARD.STATUS_INDEX : RF := ⟨GUARD.STATUS, 16, 13⟩
/-- `GUARD.COUNT` (R245). -/
def GUARD.COUNT : Nat := 0x140004
def GUARD.COUNT_VALID : RF := ⟨GUARD.COUNT, 0, 14⟩
def GUARD.COUNT_LOCKED : RF := ⟨GUARD.COUNT, 16, 14⟩
/-- `GUARD.STRICT_STATS` (R245). -/
def GUARD.STRICT_STATS : Nat := 0x140008
def GUARD.STRICT_STATS_NP_ABORTED : RF := ⟨GUARD.STRICT_STATS, 0, 16⟩
def GUARD.STRICT_STATS_P_DISCARDED : RF := ⟨GUARD.STRICT_STATS, 16, 16⟩
/-- `GUARD.DEBUG` (R245). -/
def GUARD.DEBUG : Nat := 0x14000C
def GUARD.DEBUG_LIFECYCLE : RF := ⟨GUARD.DEBUG, 0, 2⟩
def GUARD.DEBUG_UNLOCKED : RF := ⟨GUARD.DEBUG, 2, 1⟩
def GUARD.DEBUG_LOCK_PASSES : RF := ⟨GUARD.DEBUG, 16, 16⟩
/-- `GUARD.REG_SEL` (R245). -/
def GUARD.REG_SEL : Nat := 0x140010
def GUARD.REG_SEL_INDEX : RF := ⟨GUARD.REG_SEL, 0, 13⟩
/-- `GUARD.UNIT.CTRL` (R246). -/
def GUARD.UNIT_CTRL (n : Nat) : Nat := 0x141000 + 0x40 * n
def GUARD.UNIT_CTRL_TRANSIT_CHECK (n : Nat) : RF := ⟨GUARD.UNIT_CTRL n, 0, 1⟩
def GUARD.UNIT_CTRL_IO_ALLOW (n : Nat) : RF := ⟨GUARD.UNIT_CTRL n, 1, 1⟩
/-- `GUARD.UNIT.REC_INFO` (R246). -/
def GUARD.UNIT_REC_INFO (n : Nat) : Nat := 0x141004 + 0x40 * n
def GUARD.UNIT_REC_INFO_VALID (n : Nat) : RF := ⟨GUARD.UNIT_REC_INFO n, 0, 1⟩
def GUARD.UNIT_REC_INFO_NP (n : Nat) : RF := ⟨GUARD.UNIT_REC_INFO n, 1, 1⟩
def GUARD.UNIT_REC_INFO_CAUSE (n : Nat) : RF := ⟨GUARD.UNIT_REC_INFO n, 2, 3⟩
def GUARD.UNIT_REC_INFO_ACCESS (n : Nat) : RF := ⟨GUARD.UNIT_REC_INFO n, 5, 3⟩
def GUARD.UNIT_REC_INFO_COLOUR (n : Nat) : RF := ⟨GUARD.UNIT_REC_INFO n, 8, 12⟩
def GUARD.UNIT_REC_INFO_GEN (n : Nat) : RF := ⟨GUARD.UNIT_REC_INFO n, 20, 4⟩
/-- `FBL.PHY_CTRL` (R272). -/
def FBL.PHY_CTRL (n : Nat) : Nat := 0x100000 + 0x4000 * n
def FBL.PHY_CTRL_ENABLE (n : Nat) : RF := ⟨FBL.PHY_CTRL n, 0, 1⟩
def FBL.PHY_CTRL_RETRAIN (n : Nat) : RF := ⟨FBL.PHY_CTRL n, 1, 1⟩
def FBL.PHY_CTRL_NARROW (n : Nat) : RF := ⟨FBL.PHY_CTRL n, 2, 2⟩
def FBL.PHY_CTRL_COEF_FIXED (n : Nat) : RF := ⟨FBL.PHY_CTRL n, 4, 1⟩
def FBL.PHY_CTRL_VIOL_LIMIT (n : Nat) : RF := ⟨FBL.PHY_CTRL n, 8, 8⟩
/-- `FBL.PHY_STATUS` (R272). -/
def FBL.PHY_STATUS (n : Nat) : Nat := 0x100004 + 0x4000 * n
def FBL.PHY_STATUS_STATE (n : Nat) : RF := ⟨FBL.PHY_STATUS n, 0, 4⟩
def FBL.PHY_STATUS_WIDTH (n : Nat) : RF := ⟨FBL.PHY_STATUS n, 4, 2⟩
def FBL.PHY_STATUS_REVERSED (n : Nat) : RF := ⟨FBL.PHY_STATUS n, 6, 1⟩
def FBL.PHY_STATUS_CLK_OK (n : Nat) : RF := ⟨FBL.PHY_STATUS n, 7, 1⟩
def FBL.PHY_STATUS_ATTEMPTS (n : Nat) : RF := ⟨FBL.PHY_STATUS n, 8, 2⟩
def FBL.PHY_STATUS_NARROWED (n : Nat) : RF := ⟨FBL.PHY_STATUS n, 10, 1⟩
def FBL.PHY_STATUS_DOWN_CAUSE (n : Nat) : RF := ⟨FBL.PHY_STATUS n, 11, 3⟩
def FBL.PHY_STATUS_REASON (n : Nat) : RF := ⟨FBL.PHY_STATUS n, 24, 8⟩
/-- `FBL.LANE_MAP` (R272). -/
def FBL.LANE_MAP (n : Nat) : Nat := 0x100008 + 0x4000 * n
def FBL.LANE_MAP_FAILED (n : Nat) : RF := ⟨FBL.LANE_MAP n, 0, 16⟩
def FBL.LANE_MAP_INVERTED (n : Nat) : RF := ⟨FBL.LANE_MAP n, 16, 16⟩
/-- `FBL.PHY_ERR` (R272). -/
def FBL.PHY_ERR (n : Nat) : Nat := 0x10000C + 0x4000 * n
def FBL.PHY_ERR_CODE_VIOL (n : Nat) : RF := ⟨FBL.PHY_ERR n, 0, 16⟩
def FBL.PHY_ERR_COMMA_MISS (n : Nat) : RF := ⟨FBL.PHY_ERR n, 16, 8⟩
def FBL.PHY_ERR_NARROWS (n : Nat) : RF := ⟨FBL.PHY_ERR n, 24, 8⟩
/-- `FBL.TX_COEF` (R272). -/
def FBL.TX_COEF (n : Nat) (m : Nat) : Nat := 0x100040 + 0x4000 * n + 0x4 * m
def FBL.TX_COEF_PRE (n : Nat) (m : Nat) : RF := ⟨FBL.TX_COEF n m, 0, 4⟩
def FBL.TX_COEF_POST (n : Nat) (m : Nat) : RF := ⟨FBL.TX_COEF n m, 4, 5⟩
def FBL.TX_COEF_MAIN (n : Nat) (m : Nat) : RF := ⟨FBL.TX_COEF n m, 9, 6⟩
/-- `FBL.RX_STATUS` (R272). -/
def FBL.RX_STATUS (n : Nat) (m : Nat) : Nat := 0x100080 + 0x4000 * n + 0x4 * m
def FBL.RX_STATUS_SKEW (n : Nat) (m : Nat) : RF := ⟨FBL.RX_STATUS n m, 0, 6⟩
def FBL.RX_STATUS_PHASE (n : Nat) (m : Nat) : RF := ⟨FBL.RX_STATUS n m, 8, 6⟩
def FBL.RX_STATUS_VIOL (n : Nat) (m : Nat) : RF := ⟨FBL.RX_STATUS n m, 16, 8⟩
/-- `FBL.LL_CTRL` (R303). -/
def FBL.LL_CTRL (n : Nat) : Nat := 0x100100 + 0x4000 * n
def FBL.LL_CTRL_RESTART (n : Nat) : RF := ⟨FBL.LL_CTRL n, 0, 1⟩
def FBL.LL_CTRL_AUTO_RESTART (n : Nat) : RF := ⟨FBL.LL_CTRL n, 1, 1⟩
def FBL.LL_CTRL_DOWN_HOLD_MS (n : Nat) : RF := ⟨FBL.LL_CTRL n, 2, 8⟩
/-- `FBL.LL_LIMIT` (R303). -/
def FBL.LL_LIMIT (n : Nat) : Nat := 0x100104 + 0x4000 * n
def FBL.LL_LIMIT_REPLAY_LIMIT (n : Nat) : RF := ⟨FBL.LL_LIMIT n, 0, 4⟩
def FBL.LL_LIMIT_RETRAIN_LIMIT (n : Nat) : RF := ⟨FBL.LL_LIMIT n, 4, 4⟩
def FBL.LL_LIMIT_REPLAY_TIMER (n : Nat) : RF := ⟨FBL.LL_LIMIT n, 8, 6⟩
/-- `FBL.LL_STATUS` (R303). -/
def FBL.LL_STATUS (n : Nat) : Nat := 0x100108 + 0x4000 * n
def FBL.LL_STATUS_STATE (n : Nat) : RF := ⟨FBL.LL_STATUS n, 0, 3⟩
def FBL.LL_STATUS_SEQ_STALL (n : Nat) : RF := ⟨FBL.LL_STATUS n, 3, 1⟩
def FBL.LL_STATUS_STORE_STALL (n : Nat) : RF := ⟨FBL.LL_STATUS n, 4, 1⟩
def FBL.LL_STATUS_PAUSE_RX (n : Nat) : RF := ⟨FBL.LL_STATUS n, 5, 4⟩
def FBL.LL_STATUS_PAUSE_TX (n : Nat) : RF := ⟨FBL.LL_STATUS n, 9, 4⟩
def FBL.LL_STATUS_DOWN_CAUSE (n : Nat) : RF := ⟨FBL.LL_STATUS n, 13, 3⟩
def FBL.LL_STATUS_REASON (n : Nat) : RF := ⟨FBL.LL_STATUS n, 24, 8⟩
/-- `FBL.LL_PAUSE` (R303). -/
def FBL.LL_PAUSE (n : Nat) (m : Nat) : Nat := 0x100110 + 0x4000 * n + 0x4 * m
def FBL.LL_PAUSE_XOFF (n : Nat) (m : Nat) : RF := ⟨FBL.LL_PAUSE n m, 0, 16⟩
def FBL.LL_PAUSE_XON (n : Nat) (m : Nat) : RF := ⟨FBL.LL_PAUSE n m, 16, 16⟩
/-- `FBL.LL_TXSEQ` (R303). -/
def FBL.LL_TXSEQ (n : Nat) : Nat := 0x100120 + 0x4000 * n
def FBL.LL_TXSEQ_NEXT (n : Nat) : RF := ⟨FBL.LL_TXSEQ n, 0, 16⟩
def FBL.LL_TXSEQ_OLDEST (n : Nat) : RF := ⟨FBL.LL_TXSEQ n, 16, 16⟩
/-- `FBL.LL_RXSEQ` (R303). -/
def FBL.LL_RXSEQ (n : Nat) : Nat := 0x100124 + 0x4000 * n
def FBL.LL_RXSEQ_NEXT (n : Nat) : RF := ⟨FBL.LL_RXSEQ n, 0, 16⟩
/-- `FBL.LL_STORE` (R303). -/
def FBL.LL_STORE (n : Nat) : Nat := 0x100128 + 0x4000 * n
def FBL.LL_STORE_OUTSTANDING (n : Nat) : RF := ⟨FBL.LL_STORE n, 0, 16⟩
def FBL.LL_STORE_SHARES (n : Nat) : RF := ⟨FBL.LL_STORE n, 16, 6⟩
def FBL.LL_STORE_SPILLING (n : Nat) : RF := ⟨FBL.LL_STORE n, 22, 1⟩
/-- `FBL.LL_PEER` (R303). -/
def FBL.LL_PEER (n : Nat) : Nat := 0x10012C + 0x4000 * n
def FBL.LL_PEER_DEVID (n : Nat) : RF := ⟨FBL.LL_PEER n, 0, 11⟩
def FBL.LL_PEER_VALID (n : Nat) : RF := ⟨FBL.LL_PEER n, 11, 1⟩
def FBL.LL_PEER_MODE (n : Nat) : RF := ⟨FBL.LL_PEER n, 12, 3⟩
def FBL.LL_PEER_SIDE (n : Nat) : RF := ⟨FBL.LL_PEER n, 15, 1⟩
def FBL.LL_PEER_ROLE (n : Nat) : RF := ⟨FBL.LL_PEER n, 16, 1⟩
/-- `FBL.LL_ERR` (R303). -/
def FBL.LL_ERR (n : Nat) : Nat := 0x100130 + 0x4000 * n
def FBL.LL_ERR_CRC_ERR (n : Nat) : RF := ⟨FBL.LL_ERR n, 0, 16⟩
def FBL.LL_ERR_DUP (n : Nat) : RF := ⟨FBL.LL_ERR n, 16, 16⟩
/-- `FBL.LL_ERR2` (R303). -/
def FBL.LL_ERR2 (n : Nat) : Nat := 0x100134 + 0x4000 * n
def FBL.LL_ERR2_REPLAYS (n : Nat) : RF := ⟨FBL.LL_ERR2 n, 0, 16⟩
def FBL.LL_ERR2_RETRAINS (n : Nat) : RF := ⟨FBL.LL_ERR2 n, 16, 8⟩
def FBL.LL_ERR2_DOWNS (n : Nat) : RF := ⟨FBL.LL_ERR2 n, 24, 8⟩
/-- `FBL.LL_DOWN_REC` (R303). -/
def FBL.LL_DOWN_REC (n : Nat) : Nat := 0x100138 + 0x4000 * n
def FBL.LL_DOWN_REC_NP_ENDED (n : Nat) : RF := ⟨FBL.LL_DOWN_REC n, 0, 16⟩
def FBL.LL_DOWN_REC_DISCARDED (n : Nat) : RF := ⟨FBL.LL_DOWN_REC n, 16, 16⟩
/-- `FBL.LL_OVERFLOW` (R303). -/
def FBL.LL_OVERFLOW (n : Nat) : Nat := 0x10013C + 0x4000 * n
def FBL.LL_OVERFLOW_COUNT (n : Nat) : RF := ⟨FBL.LL_OVERFLOW n, 0, 16⟩
/-- `BRG.CTRL` (R336). -/
def BRG.CTRL : Nat := 0x180000
def BRG.CTRL_TAG_BITS : RF := ⟨BRG.CTRL, 0, 2⟩
/-- `BRG.STATUS` (R336). -/
def BRG.STATUS : Nat := 0x180004
def BRG.STATUS_REASON : RF := ⟨BRG.STATUS, 0, 8⟩
def BRG.STATUS_RECLAIM_BUSY : RF := ⟨BRG.STATUS, 8, 1⟩
def BRG.STATUS_ECC_CE : RF := ⟨BRG.STATUS, 9, 1⟩
def BRG.STATUS_ECC_UE : RF := ⟨BRG.STATUS, 10, 1⟩
/-- `BRG.TAG_CTRL` (R336). -/
def BRG.TAG_CTRL : Nat := 0x180008
def BRG.TAG_CTRL_IN_RESERVE : RF := ⟨BRG.TAG_CTRL, 0, 14⟩
def BRG.TAG_CTRL_RECLAIM : RF := ⟨BRG.TAG_CTRL, 14, 1⟩
def BRG.TAG_CTRL_RECLAIM_DEVID : RF := ⟨BRG.TAG_CTRL, 16, 11⟩
/-- `BRG.TAG_STATUS` (R336). -/
def BRG.TAG_STATUS : Nat := 0x18000C
def BRG.TAG_STATUS_OUT_USED : RF := ⟨BRG.TAG_STATUS, 0, 15⟩
def BRG.TAG_STATUS_IN_USED : RF := ⟨BRG.TAG_STATUS, 16, 15⟩
/-- `BRG.RSP_BUDGET` (R336). -/
def BRG.RSP_BUDGET : Nat := 0x180010
def BRG.RSP_BUDGET_CELLS : RF := ⟨BRG.RSP_BUDGET, 0, 14⟩
def BRG.RSP_BUDGET_USED : RF := ⟨BRG.RSP_BUDGET, 16, 14⟩
/-- `BRG.LATE_REC` (R336). -/
def BRG.LATE_REC : Nat := 0x18001C
def BRG.LATE_REC_VALID : RF := ⟨BRG.LATE_REC, 0, 1⟩
def BRG.LATE_REC_STATUS : RF := ⟨BRG.LATE_REC, 1, 3⟩
def BRG.LATE_REC_CAUSE : RF := ⟨BRG.LATE_REC, 4, 4⟩
def BRG.LATE_REC_DEVID : RF := ⟨BRG.LATE_REC, 8, 11⟩
/-- `BRG.SB_CTRL` (R336). -/
def BRG.SB_CTRL : Nat := 0x180020
def BRG.SB_CTRL_ENABLE : RF := ⟨BRG.SB_CTRL, 0, 1⟩
def BRG.SB_CTRL_PERIOD_US : RF := ⟨BRG.SB_CTRL, 1, 20⟩
def BRG.SB_CTRL_MISS_LIMIT : RF := ⟨BRG.SB_CTRL, 21, 4⟩
/-- `BRG.RWF.INFO` (R336). -/
def BRG.RWF_INFO (n : Nat) : Nat := 0x180400 + 0x20 * n
def BRG.RWF_INFO_VALID (n : Nat) : RF := ⟨BRG.RWF_INFO n, 0, 1⟩
def BRG.RWF_INFO_WINDOW (n : Nat) : RF := ⟨BRG.RWF_INFO n, 1, 11⟩
def BRG.RWF_INFO_CAUSE (n : Nat) : RF := ⟨BRG.RWF_INFO n, 12, 4⟩
def BRG.RWF_INFO_DEVID (n : Nat) : RF := ⟨BRG.RWF_INFO n, 16, 11⟩
/-- `BRG.ROUTE` (R336). -/
def BRG.ROUTE (n : Nat) : Nat := 0x181000 + 0x4 * n
def BRG.ROUTE_PRIMARY (n : Nat) : RF := ⟨BRG.ROUTE n, 0, 3⟩
def BRG.ROUTE_ALTERNATE (n : Nat) : RF := ⟨BRG.ROUTE n, 3, 3⟩
def BRG.ROUTE_TRANSIT (n : Nat) : RF := ⟨BRG.ROUTE n, 6, 3⟩
def BRG.ROUTE_IN_USE (n : Nat) : RF := ⟨BRG.ROUTE n, 10, 2⟩
/-- `BRG.LEND` (R336). -/
def BRG.LEND (n : Nat) : Nat := 0x183000 + 0x4 * n
def BRG.LEND_VALID (n : Nat) : RF := ⟨BRG.LEND n, 0, 1⟩
def BRG.LEND_DEVID (n : Nat) : RF := ⟨BRG.LEND n, 1, 11⟩
def BRG.LEND_PORTID (n : Nat) : RF := ⟨BRG.LEND n, 12, 7⟩
/-- `BRG.SB_WATCH.CFG` (R336). -/
def BRG.SB_WATCH_CFG (n : Nat) : Nat := 0x183200 + 0x8 * n
def BRG.SB_WATCH_CFG_VALID (n : Nat) : RF := ⟨BRG.SB_WATCH_CFG n, 0, 1⟩
def BRG.SB_WATCH_CFG_DEVID (n : Nat) : RF := ⟨BRG.SB_WATCH_CFG n, 1, 11⟩
def BRG.SB_WATCH_CFG_PORTID (n : Nat) : RF := ⟨BRG.SB_WATCH_CFG n, 12, 7⟩
def BRG.SB_WATCH_CFG_PART (n : Nat) : RF := ⟨BRG.SB_WATCH_CFG n, 19, 5⟩
def BRG.SB_WATCH_CFG_VECTOR (n : Nat) : RF := ⟨BRG.SB_WATCH_CFG n, 24, 6⟩
def BRG.SB_WATCH_CFG_STALE (n : Nat) : RF := ⟨BRG.SB_WATCH_CFG n, 30, 1⟩
/-- `BRG.FENCE` (R336). -/
def BRG.FENCE (n : Nat) : Nat := 0x184000 + 0x10 * n
def BRG.FENCE_FAILED (n : Nat) : RF := ⟨BRG.FENCE n, 0, 1⟩
def BRG.FENCE_ALL (n : Nat) : RF := ⟨BRG.FENCE n, 1, 1⟩
def BRG.FENCE_RIDS (n : Nat) : RF := ⟨BRG.FENCE n, 2, 4⟩
def BRG.FENCE_FAILS (n : Nat) : RF := ⟨BRG.FENCE n, 16, 16⟩
/-- `BRG.FENCE_SNAP.INFO` (R336). -/
def BRG.FENCE_SNAP_INFO (n : Nat) : Nat := 0x180800 + 0x20 * n
def BRG.FENCE_SNAP_INFO_WINDOW (n : Nat) : RF := ⟨BRG.FENCE_SNAP_INFO n, 0, 11⟩
def BRG.FENCE_SNAP_INFO_RIDS (n : Nat) : RF := ⟨BRG.FENCE_SNAP_INFO n, 11, 4⟩
def BRG.FENCE_SNAP_INFO_ALL (n : Nat) : RF := ⟨BRG.FENCE_SNAP_INFO n, 15, 1⟩
def BRG.FENCE_SNAP_INFO_VALID (n : Nat) : RF := ⟨BRG.FENCE_SNAP_INFO n, 16, 1⟩
/-- `RMA.STATUS` (R374). -/
def RMA.STATUS : Nat := 0x1C0004
def RMA.STATUS_REASON : RF := ⟨RMA.STATUS, 0, 8⟩
def RMA.STATUS_READS_OUT : RF := ⟨RMA.STATUS, 8, 10⟩
def RMA.STATUS_ECC_CE : RF := ⟨RMA.STATUS, 18, 1⟩
def RMA.STATUS_ECC_UE : RF := ⟨RMA.STATUS, 19, 1⟩
/-- `RMA.RING.CTRL` (R374). -/
def RMA.RING_CTRL (n : Nat) : Nat := 0x1C1004 + 0x40 * n
def RMA.RING_CTRL_ENABLE (n : Nat) : RF := ⟨RMA.RING_CTRL n, 0, 1⟩
def RMA.RING_CTRL_SIZE_EXP (n : Nat) : RF := ⟨RMA.RING_CTRL n, 1, 5⟩
def RMA.RING_CTRL_VECTOR (n : Nat) : RF := ⟨RMA.RING_CTRL n, 6, 6⟩
def RMA.RING_CTRL_EVT_EN (n : Nat) : RF := ⟨RMA.RING_CTRL n, 12, 1⟩
/-- `RMA.RING.STATUS` (R374). -/
def RMA.RING_STATUS (n : Nat) : Nat := 0x1C1030 + 0x40 * n
def RMA.RING_STATUS_RUNNING (n : Nat) : RF := ⟨RMA.RING_STATUS n, 0, 1⟩
def RMA.RING_STATUS_ERR (n : Nat) : RF := ⟨RMA.RING_STATUS n, 1, 1⟩
def RMA.RING_STATUS_REASON (n : Nat) : RF := ⟨RMA.RING_STATUS n, 8, 8⟩
/-- `RMA.CRYPTO_SEL` (R374). -/
def RMA.CRYPTO_SEL : Nat := 0x1C3100
def RMA.CRYPTO_SEL_CONN : RF := ⟨RMA.CRYPTO_SEL, 0, 10⟩
def RMA.CRYPTO_SEL_DIR : RF := ⟨RMA.CRYPTO_SEL, 10, 1⟩
def RMA.CRYPTO_SEL_PHASE : RF := ⟨RMA.CRYPTO_SEL, 11, 1⟩
def RMA.CRYPTO_SEL_LOAD : RF := ⟨RMA.CRYPTO_SEL, 12, 1⟩
def RMA.CRYPTO_SEL_ZERO : RF := ⟨RMA.CRYPTO_SEL, 13, 1⟩
def RMA.CRYPTO_SEL_LOADED : RF := ⟨RMA.CRYPTO_SEL, 14, 1⟩
/-- `BRG.BUNDLE_DRAIN.CTRL` (R391). -/
def BRG.BUNDLE_DRAIN_CTRL (n : Nat) : Nat := 0x18C000 + 0x10 * n
def BRG.BUNDLE_DRAIN_CTRL_DRAIN (n : Nat) : RF := ⟨BRG.BUNDLE_DRAIN_CTRL n, 0, 1⟩
def BRG.BUNDLE_DRAIN_CTRL_REOPEN (n : Nat) : RF := ⟨BRG.BUNDLE_DRAIN_CTRL n, 1, 1⟩
/-- `BRG.BUNDLE_DRAIN.STATUS` (R391). -/
def BRG.BUNDLE_DRAIN_STATUS (n : Nat) : Nat := 0x18C004 + 0x10 * n
def BRG.BUNDLE_DRAIN_STATUS_STATE (n : Nat) : RF := ⟨BRG.BUNDLE_DRAIN_STATUS n, 0, 2⟩
def BRG.BUNDLE_DRAIN_STATUS_SHED (n : Nat) : RF := ⟨BRG.BUNDLE_DRAIN_STATUS n, 2, 1⟩
def BRG.BUNDLE_DRAIN_STATUS_RESERVED_SW (n : Nat) : RF := ⟨BRG.BUNDLE_DRAIN_STATUS n, 3, 1⟩
def BRG.BUNDLE_DRAIN_STATUS_REASON (n : Nat) : RF := ⟨BRG.BUNDLE_DRAIN_STATUS n, 8, 8⟩
/-- `BRG.BUNDLE_DRAIN.DEADLINE` (R391). -/
def BRG.BUNDLE_DRAIN_DEADLINE (n : Nat) : Nat := 0x18C008 + 0x10 * n
def BRG.BUNDLE_DRAIN_DEADLINE_DEADLINE_US (n : Nat) : RF := ⟨BRG.BUNDLE_DRAIN_DEADLINE n, 0, 20⟩
/-- `BRG.BUNDLE_DRAIN.STATS` (R391). -/
def BRG.BUNDLE_DRAIN_STATS (n : Nat) : Nat := 0x18C00C + 0x10 * n
def BRG.BUNDLE_DRAIN_STATS_NP_ABORTED (n : Nat) : RF := ⟨BRG.BUNDLE_DRAIN_STATS n, 0, 16⟩
def BRG.BUNDLE_DRAIN_STATS_P_DISCARDED (n : Nat) : RF := ⟨BRG.BUNDLE_DRAIN_STATS n, 16, 16⟩
/-- `TWIN.CTRL` (R418). -/
def TWIN.CTRL : Nat := 0x210000
def TWIN.CTRL_DEMOTE : RF := ⟨TWIN.CTRL, 0, 1⟩
def TWIN.CTRL_RESTORE : RF := ⟨TWIN.CTRL, 1, 1⟩
def TWIN.CTRL_HANDBACK : RF := ⟨TWIN.CTRL, 2, 1⟩
def TWIN.CTRL_RESYNC : RF := ⟨TWIN.CTRL, 3, 1⟩
/-- `TWIN.STATUS` (R418). -/
def TWIN.STATUS : Nat := 0x210004
def TWIN.STATUS_PAIR : RF := ⟨TWIN.STATUS, 0, 3⟩
def TWIN.STATUS_SIDE : RF := ⟨TWIN.STATUS, 3, 1⟩
def TWIN.STATUS_ARRANGE : RF := ⟨TWIN.STATUS, 4, 1⟩
def TWIN.STATUS_UPDATE : RF := ⟨TWIN.STATUS, 5, 1⟩
def TWIN.STATUS_CROAK_OK : RF := ⟨TWIN.STATUS, 6, 1⟩
def TWIN.STATUS_LINK_OK : RF := ⟨TWIN.STATUS, 7, 1⟩
def TWIN.STATUS_CAUSE : RF := ⟨TWIN.STATUS, 8, 4⟩
def TWIN.STATUS_SYNC_STALE : RF := ⟨TWIN.STATUS, 12, 1⟩
def TWIN.STATUS_CROAK_STOPPED : RF := ⟨TWIN.STATUS, 13, 1⟩
def TWIN.STATUS_REASON : RF := ⟨TWIN.STATUS, 24, 8⟩
/-- `TWIN.DECIDE` (R418). -/
def TWIN.DECIDE : Nat := 0x210010
def TWIN.DECIDE_TAKE_OVER : RF := ⟨TWIN.DECIDE, 0, 1⟩
def TWIN.DECIDE_STAND_DOWN : RF := ⟨TWIN.DECIDE, 1, 1⟩
/-- `TWIN.PEER` (R418). -/
def TWIN.PEER : Nat := 0x210014
def TWIN.PEER_DEVID : RF := ⟨TWIN.PEER, 0, 11⟩
def TWIN.PEER_VALID : RF := ⟨TWIN.PEER, 11, 1⟩
def TWIN.PEER_MODE : RF := ⟨TWIN.PEER, 12, 3⟩
def TWIN.PEER_ALIAS_DEVID : RF := ⟨TWIN.PEER, 16, 11⟩
def TWIN.PEER_ALIAS_ACTIVE : RF := ⟨TWIN.PEER, 27, 1⟩
/-- `TWIN.CROAK` (R418). -/
def TWIN.CROAK : Nat := 0x210018
def TWIN.CROAK_MISSED : RF := ⟨TWIN.CROAK, 0, 2⟩
def TWIN.CROAK_GLITCH : RF := ⟨TWIN.CROAK, 8, 8⟩
def TWIN.CROAK_SILENT_US : RF := ⟨TWIN.CROAK, 16, 16⟩
/-- `FLT.FIRST` (R446). -/
def FLT.FIRST : Nat := 0x30008
def FLT.FIRST_VALID : RF := ⟨FLT.FIRST, 0, 1⟩
def FLT.FIRST_CLASS : RF := ⟨FLT.FIRST, 1, 2⟩
def FLT.FIRST_SOURCE : RF := ⟨FLT.FIRST, 4, 6⟩
def FLT.FIRST_INSTANCE : RF := ⟨FLT.FIRST, 16, 16⟩
/-- `FLT.OVERFLOW` (R446). -/
def FLT.OVERFLOW : Nat := 0x3000C
def FLT.OVERFLOW_OVERFLOW : RF := ⟨FLT.OVERFLOW, 0, 1⟩
/-- `FLT.INJECT` (R446). -/
def FLT.INJECT : Nat := 0x30020
def FLT.INJECT_CLASS : RF := ⟨FLT.INJECT, 0, 2⟩
def FLT.INJECT_PART : RF := ⟨FLT.INJECT, 2, 5⟩
def FLT.INJECT_PART_VALID : RF := ⟨FLT.INJECT, 7, 1⟩
def FLT.INJECT_INSTANCE : RF := ⟨FLT.INJECT, 8, 16⟩
def FLT.INJECT_GO : RF := ⟨FLT.INJECT, 31, 1⟩
/-- `FLT.PINS` (R446). -/
def FLT.PINS : Nat := 0x30024
def FLT.PINS_FAULT : RF := ⟨FLT.PINS, 0, 8⟩
def FLT.PINS_MSP_IRQ : RF := ⟨FLT.PINS, 8, 1⟩
def FLT.PINS_CROAK_STOPPED : RF := ⟨FLT.PINS, 9, 1⟩
/-- `FLT.SHED_CMD` (R446). -/
def FLT.SHED_CMD : Nat := 0x30030
def FLT.SHED_CMD_TARGET : RF := ⟨FLT.SHED_CMD, 0, 5⟩
def FLT.SHED_CMD_KIND : RF := ⟨FLT.SHED_CMD, 5, 1⟩
def FLT.SHED_CMD_SHED : RF := ⟨FLT.SHED_CMD, 6, 1⟩
def FLT.SHED_CMD_UNSHED : RF := ⟨FLT.SHED_CMD, 7, 1⟩
def FLT.SHED_CMD_REASON : RF := ⟨FLT.SHED_CMD, 8, 8⟩
/-- `FLT.SRC.CFG` (R446). -/
def FLT.SRC_CFG (n : Nat) : Nat := 0x30400 + 0x10 * n
def FLT.SRC_CFG_CLASS (n : Nat) : RF := ⟨FLT.SRC_CFG n, 0, 2⟩
def FLT.SRC_CFG_GROUP_EN (n : Nat) : RF := ⟨FLT.SRC_CFG n, 2, 1⟩
def FLT.SRC_CFG_GROUP (n : Nat) : RF := ⟨FLT.SRC_CFG n, 3, 3⟩
/-- `FLT.SRC.STAT` (R446). -/
def FLT.SRC_STAT (n : Nat) : Nat := 0x3040C + 0x10 * n
def FLT.SRC_STAT_LATCHED (n : Nat) : RF := ⟨FLT.SRC_STAT n, 0, 2⟩
def FLT.SRC_STAT_COUNT (n : Nat) : RF := ⟨FLT.SRC_STAT n, 16, 16⟩
/-- `JRNL.CTRL` (R447). -/
def JRNL.CTRL : Nat := 0x300000
def JRNL.CTRL_DRAIN_EN : RF := ⟨JRNL.CTRL, 0, 1⟩
def JRNL.CTRL_MASK_FEATURE_ALARM : RF := ⟨JRNL.CTRL, 1, 1⟩
def JRNL.CTRL_MASK_MGMT : RF := ⟨JRNL.CTRL, 2, 1⟩
def JRNL.CTRL_GAP_ACK : RF := ⟨JRNL.CTRL, 3, 1⟩
def JRNL.CTRL_IRQ_EN : RF := ⟨JRNL.CTRL, 4, 1⟩
/-- `JRNL.STATUS` (R447). -/
def JRNL.STATUS : Nat := 0x300004
def JRNL.STATUS_GAP : RF := ⟨JRNL.STATUS, 0, 1⟩
def JRNL.STATUS_DRAIN_ERR : RF := ⟨JRNL.STATUS, 1, 1⟩
def JRNL.STATUS_ECC_CE : RF := ⟨JRNL.STATUS, 2, 1⟩
def JRNL.STATUS_ECC_UE : RF := ⟨JRNL.STATUS, 3, 1⟩
/-- `SLOT.CFG0` (R464). -/
def SLOT.CFG0 (n : Nat) : Nat := 0x200000 + 0x1000 * n
def SLOT.CFG0_LIMIT (n : Nat) : RF := ⟨SLOT.CFG0 n, 0, 15⟩
def SLOT.CFG0_SHUNT (n : Nat) : RF := ⟨SLOT.CFG0 n, 16, 7⟩
/-- `SLOT.CFG1` (R464). -/
def SLOT.CFG1 (n : Nat) : Nat := 0x200004 + 0x1000 * n
def SLOT.CFG1_SLEW (n : Nat) : RF := ⟨SLOT.CFG1 n, 0, 7⟩
def SLOT.CFG1_TIMER (n : Nat) : RF := ⟨SLOT.CFG1 n, 7, 10⟩
def SLOT.CFG1_OFF_MULT (n : Nat) : RF := ⟨SLOT.CFG1 n, 17, 9⟩
def SLOT.CFG1_RETRIES (n : Nat) : RF := ⟨SLOT.CFG1 n, 26, 4⟩
def SLOT.CFG1_UNLIMITED (n : Nat) : RF := ⟨SLOT.CFG1 n, 30, 1⟩
/-- `SLOT.CFG2` (R464). -/
def SLOT.CFG2 (n : Nat) : Nat := 0x200008 + 0x1000 * n
def SLOT.CFG2_INSERT_MS (n : Nat) : RF := ⟨SLOT.CFG2 n, 0, 14⟩
def SLOT.CFG2_AUTO_ON (n : Nat) : RF := ⟨SLOT.CFG2 n, 14, 1⟩
def SLOT.CFG2_ATTN (n : Nat) : RF := ⟨SLOT.CFG2 n, 15, 1⟩
def SLOT.CFG2_PORTID (n : Nat) : RF := ⟨SLOT.CFG2 n, 16, 7⟩
def SLOT.CFG2_LIVE_FATAL (n : Nat) : RF := ⟨SLOT.CFG2 n, 23, 1⟩
/-- `SLOT.CTRL` (R464). -/
def SLOT.CTRL (n : Nat) : Nat := 0x20000C + 0x1000 * n
def SLOT.CTRL_ON (n : Nat) : RF := ⟨SLOT.CTRL n, 0, 1⟩
def SLOT.CTRL_OFF (n : Nat) : RF := ⟨SLOT.CTRL n, 1, 1⟩
def SLOT.CTRL_CLEAR (n : Nat) : RF := ⟨SLOT.CTRL n, 2, 1⟩
def SLOT.CTRL_KILL_CLEAR (n : Nat) : RF := ⟨SLOT.CTRL n, 3, 1⟩
/-- `SLOT.STATUS` (R464). -/
def SLOT.STATUS (n : Nat) : Nat := 0x200010 + 0x1000 * n
def SLOT.STATUS_STATE (n : Nat) : RF := ⟨SLOT.STATUS n, 0, 4⟩
def SLOT.STATUS_PRESENT (n : Nat) : RF := ⟨SLOT.STATUS n, 4, 1⟩
def SLOT.STATUS_PG (n : Nat) : RF := ⟨SLOT.STATUS n, 5, 1⟩
def SLOT.STATUS_IN_LIMIT (n : Nat) : RF := ⟨SLOT.STATUS n, 6, 1⟩
def SLOT.STATUS_CHECKING (n : Nat) : RF := ⟨SLOT.STATUS n, 7, 1⟩
def SLOT.STATUS_KILL (n : Nat) : RF := ⟨SLOT.STATUS n, 8, 1⟩
def SLOT.STATUS_WANT (n : Nat) : RF := ⟨SLOT.STATUS n, 9, 1⟩
def SLOT.STATUS_FAULTS (n : Nat) : RF := ⟨SLOT.STATUS n, 12, 4⟩
def SLOT.STATUS_CAUSE (n : Nat) : RF := ⟨SLOT.STATUS n, 16, 4⟩
def SLOT.STATUS_REASON (n : Nat) : RF := ⟨SLOT.STATUS n, 24, 8⟩
/-- `MDMA.STATUS` (R493). -/
def MDMA.STATUS : Nat := 0x400004
def MDMA.STATUS_REASON : RF := ⟨MDMA.STATUS, 0, 8⟩
def MDMA.STATUS_READS_OUT : RF := ⟨MDMA.STATUS, 8, 6⟩
def MDMA.STATUS_ECC_CE : RF := ⟨MDMA.STATUS, 14, 1⟩
def MDMA.STATUS_ECC_UE : RF := ⟨MDMA.STATUS, 15, 1⟩
/-- `MDMA.ENG.CTRL` (R493). -/
def MDMA.ENG_CTRL (n : Nat) : Nat := 0x400104 + 0x40 * n
def MDMA.ENG_CTRL_ENABLE (n : Nat) : RF := ⟨MDMA.ENG_CTRL n, 0, 1⟩
def MDMA.ENG_CTRL_SIZE_EXP (n : Nat) : RF := ⟨MDMA.ENG_CTRL n, 1, 4⟩
def MDMA.ENG_CTRL_VECTOR (n : Nat) : RF := ⟨MDMA.ENG_CTRL n, 5, 6⟩
/-- `MDMA.ENG.STATUS` (R493). -/
def MDMA.ENG_STATUS (n : Nat) : Nat := 0x400128 + 0x40 * n
def MDMA.ENG_STATUS_RUNNING (n : Nat) : RF := ⟨MDMA.ENG_STATUS n, 0, 1⟩
def MDMA.ENG_STATUS_ERR (n : Nat) : RF := ⟨MDMA.ENG_STATUS n, 1, 1⟩
def MDMA.ENG_STATUS_MSG_OUT (n : Nat) : RF := ⟨MDMA.ENG_STATUS n, 2, 4⟩
def MDMA.ENG_STATUS_REASON (n : Nat) : RF := ⟨MDMA.ENG_STATUS n, 8, 8⟩
/-- `PWR.CTRL` (R515). -/
def PWR.CTRL : Nat := 0x20000
def PWR.CTRL_PARK : RF := ⟨PWR.CTRL, 0, 1⟩
def PWR.CTRL_WAKE : RF := ⟨PWR.CTRL, 1, 1⟩
def PWR.CTRL_AVS_EN : RF := ⟨PWR.CTRL, 2, 1⟩
def PWR.CTRL_PMB_400K : RF := ⟨PWR.CTRL, 3, 1⟩
def PWR.CTRL_PMB_PEC : RF := ⟨PWR.CTRL, 4, 1⟩
/-- `PWR.STATUS` (R515). -/
def PWR.STATUS : Nat := 0x20004
def PWR.STATUS_REASON : RF := ⟨PWR.STATUS, 0, 8⟩
def PWR.STATUS_PARK_STEP : RF := ⟨PWR.STATUS, 8, 3⟩
def PWR.STATUS_PMB_BUSY : RF := ⟨PWR.STATUS, 11, 1⟩
def PWR.STATUS_AVS_STATE : RF := ⟨PWR.STATUS, 12, 2⟩
/-- `PWR.WAKE_CFG` (R515). -/
def PWR.WAKE_CFG : Nat := 0x20010
def PWR.WAKE_CFG_EN : RF := ⟨PWR.WAKE_CFG, 0, 4⟩
def PWR.WAKE_CFG_POL : RF := ⟨PWR.WAKE_CFG, 4, 4⟩
def PWR.WAKE_CFG_DEBOUNCE_MS : RF := ⟨PWR.WAKE_CFG, 8, 10⟩
/-- `PWR.WAKE_STATUS` (R515). -/
def PWR.WAKE_STATUS : Nat := 0x20014
def PWR.WAKE_STATUS_PIN : RF := ⟨PWR.WAKE_STATUS, 0, 4⟩
def PWR.WAKE_STATUS_ALARM : RF := ⟨PWR.WAKE_STATUS, 4, 1⟩
def PWR.WAKE_STATUS_MSP : RF := ⟨PWR.WAKE_STATUS, 5, 1⟩
def PWR.WAKE_STATUS_RESET : RF := ⟨PWR.WAKE_STATUS, 6, 1⟩
def PWR.WAKE_STATUS_LAST : RF := ⟨PWR.WAKE_STATUS, 7, 3⟩
def PWR.WAKE_STATUS_FAIL : RF := ⟨PWR.WAKE_STATUS, 10, 1⟩
def PWR.WAKE_STATUS_FAIL_RAIL : RF := ⟨PWR.WAKE_STATUS, 11, 2⟩
/-- `PWR.RAIL.CFG` (R515). -/
def PWR.RAIL_CFG (n : Nat) : Nat := 0x20040 + 0x10 * n
def PWR.RAIL_CFG_ADDR (n : Nat) : RF := ⟨PWR.RAIL_CFG n, 0, 7⟩
def PWR.RAIL_CFG_PAGE (n : Nat) : RF := ⟨PWR.RAIL_CFG n, 8, 8⟩
def PWR.RAIL_CFG_EN (n : Nat) : RF := ⟨PWR.RAIL_CFG n, 16, 1⟩
def PWR.RAIL_CFG_PARK_OFF (n : Nat) : RF := ⟨PWR.RAIL_CFG n, 17, 1⟩
/-- `PWR.RAIL.STATUS` (R515). -/
def PWR.RAIL_STATUS (n : Nat) : Nat := 0x20044 + 0x10 * n
def PWR.RAIL_STATUS_STATE (n : Nat) : RF := ⟨PWR.RAIL_STATUS n, 0, 2⟩
def PWR.RAIL_STATUS_CLEAR (n : Nat) : RF := ⟨PWR.RAIL_STATUS n, 2, 1⟩
def PWR.RAIL_STATUS_STATUS_WORD (n : Nat) : RF := ⟨PWR.RAIL_STATUS n, 16, 16⟩
/-- `PWR.FUSE_CMD` (R515). -/
def PWR.FUSE_CMD : Nat := 0x20080
def PWR.FUSE_CMD_OP : RF := ⟨PWR.FUSE_CMD, 0, 2⟩
def PWR.FUSE_CMD_SLOT : RF := ⟨PWR.FUSE_CMD, 2, 1⟩
def PWR.FUSE_CMD_GO : RF := ⟨PWR.FUSE_CMD, 3, 1⟩
/-- `PWR.FUSE_STATUS` (R515). -/
def PWR.FUSE_STATUS : Nat := 0x20084
def PWR.FUSE_STATUS_KEY_PROG : RF := ⟨PWR.FUSE_STATUS, 0, 2⟩
def PWR.FUSE_STATUS_KEY_REVOKED : RF := ⟨PWR.FUSE_STATUS, 2, 2⟩
def PWR.FUSE_STATUS_PENDING_LC : RF := ⟨PWR.FUSE_STATUS, 4, 2⟩
def PWR.FUSE_STATUS_BUSY : RF := ⟨PWR.FUSE_STATUS, 6, 1⟩
def PWR.FUSE_STATUS_REASON : RF := ⟨PWR.FUSE_STATUS, 16, 8⟩
/-- `GLB.RESET` (R515). -/
def GLB.RESET : Nat := 0x80
def GLB.RESET_WARM : RF := ⟨GLB.RESET, 0, 1⟩
def GLB.RESET_CAUSE : RF := ⟨GLB.RESET, 8, 3⟩
/-- `GLB.ID` (R523). -/
def GLB.ID : Nat := 0x0
def GLB.ID_VENDOR : RF := ⟨GLB.ID, 0, 16⟩
def GLB.ID_DEVICE : RF := ⟨GLB.ID, 16, 16⟩
/-- `GLB.MODE` (R523). -/
def GLB.MODE : Nat := 0x4
def GLB.MODE_CURRENT : RF := ⟨GLB.MODE, 0, 3⟩
def GLB.MODE_PREVIOUS : RF := ⟨GLB.MODE, 4, 3⟩
def GLB.MODE_CHANGING : RF := ⟨GLB.MODE, 8, 1⟩
def GLB.MODE_STEPPING : RF := ⟨GLB.MODE, 16, 8⟩
/-- `GLB.GEN_PREV` (R28). -/
def GLB.GEN_PREV : Nat := 0x44
def GLB.GEN_PREV_GUARD_PREV : RF := ⟨GLB.GEN_PREV, 0, 4⟩
def GLB.GEN_PREV_WINDOW_PREV : RF := ⟨GLB.GEN_PREV, 4, 4⟩
def GLB.GEN_PREV_BINDING_PREV : RF := ⟨GLB.GEN_PREV, 8, 4⟩
def GLB.GEN_PREV_ROUTE_PREV : RF := ⟨GLB.GEN_PREV, 12, 4⟩
def GLB.GEN_PREV_SCHED_PREV : RF := ⟨GLB.GEN_PREV, 16, 4⟩
/-- `GLB.COMMIT_EPOCH_LO` (R82). -/
def GLB.COMMIT_EPOCH_LO : Nat := 0x70
def GLB.COMMIT_EPOCH_LO_EPOCH : RF := ⟨GLB.COMMIT_EPOCH_LO, 0, 32⟩
/-- `GLB.COMMIT_EPOCH_HI` (R82). -/
def GLB.COMMIT_EPOCH_HI : Nat := 0x74
def GLB.COMMIT_EPOCH_HI_EPOCH : RF := ⟨GLB.COMMIT_EPOCH_HI, 0, 32⟩
/-- `IMG.SWITCH_EPOCH_LO` (R91). -/
def IMG.SWITCH_EPOCH_LO : Nat := 0x40010
def IMG.SWITCH_EPOCH_LO_EPOCH : RF := ⟨IMG.SWITCH_EPOCH_LO, 0, 32⟩
/-- `IMG.SWITCH_EPOCH_HI` (R91). -/
def IMG.SWITCH_EPOCH_HI : Nat := 0x40014
def IMG.SWITCH_EPOCH_HI_EPOCH : RF := ⟨IMG.SWITCH_EPOCH_HI, 0, 32⟩
/-- `IMG.ACTIVE_VERSION` (R91). -/
def IMG.ACTIVE_VERSION : Nat := 0x40018
def IMG.ACTIVE_VERSION_VERSION : RF := ⟨IMG.ACTIVE_VERSION, 0, 32⟩
/-- `IMG.STAGED_VERSION` (R91). -/
def IMG.STAGED_VERSION : Nat := 0x4001C
def IMG.STAGED_VERSION_VERSION : RF := ⟨IMG.STAGED_VERSION, 0, 32⟩
/-- `IMG.ACTIVE_HASH` (R91). -/
def IMG.ACTIVE_HASH (n : Nat) : Nat := 0x40040 + 0x4 * n
def IMG.ACTIVE_HASH_HASH (n : Nat) : RF := ⟨IMG.ACTIVE_HASH n, 0, 32⟩
/-- `TIME.FT_LO` (R116). -/
def TIME.FT_LO : Nat := 0x10000
def TIME.FT_LO_FT : RF := ⟨TIME.FT_LO, 0, 32⟩
/-- `TIME.FT_HI` (R116). -/
def TIME.FT_HI : Nat := 0x10004
def TIME.FT_HI_FT : RF := ⟨TIME.FT_HI, 0, 32⟩
/-- `TIME.HOLD_ELAPSED` (R116). -/
def TIME.HOLD_ELAPSED : Nat := 0x1000C
def TIME.HOLD_ELAPSED_V : RF := ⟨TIME.HOLD_ELAPSED, 0, 32⟩
/-- `TIME.PHASE_ERR` (R116). -/
def TIME.PHASE_ERR : Nat := 0x10010
def TIME.PHASE_ERR_V : RF := ⟨TIME.PHASE_ERR, 0, 32⟩
/-- `TIME.ERR_BOUND` (R116). -/
def TIME.ERR_BOUND : Nat := 0x10014
def TIME.ERR_BOUND_V : RF := ⟨TIME.ERR_BOUND, 0, 32⟩
/-- `TIME.FREQ_OFFSET` (R116). -/
def TIME.FREQ_OFFSET : Nat := 0x10018
def TIME.FREQ_OFFSET_V : RF := ⟨TIME.FREQ_OFFSET, 0, 32⟩
/-- `TIME.SNAP_FT_LO` (R116). -/
def TIME.SNAP_FT_LO : Nat := 0x10020
def TIME.SNAP_FT_LO_V : RF := ⟨TIME.SNAP_FT_LO, 0, 32⟩
/-- `TIME.SNAP_FT_HI` (R116). -/
def TIME.SNAP_FT_HI : Nat := 0x10024
def TIME.SNAP_FT_HI_V : RF := ⟨TIME.SNAP_FT_HI, 0, 32⟩
/-- `TIME.SET_LO` (R116). -/
def TIME.SET_LO : Nat := 0x10028
def TIME.SET_LO_V : RF := ⟨TIME.SET_LO, 0, 32⟩
/-- `TIME.SET_HI` (R116). -/
def TIME.SET_HI : Nat := 0x1002C
def TIME.SET_HI_V : RF := ⟨TIME.SET_HI, 0, 32⟩
/-- `TIME.TOD_LAST` (R116). -/
def TIME.TOD_LAST : Nat := 0x10030
def TIME.TOD_LAST_V : RF := ⟨TIME.TOD_LAST, 0, 32⟩
/-- `TIME.TOD_STATS` (R116). -/
def TIME.TOD_STATS : Nat := 0x10034
def TIME.TOD_STATS_BAD : RF := ⟨TIME.TOD_STATS, 0, 16⟩
def TIME.TOD_STATS_OUT_OF_WINDOW : RF := ⟨TIME.TOD_STATS, 16, 16⟩
/-- `TIME.ASYM` (R116). -/
def TIME.ASYM (n : Nat) : Nat := 0x10040 + 0x4 * n
def TIME.ASYM_V (n : Nat) : RF := ⟨TIME.ASYM n, 0, 32⟩
/-- `TIME.ALARM_AT_LO` (R116). -/
def TIME.ALARM_AT_LO (n : Nat) : Nat := 0x10108 + 0x20 * n
def TIME.ALARM_AT_LO_V (n : Nat) : RF := ⟨TIME.ALARM_AT_LO n, 0, 32⟩
/-- `TIME.ALARM_AT_HI` (R116). -/
def TIME.ALARM_AT_HI (n : Nat) : Nat := 0x1010C + 0x20 * n
def TIME.ALARM_AT_HI_V (n : Nat) : RF := ⟨TIME.ALARM_AT_HI n, 0, 32⟩
/-- `TIME.ALARM_PERIOD_LO` (R116). -/
def TIME.ALARM_PERIOD_LO (n : Nat) : Nat := 0x10110 + 0x20 * n
def TIME.ALARM_PERIOD_LO_V (n : Nat) : RF := ⟨TIME.ALARM_PERIOD_LO n, 0, 32⟩
/-- `TIME.ALARM_PERIOD_HI` (R116). -/
def TIME.ALARM_PERIOD_HI (n : Nat) : Nat := 0x10114 + 0x20 * n
def TIME.ALARM_PERIOD_HI_V (n : Nat) : RF := ⟨TIME.ALARM_PERIOD_HI n, 0, 32⟩
/-- `TIME.WAKE_AT_LO` (R116). -/
def TIME.WAKE_AT_LO : Nat := 0x10404
def TIME.WAKE_AT_LO_V : RF := ⟨TIME.WAKE_AT_LO, 0, 32⟩
/-- `TIME.WAKE_AT_HI` (R116). -/
def TIME.WAKE_AT_HI : Nat := 0x10408
def TIME.WAKE_AT_HI_V : RF := ⟨TIME.WAKE_AT_HI, 0, 32⟩
/-- `CORE.MIRROR_ADDR_LO` (R176). -/
def CORE.MIRROR_ADDR_LO (n : Nat) : Nat := 0x110808 + 0x40 * n
def CORE.MIRROR_ADDR_LO_V (n : Nat) : RF := ⟨CORE.MIRROR_ADDR_LO n, 8, 24⟩
/-- `CORE.MIRROR_ADDR_HI` (R176). -/
def CORE.MIRROR_ADDR_HI (n : Nat) : Nat := 0x11080C + 0x40 * n
def CORE.MIRROR_ADDR_HI_V (n : Nat) : RF := ⟨CORE.MIRROR_ADDR_HI n, 0, 32⟩
/-- `CORE.MIRROR_ADDR_END_LO` (R176). -/
def CORE.MIRROR_ADDR_END_LO (n : Nat) : Nat := 0x110810 + 0x40 * n
def CORE.MIRROR_ADDR_END_LO_V (n : Nat) : RF := ⟨CORE.MIRROR_ADDR_END_LO n, 8, 24⟩
/-- `CORE.MIRROR_ADDR_END_HI` (R176). -/
def CORE.MIRROR_ADDR_END_HI (n : Nat) : Nat := 0x110814 + 0x40 * n
def CORE.MIRROR_ADDR_END_HI_V (n : Nat) : RF := ⟨CORE.MIRROR_ADDR_END_HI n, 0, 32⟩
/-- `CORE.MIRROR_RING_BASE_LO` (R176). -/
def CORE.MIRROR_RING_BASE_LO (n : Nat) : Nat := 0x110818 + 0x40 * n
def CORE.MIRROR_RING_BASE_LO_V (n : Nat) : RF := ⟨CORE.MIRROR_RING_BASE_LO n, 8, 24⟩
/-- `CORE.MIRROR_RING_BASE_HI` (R176). -/
def CORE.MIRROR_RING_BASE_HI (n : Nat) : Nat := 0x11081C + 0x40 * n
def CORE.MIRROR_RING_BASE_HI_V (n : Nat) : RF := ⟨CORE.MIRROR_RING_BASE_HI n, 0, 32⟩
/-- `CORE.MIRROR_DROPPED` (R176). -/
def CORE.MIRROR_DROPPED (n : Nat) : Nat := 0x110828 + 0x40 * n
def CORE.MIRROR_DROPPED_COUNT (n : Nat) : RF := ⟨CORE.MIRROR_DROPPED n, 0, 32⟩
/-- `CORE.MIRROR_SEQ` (R176). -/
def CORE.MIRROR_SEQ (n : Nat) : Nat := 0x11082C + 0x40 * n
def CORE.MIRROR_SEQ_NEXT (n : Nat) : RF := ⟨CORE.MIRROR_SEQ n, 0, 32⟩
/-- `CORE.MCG_MEMBERS` (R176). -/
def CORE.MCG_MEMBERS (n : Nat) (m : Nat) : Nat := 0x111004 + 0x20 * n + 0x4 * m
def CORE.MCG_MEMBERS_MAP (n : Nat) (m : Nat) : RF := ⟨CORE.MCG_MEMBERS n m, 0, 32⟩
/-- `CORE.MCG_BASE_LO` (R176). -/
def CORE.MCG_BASE_LO (n : Nat) : Nat := 0x111010 + 0x20 * n
def CORE.MCG_BASE_LO_V (n : Nat) : RF := ⟨CORE.MCG_BASE_LO n, 12, 20⟩
/-- `CORE.MCG_BASE_HI` (R176). -/
def CORE.MCG_BASE_HI (n : Nat) : Nat := 0x111014 + 0x20 * n
def CORE.MCG_BASE_HI_V (n : Nat) : RF := ⟨CORE.MCG_BASE_HI n, 0, 32⟩
/-- `CORE.MCG_LEN_LO` (R176). -/
def CORE.MCG_LEN_LO (n : Nat) : Nat := 0x111018 + 0x20 * n
def CORE.MCG_LEN_LO_V (n : Nat) : RF := ⟨CORE.MCG_LEN_LO n, 12, 20⟩
/-- `CORE.MCG_LEN_HI` (R176). -/
def CORE.MCG_LEN_HI (n : Nat) : Nat := 0x11101C + 0x20 * n
def CORE.MCG_LEN_HI_V (n : Nat) : RF := ⟨CORE.MCG_LEN_HI n, 0, 32⟩
/-- `SCHED.SUB_DATA0` (R206). -/
def SCHED.SUB_DATA0 : Nat := 0x120020
def SCHED.SUB_DATA0_ENABLE : RF := ⟨SCHED.SUB_DATA0, 0, 1⟩
def SCHED.SUB_DATA0_SELECT : RF := ⟨SCHED.SUB_DATA0, 1, 1⟩
def SCHED.SUB_DATA0_TC : RF := ⟨SCHED.SUB_DATA0, 2, 3⟩
def SCHED.SUB_DATA0_PORTID : RF := ⟨SCHED.SUB_DATA0, 5, 7⟩
def SCHED.SUB_DATA0_COLOUR : RF := ⟨SCHED.SUB_DATA0, 12, 12⟩
/-- `SCHED.SUB_DATA1` (R206). -/
def SCHED.SUB_DATA1 : Nat := 0x120024
def SCHED.SUB_DATA1_RATE : RF := ⟨SCHED.SUB_DATA1, 0, 32⟩
/-- `SCHED.SUB_DATA2` (R206). -/
def SCHED.SUB_DATA2 : Nat := 0x120028
def SCHED.SUB_DATA2_BURST : RF := ⟨SCHED.SUB_DATA2, 0, 32⟩
/-- `SCHED.SUB_DATA3` (R206). -/
def SCHED.SUB_DATA3 : Nat := 0x12002C
def SCHED.SUB_DATA3_BUSY : RF := ⟨SCHED.SUB_DATA3, 0, 1⟩
def SCHED.SUB_DATA3_ORPHAN : RF := ⟨SCHED.SUB_DATA3, 1, 1⟩
def SCHED.SUB_DATA3_CELLS : RF := ⟨SCHED.SUB_DATA3, 8, 24⟩
/-- `SCHED.SUB_DATA4` (R206). -/
def SCHED.SUB_DATA4 : Nat := 0x120030
def SCHED.SUB_DATA4_ADDR_LO : RF := ⟨SCHED.SUB_DATA4, 8, 24⟩
/-- `SCHED.SUB_DATA5` (R206). -/
def SCHED.SUB_DATA5 : Nat := 0x120034
def SCHED.SUB_DATA5_ADDR_LO : RF := ⟨SCHED.SUB_DATA5, 0, 32⟩
/-- `SCHED.SUB_DATA6` (R206). -/
def SCHED.SUB_DATA6 : Nat := 0x120038
def SCHED.SUB_DATA6_ADDR_HI : RF := ⟨SCHED.SUB_DATA6, 8, 24⟩
/-- `SCHED.SUB_DATA7` (R206). -/
def SCHED.SUB_DATA7 : Nat := 0x12003C
def SCHED.SUB_DATA7_ADDR_HI : RF := ⟨SCHED.SUB_DATA7, 0, 32⟩
/-- `SCHED.GATE_ENTRY_LO` (R205). -/
def SCHED.GATE_ENTRY_LO : Nat := 0x120048
def SCHED.GATE_ENTRY_LO_V : RF := ⟨SCHED.GATE_ENTRY_LO, 0, 32⟩
/-- `SCHED.GATE_ENTRY_HI` (R205). -/
def SCHED.GATE_ENTRY_HI : Nat := 0x12004C
def SCHED.GATE_ENTRY_HI_V : RF := ⟨SCHED.GATE_ENTRY_HI, 0, 32⟩
/-- `SCHED.SAMP_DATA` (R207). -/
def SCHED.SAMP_DATA (n : Nat) : Nat := 0x120060 + 0x4 * n
def SCHED.SAMP_DATA_V (n : Nat) : RF := ⟨SCHED.SAMP_DATA n, 0, 32⟩
/-- `SCHED.PORT_WEIGHT_LO` (R205). -/
def SCHED.PORT_WEIGHT_LO (n : Nat) : Nat := 0x121004 + 0x40 * n
def SCHED.PORT_WEIGHT_LO_W (n : Nat) : RF := ⟨SCHED.PORT_WEIGHT_LO n, 0, 32⟩
/-- `SCHED.PORT_WEIGHT_HI` (R205). -/
def SCHED.PORT_WEIGHT_HI (n : Nat) : Nat := 0x121008 + 0x40 * n
def SCHED.PORT_WEIGHT_HI_W (n : Nat) : RF := ⟨SCHED.PORT_WEIGHT_HI n, 0, 32⟩
/-- `SCHED.PORT_EGRESS_RATE` (R205). -/
def SCHED.PORT_EGRESS_RATE (n : Nat) : Nat := 0x12100C + 0x40 * n
def SCHED.PORT_EGRESS_RATE_V (n : Nat) : RF := ⟨SCHED.PORT_EGRESS_RATE n, 0, 32⟩
/-- `SCHED.PORT_EGRESS_BURST` (R205). -/
def SCHED.PORT_EGRESS_BURST (n : Nat) : Nat := 0x121010 + 0x40 * n
def SCHED.PORT_EGRESS_BURST_V (n : Nat) : RF := ⟨SCHED.PORT_EGRESS_BURST n, 0, 32⟩
/-- `SCHED.PORT_GATE_GUARD` (R205). -/
def SCHED.PORT_GATE_GUARD (n : Nat) : Nat := 0x121018 + 0x40 * n
def SCHED.PORT_GATE_GUARD_V (n : Nat) : RF := ⟨SCHED.PORT_GATE_GUARD n, 0, 32⟩
/-- `SCHED.PORT_GATE_CYCLE_LO` (R205). -/
def SCHED.PORT_GATE_CYCLE_LO (n : Nat) : Nat := 0x121020 + 0x40 * n
def SCHED.PORT_GATE_CYCLE_LO_V (n : Nat) : RF := ⟨SCHED.PORT_GATE_CYCLE_LO n, 0, 32⟩
/-- `SCHED.PORT_GATE_CYCLE_HI` (R205). -/
def SCHED.PORT_GATE_CYCLE_HI (n : Nat) : Nat := 0x121024 + 0x40 * n
def SCHED.PORT_GATE_CYCLE_HI_V (n : Nat) : RF := ⟨SCHED.PORT_GATE_CYCLE_HI n, 0, 32⟩
/-- `SCHED.PORT_GATE_BASE_LO` (R205). -/
def SCHED.PORT_GATE_BASE_LO (n : Nat) : Nat := 0x121028 + 0x40 * n
def SCHED.PORT_GATE_BASE_LO_V (n : Nat) : RF := ⟨SCHED.PORT_GATE_BASE_LO n, 0, 32⟩
/-- `SCHED.PORT_GATE_BASE_HI` (R205). -/
def SCHED.PORT_GATE_BASE_HI (n : Nat) : Nat := 0x12102C + 0x40 * n
def SCHED.PORT_GATE_BASE_HI_V (n : Nat) : RF := ⟨SCHED.PORT_GATE_BASE_HI n, 0, 32⟩
/-- `SCHED.PORT_LINE_RATE` (R205). -/
def SCHED.PORT_LINE_RATE (n : Nat) : Nat := 0x121034 + 0x40 * n
def SCHED.PORT_LINE_RATE_V (n : Nat) : RF := ⟨SCHED.PORT_LINE_RATE n, 0, 32⟩
/-- `SCHED.PORT_EFF_GUARD` (R205). -/
def SCHED.PORT_EFF_GUARD (n : Nat) : Nat := 0x121038 + 0x40 * n
def SCHED.PORT_EFF_GUARD_V (n : Nat) : RF := ⟨SCHED.PORT_EFF_GUARD n, 0, 32⟩
/-- `SCHED.PORT_CLOSED_WAIT` (R205). -/
def SCHED.PORT_CLOSED_WAIT (n : Nat) : Nat := 0x12103C + 0x40 * n
def SCHED.PORT_CLOSED_WAIT_V (n : Nat) : RF := ⟨SCHED.PORT_CLOSED_WAIT n, 0, 32⟩
/-- `PART.STATUS` (R226). -/
def PART.STATUS : Nat := 0x410004
def PART.STATUS_REASON : RF := ⟨PART.STATUS, 0, 8⟩
/-- `PART.TABLE_BUS` (R226). -/
def PART.TABLE_BUS (n : Nat) : Nat := 0x410104 + 0x20 * n
def PART.TABLE_BUS_BUS_FIRST (n : Nat) : RF := ⟨PART.TABLE_BUS n, 0, 8⟩
def PART.TABLE_BUS_BUS_LAST (n : Nat) : RF := ⟨PART.TABLE_BUS n, 8, 8⟩
/-- `PART.TABLE_MEMBERS` (R226). -/
def PART.TABLE_MEMBERS (n : Nat) (m : Nat) : Nat := 0x410108 + 0x20 * n + 0x4 * m
def PART.TABLE_MEMBERS_MAP (n : Nat) (m : Nat) : RF := ⟨PART.TABLE_MEMBERS n m, 0, 32⟩
/-- `PART.TABLE_EMU_REFUSED` (R226). -/
def PART.TABLE_EMU_REFUSED (n : Nat) : Nat := 0x410114 + 0x20 * n
def PART.TABLE_EMU_REFUSED_V (n : Nat) : RF := ⟨PART.TABLE_EMU_REFUSED n, 0, 32⟩
/-- `PART.COLOUR_SEL` (R226). -/
def PART.COLOUR_SEL : Nat := 0x410800
def PART.COLOUR_SEL_INDEX : RF := ⟨PART.COLOUR_SEL, 0, 12⟩
/-- `PART.COLOUR_DATA1` (R226). -/
def PART.COLOUR_DATA1 : Nat := 0x410808
def PART.COLOUR_DATA1_RID_LO : RF := ⟨PART.COLOUR_DATA1, 0, 16⟩
def PART.COLOUR_DATA1_RID_HI : RF := ⟨PART.COLOUR_DATA1, 16, 16⟩
/-- `PART.BIND_SEL` (R226). -/
def PART.BIND_SEL : Nat := 0x410810
def PART.BIND_SEL_INDEX : RF := ⟨PART.BIND_SEL, 0, 12⟩
/-- `PART.BIND_DATA0` (R226). -/
def PART.BIND_DATA0 : Nat := 0x410820
def PART.BIND_DATA0_VALID : RF := ⟨PART.BIND_DATA0, 0, 1⟩
def PART.BIND_DATA0_PART : RF := ⟨PART.BIND_DATA0, 1, 5⟩
def PART.BIND_DATA0_TARGET : RF := ⟨PART.BIND_DATA0, 6, 7⟩
def PART.BIND_DATA0_HOST_BAR : RF := ⟨PART.BIND_DATA0, 13, 2⟩
def PART.BIND_DATA0_VDSP : RF := ⟨PART.BIND_DATA0, 15, 5⟩
/-- `PART.BIND_DATA1` (R226). -/
def PART.BIND_DATA1 : Nat := 0x410824
def PART.BIND_DATA1_HOST_RID : RF := ⟨PART.BIND_DATA1, 0, 16⟩
def PART.BIND_DATA1_DEV_RID : RF := ⟨PART.BIND_DATA1, 16, 16⟩
/-- `PART.BIND_DATA2` (R226). -/
def PART.BIND_DATA2 : Nat := 0x410828
def PART.BIND_DATA2_HOST_BASE : RF := ⟨PART.BIND_DATA2, 12, 20⟩
/-- `PART.BIND_DATA3` (R226). -/
def PART.BIND_DATA3 : Nat := 0x41082C
def PART.BIND_DATA3_HOST_BASE : RF := ⟨PART.BIND_DATA3, 0, 32⟩
/-- `PART.BIND_DATA4` (R226). -/
def PART.BIND_DATA4 : Nat := 0x410830
def PART.BIND_DATA4_DEV_BASE : RF := ⟨PART.BIND_DATA4, 12, 20⟩
/-- `PART.BIND_DATA5` (R226). -/
def PART.BIND_DATA5 : Nat := 0x410834
def PART.BIND_DATA5_DEV_BASE : RF := ⟨PART.BIND_DATA5, 0, 32⟩
/-- `PART.BIND_DATA6` (R226). -/
def PART.BIND_DATA6 : Nat := 0x410838
def PART.BIND_DATA6_LENGTH : RF := ⟨PART.BIND_DATA6, 12, 20⟩
/-- `PART.BIND_DATA7` (R226). -/
def PART.BIND_DATA7 : Nat := 0x41083C
def PART.BIND_DATA7_LENGTH : RF := ⟨PART.BIND_DATA7, 0, 32⟩
/-- `PART.CFG_ADDR` (R226). -/
def PART.CFG_ADDR : Nat := 0x410900
def PART.CFG_ADDR_DWORD : RF := ⟨PART.CFG_ADDR, 2, 10⟩
def PART.CFG_ADDR_RID : RF := ⟨PART.CFG_ADDR, 12, 16⟩
/-- `PART.CFG_DATA` (R226). -/
def PART.CFG_DATA : Nat := 0x410904
def PART.CFG_DATA_V : RF := ⟨PART.CFG_DATA, 0, 32⟩
/-- `PART.PRIV_SEL` (R226). -/
def PART.PRIV_SEL : Nat := 0x410A00
def PART.PRIV_SEL_INDEX : RF := ⟨PART.PRIV_SEL, 0, 7⟩
/-- `PART.PRIV_DATA0` (R226). -/
def PART.PRIV_DATA0 : Nat := 0x410A04
def PART.PRIV_DATA0_VALID : RF := ⟨PART.PRIV_DATA0, 0, 1⟩
def PART.PRIV_DATA0_KIND : RF := ⟨PART.PRIV_DATA0, 1, 2⟩
def PART.PRIV_DATA0_INDEX : RF := ⟨PART.PRIV_DATA0, 3, 7⟩
/-- `PART.PRIV_DATA1` (R226). -/
def PART.PRIV_DATA1 : Nat := 0x410A08
def PART.PRIV_DATA1_CLASSES : RF := ⟨PART.PRIV_DATA1, 0, 32⟩
/-- `GUARD.REG_DATA0` (R246). -/
def GUARD.REG_DATA0 : Nat := 0x140020
def GUARD.REG_DATA0_START : RF := ⟨GUARD.REG_DATA0, 8, 24⟩
/-- `GUARD.REG_DATA1` (R246). -/
def GUARD.REG_DATA1 : Nat := 0x140024
def GUARD.REG_DATA1_START : RF := ⟨GUARD.REG_DATA1, 0, 32⟩
/-- `GUARD.REG_DATA2` (R246). -/
def GUARD.REG_DATA2 : Nat := 0x140028
def GUARD.REG_DATA2_END : RF := ⟨GUARD.REG_DATA2, 8, 24⟩
/-- `GUARD.REG_DATA3` (R246). -/
def GUARD.REG_DATA3 : Nat := 0x14002C
def GUARD.REG_DATA3_END : RF := ⟨GUARD.REG_DATA3, 0, 32⟩
/-- `GUARD.REG_DATA4` (R246). -/
def GUARD.REG_DATA4 : Nat := 0x140030
def GUARD.REG_DATA4_VALID : RF := ⟨GUARD.REG_DATA4, 0, 1⟩
def GUARD.REG_DATA4_MATCH : RF := ⟨GUARD.REG_DATA4, 1, 2⟩
def GUARD.REG_DATA4_READ : RF := ⟨GUARD.REG_DATA4, 3, 1⟩
def GUARD.REG_DATA4_WRITE : RF := ⟨GUARD.REG_DATA4, 4, 1⟩
def GUARD.REG_DATA4_ATOMIC : RF := ⟨GUARD.REG_DATA4, 5, 1⟩
def GUARD.REG_DATA4_LOCK : RF := ⟨GUARD.REG_DATA4, 6, 1⟩
def GUARD.REG_DATA4_TAG : RF := ⟨GUARD.REG_DATA4, 8, 12⟩
/-- `GUARD.UNIT_REC_ADDR_LO` (R246). -/
def GUARD.UNIT_REC_ADDR_LO (n : Nat) : Nat := 0x141008 + 0x40 * n
def GUARD.UNIT_REC_ADDR_LO_V (n : Nat) : RF := ⟨GUARD.UNIT_REC_ADDR_LO n, 0, 32⟩
/-- `GUARD.UNIT_REC_ADDR_HI` (R246). -/
def GUARD.UNIT_REC_ADDR_HI (n : Nat) : Nat := 0x14100C + 0x40 * n
def GUARD.UNIT_REC_ADDR_HI_V (n : Nat) : RF := ⟨GUARD.UNIT_REC_ADDR_HI n, 0, 32⟩
/-- `GUARD.UNIT_REC_REQ` (R246). -/
def GUARD.UNIT_REC_REQ (n : Nat) : Nat := 0x141010 + 0x40 * n
def GUARD.UNIT_REC_REQ_RID (n : Nat) : RF := ⟨GUARD.UNIT_REC_REQ n, 0, 16⟩
def GUARD.UNIT_REC_REQ_LENGTH (n : Nat) : RF := ⟨GUARD.UNIT_REC_REQ n, 16, 13⟩
/-- `GUARD.UNIT_REC_FT_LO` (R246). -/
def GUARD.UNIT_REC_FT_LO (n : Nat) : Nat := 0x141014 + 0x40 * n
def GUARD.UNIT_REC_FT_LO_V (n : Nat) : RF := ⟨GUARD.UNIT_REC_FT_LO n, 0, 32⟩
/-- `GUARD.UNIT_REC_FT_HI` (R246). -/
def GUARD.UNIT_REC_FT_HI (n : Nat) : Nat := 0x141018 + 0x40 * n
def GUARD.UNIT_REC_FT_HI_V (n : Nat) : RF := ⟨GUARD.UNIT_REC_FT_HI n, 0, 32⟩
/-- `GUARD.UNIT_REC_COUNT` (R246). -/
def GUARD.UNIT_REC_COUNT (n : Nat) : Nat := 0x14101C + 0x40 * n
def GUARD.UNIT_REC_COUNT_V (n : Nat) : RF := ⟨GUARD.UNIT_REC_COUNT n, 0, 32⟩
/-- `FBL.TRAIN_TIME` (R272). -/
def FBL.TRAIN_TIME (n : Nat) : Nat := 0x100010 + 0x4000 * n
def FBL.TRAIN_TIME_US (n : Nat) : RF := ⟨FBL.TRAIN_TIME n, 0, 16⟩
/-- `BRG.DROP` (R336). -/
def BRG.DROP : Nat := 0x180014
def BRG.DROP_NO_ROUTE : RF := ⟨BRG.DROP, 0, 16⟩
def BRG.DROP_HOP_LIMIT : RF := ⟨BRG.DROP, 16, 16⟩
/-- `BRG.LATE` (R336). -/
def BRG.LATE : Nat := 0x180018
def BRG.LATE_LATE_RSP : RF := ⟨BRG.LATE, 0, 16⟩
def BRG.LATE_NOTICE_LOST : RF := ⟨BRG.LATE, 16, 16⟩
/-- `BRG.RWF_COUNT` (R336). -/
def BRG.RWF_COUNT (n : Nat) : Nat := 0x180404 + 0x20 * n
def BRG.RWF_COUNT_V (n : Nat) : RF := ⟨BRG.RWF_COUNT n, 0, 32⟩
/-- `BRG.RWF_ADDR_LO` (R336). -/
def BRG.RWF_ADDR_LO (n : Nat) : Nat := 0x180408 + 0x20 * n
def BRG.RWF_ADDR_LO_V (n : Nat) : RF := ⟨BRG.RWF_ADDR_LO n, 0, 32⟩
/-- `BRG.RWF_ADDR_HI` (R336). -/
def BRG.RWF_ADDR_HI (n : Nat) : Nat := 0x18040C + 0x20 * n
def BRG.RWF_ADDR_HI_V (n : Nat) : RF := ⟨BRG.RWF_ADDR_HI n, 0, 32⟩
/-- `BRG.RWF_FT_LO` (R336). -/
def BRG.RWF_FT_LO (n : Nat) : Nat := 0x180410 + 0x20 * n
def BRG.RWF_FT_LO_V (n : Nat) : RF := ⟨BRG.RWF_FT_LO n, 0, 32⟩
/-- `BRG.RWF_FT_HI` (R336). -/
def BRG.RWF_FT_HI (n : Nat) : Nat := 0x180414 + 0x20 * n
def BRG.RWF_FT_HI_V (n : Nat) : RF := ⟨BRG.RWF_FT_HI n, 0, 32⟩
/-- `BRG.RWF_CTRL` (R336). -/
def BRG.RWF_CTRL (n : Nat) : Nat := 0x180418 + 0x20 * n
def BRG.RWF_CTRL_VECTOR (n : Nat) : RF := ⟨BRG.RWF_CTRL n, 0, 6⟩
def BRG.RWF_CTRL_MSI_EN (n : Nat) : RF := ⟨BRG.RWF_CTRL n, 6, 1⟩
/-- `BRG.SB_WATCH_STATE` (R336). -/
def BRG.SB_WATCH_STATE (n : Nat) : Nat := 0x183204 + 0x8 * n
def BRG.SB_WATCH_STATE_STATE (n : Nat) : RF := ⟨BRG.SB_WATCH_STATE n, 0, 29⟩
/-- `BRG.WIN_SEL` (R336). -/
def BRG.WIN_SEL : Nat := 0x183400
def BRG.WIN_SEL_INDEX : RF := ⟨BRG.WIN_SEL, 0, 11⟩
/-- `BRG.WIN_DATA0` (R336). -/
def BRG.WIN_DATA0 : Nat := 0x183420
def BRG.WIN_DATA0_VALID : RF := ⟨BRG.WIN_DATA0, 0, 1⟩
def BRG.WIN_DATA0_MODE : RF := ⟨BRG.WIN_DATA0, 1, 1⟩
def BRG.WIN_DATA0_TC : RF := ⟨BRG.WIN_DATA0, 2, 3⟩
def BRG.WIN_DATA0_PART : RF := ⟨BRG.WIN_DATA0, 5, 5⟩
def BRG.WIN_DATA0_PORTID : RF := ⟨BRG.WIN_DATA0, 10, 7⟩
def BRG.WIN_DATA0_DEVID : RF := ⟨BRG.WIN_DATA0, 17, 11⟩
/-- `BRG.WIN_DATA1` (R336). -/
def BRG.WIN_DATA1 : Nat := 0x183424
def BRG.WIN_DATA1_LOCAL_BASE : RF := ⟨BRG.WIN_DATA1, 12, 20⟩
/-- `BRG.WIN_DATA2` (R336). -/
def BRG.WIN_DATA2 : Nat := 0x183428
def BRG.WIN_DATA2_LOCAL_BASE : RF := ⟨BRG.WIN_DATA2, 0, 32⟩
/-- `BRG.WIN_DATA3` (R336). -/
def BRG.WIN_DATA3 : Nat := 0x18342C
def BRG.WIN_DATA3_LENGTH : RF := ⟨BRG.WIN_DATA3, 12, 20⟩
/-- `BRG.WIN_DATA4` (R336). -/
def BRG.WIN_DATA4 : Nat := 0x183430
def BRG.WIN_DATA4_LENGTH : RF := ⟨BRG.WIN_DATA4, 0, 32⟩
/-- `BRG.WIN_DATA5` (R336). -/
def BRG.WIN_DATA5 : Nat := 0x183434
def BRG.WIN_DATA5_REMOTE_BASE : RF := ⟨BRG.WIN_DATA5, 12, 20⟩
/-- `BRG.WIN_DATA6` (R336). -/
def BRG.WIN_DATA6 : Nat := 0x183438
def BRG.WIN_DATA6_REMOTE_BASE : RF := ⟨BRG.WIN_DATA6, 0, 32⟩
/-- `BRG.WIN_DATA7` (R336). -/
def BRG.WIN_DATA7 : Nat := 0x18343C
def BRG.WIN_DATA7_ACKED_OUT : RF := ⟨BRG.WIN_DATA7, 0, 16⟩
/-- `BRG.FENCE_STATS` (R336). -/
def BRG.FENCE_STATS (n : Nat) : Nat := 0x184004 + 0x10 * n
def BRG.FENCE_STATS_V (n : Nat) : RF := ⟨BRG.FENCE_STATS n, 0, 32⟩
/-- `BRG.FENCE_SNAP_RID` (R336). -/
def BRG.FENCE_SNAP_RID (n : Nat) (m : Nat) : Nat := 0x180804 + 0x20 * n + 0x4 * m
def BRG.FENCE_SNAP_RID_V (n : Nat) (m : Nat) : RF := ⟨BRG.FENCE_SNAP_RID n m, 0, 32⟩
/-- `RMA.CTRL` (R374). -/
def RMA.CTRL : Nat := 0x1C0000
def RMA.CTRL_TAG10 : RF := ⟨RMA.CTRL, 0, 1⟩
/-- `RMA.RX_POOL` (R374). -/
def RMA.RX_POOL : Nat := 0x1C0008
def RMA.RX_POOL_TOTAL : RF := ⟨RMA.RX_POOL, 0, 14⟩
def RMA.RX_POOL_ALLOTTED : RF := ⟨RMA.RX_POOL, 16, 14⟩
/-- `RMA.AUTH_REC` (R374). -/
def RMA.AUTH_REC : Nat := 0x1C000C
def RMA.AUTH_REC_VALID : RF := ⟨RMA.AUTH_REC, 0, 1⟩
def RMA.AUTH_REC_PHASE : RF := ⟨RMA.AUTH_REC, 1, 1⟩
def RMA.AUTH_REC_CONN : RF := ⟨RMA.AUTH_REC, 2, 10⟩
def RMA.AUTH_REC_DEVID : RF := ⟨RMA.AUTH_REC, 12, 11⟩
/-- `RMA.AUTH_COUNT` (R374). -/
def RMA.AUTH_COUNT : Nat := 0x1C0010
def RMA.AUTH_COUNT_V : RF := ⟨RMA.AUTH_COUNT, 0, 32⟩
/-- `RMA.DUP` (R374). -/
def RMA.DUP : Nat := 0x1C0014
def RMA.DUP_V : RF := ⟨RMA.DUP, 0, 32⟩
/-- `RMA.BAD_KIND` (R374). -/
def RMA.BAD_KIND : Nat := 0x1C0018
def RMA.BAD_KIND_V : RF := ⟨RMA.BAD_KIND, 0, 32⟩
/-- `RMA.RING_OWNER` (R374). -/
def RMA.RING_OWNER (n : Nat) : Nat := 0x1C1000 + 0x40 * n
def RMA.RING_OWNER_VALID (n : Nat) : RF := ⟨RMA.RING_OWNER n, 0, 1⟩
def RMA.RING_OWNER_PART (n : Nat) : RF := ⟨RMA.RING_OWNER n, 1, 5⟩
/-- `RMA.RING_PASID` (R374). -/
def RMA.RING_PASID (n : Nat) : Nat := 0x1C1008 + 0x40 * n
def RMA.RING_PASID_PASID (n : Nat) : RF := ⟨RMA.RING_PASID n, 0, 20⟩
def RMA.RING_PASID_PV (n : Nat) : RF := ⟨RMA.RING_PASID n, 20, 1⟩
/-- `RMA.RING_SQ_BASE_LO` (R374). -/
def RMA.RING_SQ_BASE_LO (n : Nat) : Nat := 0x1C1010 + 0x40 * n
def RMA.RING_SQ_BASE_LO_V (n : Nat) : RF := ⟨RMA.RING_SQ_BASE_LO n, 12, 20⟩
/-- `RMA.RING_SQ_BASE_HI` (R374). -/
def RMA.RING_SQ_BASE_HI (n : Nat) : Nat := 0x1C1014 + 0x40 * n
def RMA.RING_SQ_BASE_HI_V (n : Nat) : RF := ⟨RMA.RING_SQ_BASE_HI n, 0, 32⟩
/-- `RMA.RING_CQ_BASE_LO` (R374). -/
def RMA.RING_CQ_BASE_LO (n : Nat) : Nat := 0x1C1018 + 0x40 * n
def RMA.RING_CQ_BASE_LO_V (n : Nat) : RF := ⟨RMA.RING_CQ_BASE_LO n, 12, 20⟩
/-- `RMA.RING_CQ_BASE_HI` (R374). -/
def RMA.RING_CQ_BASE_HI (n : Nat) : Nat := 0x1C101C + 0x40 * n
def RMA.RING_CQ_BASE_HI_V (n : Nat) : RF := ⟨RMA.RING_CQ_BASE_HI n, 0, 32⟩
/-- `RMA.RING_SQ_TAIL` (R374). -/
def RMA.RING_SQ_TAIL (n : Nat) : Nat := 0x1C1020 + 0x40 * n
def RMA.RING_SQ_TAIL_COUNT (n : Nat) : RF := ⟨RMA.RING_SQ_TAIL n, 0, 16⟩
/-- `RMA.RING_SQ_HEAD` (R374). -/
def RMA.RING_SQ_HEAD (n : Nat) : Nat := 0x1C1024 + 0x40 * n
def RMA.RING_SQ_HEAD_COUNT (n : Nat) : RF := ⟨RMA.RING_SQ_HEAD n, 0, 16⟩
/-- `RMA.RING_CQ_HEAD` (R374). -/
def RMA.RING_CQ_HEAD (n : Nat) : Nat := 0x1C1028 + 0x40 * n
def RMA.RING_CQ_HEAD_COUNT (n : Nat) : RF := ⟨RMA.RING_CQ_HEAD n, 0, 16⟩
/-- `RMA.RING_CQ_TAIL` (R374). -/
def RMA.RING_CQ_TAIL (n : Nat) : Nat := 0x1C102C + 0x40 * n
def RMA.RING_CQ_TAIL_COUNT (n : Nat) : RF := ⟨RMA.RING_CQ_TAIL n, 0, 16⟩
/-- `RMA.KEY_POOL` (R374). -/
def RMA.KEY_POOL (n : Nat) : Nat := 0x1C2000 + 0x4 * n
def RMA.KEY_POOL_BASE (n : Nat) : RF := ⟨RMA.KEY_POOL n, 0, 12⟩
def RMA.KEY_POOL_COUNT (n : Nat) : RF := ⟨RMA.KEY_POOL n, 12, 13⟩
/-- `RMA.KEYCMD_INDEX` (R374). -/
def RMA.KEYCMD_INDEX (n : Nat) : Nat := 0x1C2200 + 0x20 * n
def RMA.KEYCMD_INDEX_INDEX (n : Nat) : RF := ⟨RMA.KEYCMD_INDEX n, 0, 12⟩
/-- `RMA.KEYCMD_PASID` (R374). -/
def RMA.KEYCMD_PASID (n : Nat) : Nat := 0x1C2204 + 0x20 * n
def RMA.KEYCMD_PASID_PASID (n : Nat) : RF := ⟨RMA.KEYCMD_PASID n, 0, 20⟩
def RMA.KEYCMD_PASID_READ (n : Nat) : RF := ⟨RMA.KEYCMD_PASID n, 20, 1⟩
def RMA.KEYCMD_PASID_WRITE (n : Nat) : RF := ⟨RMA.KEYCMD_PASID n, 21, 1⟩
def RMA.KEYCMD_PASID_RING (n : Nat) : RF := ⟨RMA.KEYCMD_PASID n, 22, 6⟩
/-- `RMA.KEYCMD_CMD` (R374). -/
def RMA.KEYCMD_CMD (n : Nat) : Nat := 0x1C2208 + 0x20 * n
def RMA.KEYCMD_CMD_REGISTER (n : Nat) : RF := ⟨RMA.KEYCMD_CMD n, 0, 1⟩
def RMA.KEYCMD_CMD_REVOKE (n : Nat) : RF := ⟨RMA.KEYCMD_CMD n, 1, 1⟩
def RMA.KEYCMD_CMD_FREE (n : Nat) : RF := ⟨RMA.KEYCMD_CMD n, 2, 1⟩
/-- `RMA.KEYCMD_STATE` (R374). -/
def RMA.KEYCMD_STATE (n : Nat) : Nat := 0x1C220C + 0x20 * n
def RMA.KEYCMD_STATE_STATE (n : Nat) : RF := ⟨RMA.KEYCMD_STATE n, 0, 2⟩
def RMA.KEYCMD_STATE_GEN (n : Nat) : RF := ⟨RMA.KEYCMD_STATE n, 2, 12⟩
def RMA.KEYCMD_STATE_INFLIGHT (n : Nat) : RF := ⟨RMA.KEYCMD_STATE n, 14, 16⟩
/-- `RMA.KEYCMD_RESULT` (R374). -/
def RMA.KEYCMD_RESULT (n : Nat) : Nat := 0x1C2210 + 0x20 * n
def RMA.KEYCMD_RESULT_RESULT (n : Nat) : RF := ⟨RMA.KEYCMD_RESULT n, 0, 8⟩
/-- `RMA.CONN_SEL` (R374). -/
def RMA.CONN_SEL : Nat := 0x1C3000
def RMA.CONN_SEL_INDEX : RF := ⟨RMA.CONN_SEL, 0, 10⟩
/-- `RMA.CONN_DATA0` (R374). -/
def RMA.CONN_DATA0 : Nat := 0x1C3010
def RMA.CONN_DATA0_PART : RF := ⟨RMA.CONN_DATA0, 0, 5⟩
def RMA.CONN_DATA0_TC : RF := ⟨RMA.CONN_DATA0, 5, 3⟩
def RMA.CONN_DATA0_MODE : RF := ⟨RMA.CONN_DATA0, 8, 1⟩
def RMA.CONN_DATA0_FO_DEFER : RF := ⟨RMA.CONN_DATA0, 9, 1⟩
def RMA.CONN_DATA0_RETRY_LIMIT : RF := ⟨RMA.CONN_DATA0, 10, 4⟩
def RMA.CONN_DATA0_REMOTE_CONN : RF := ⟨RMA.CONN_DATA0, 16, 10⟩
def RMA.CONN_DATA0_RING : RF := ⟨RMA.CONN_DATA0, 26, 6⟩
/-- `RMA.CONN_DATA1` (R374). -/
def RMA.CONN_DATA1 : Nat := 0x1C3014
def RMA.CONN_DATA1_REMOTE_DEVID : RF := ⟨RMA.CONN_DATA1, 0, 11⟩
def RMA.CONN_DATA1_RTO_US : RF := ⟨RMA.CONN_DATA1, 16, 16⟩
/-- `RMA.CONN_DATA2` (R374). -/
def RMA.CONN_DATA2 : Nat := 0x1C3018
def RMA.CONN_DATA2_CREDIT_BLOCKS : RF := ⟨RMA.CONN_DATA2, 0, 14⟩
/-- `RMA.CONN_DATA3` (R374). -/
def RMA.CONN_DATA3 : Nat := 0x1C301C
def RMA.CONN_DATA3_STATE : RF := ⟨RMA.CONN_DATA3, 0, 3⟩
def RMA.CONN_DATA3_TX_PHASE : RF := ⟨RMA.CONN_DATA3, 3, 1⟩
def RMA.CONN_DATA3_OUTSTANDING : RF := ⟨RMA.CONN_DATA3, 8, 11⟩
/-- `RMA.CONN_CMD` (R374). -/
def RMA.CONN_CMD : Nat := 0x1C3020
def RMA.CONN_CMD_OPEN : RF := ⟨RMA.CONN_CMD, 0, 1⟩
def RMA.CONN_CMD_CLOSE : RF := ⟨RMA.CONN_CMD, 1, 1⟩
def RMA.CONN_CMD_SWITCH_KEY : RF := ⟨RMA.CONN_CMD, 2, 1⟩
/-- `RMA.CONN_RESULT` (R374). -/
def RMA.CONN_RESULT : Nat := 0x1C3024
def RMA.CONN_RESULT_REASON : RF := ⟨RMA.CONN_RESULT, 0, 8⟩
/-- `RMA.CONN_COUNTER_LO` (R374). -/
def RMA.CONN_COUNTER_LO : Nat := 0x1C3028
def RMA.CONN_COUNTER_LO_V : RF := ⟨RMA.CONN_COUNTER_LO, 0, 32⟩
/-- `RMA.CONN_COUNTER_HI` (R374). -/
def RMA.CONN_COUNTER_HI : Nat := 0x1C302C
def RMA.CONN_COUNTER_HI_V : RF := ⟨RMA.CONN_COUNTER_HI, 0, 32⟩
/-- `RMA.CONN_PSN` (R374). -/
def RMA.CONN_PSN : Nat := 0x1C3030
def RMA.CONN_PSN_PSN : RF := ⟨RMA.CONN_PSN, 0, 24⟩
/-- `RMA.CRYPTO_KEY` (R374). -/
def RMA.CRYPTO_KEY (n : Nat) : Nat := 0x1C3120 + 0x4 * n
def RMA.CRYPTO_KEY_KEY (n : Nat) : RF := ⟨RMA.CRYPTO_KEY n, 0, 32⟩
/-- `TWIN.CMD_EPOCH_LO` (R418). -/
def TWIN.CMD_EPOCH_LO : Nat := 0x210008
def TWIN.CMD_EPOCH_LO_V : RF := ⟨TWIN.CMD_EPOCH_LO, 0, 32⟩
/-- `TWIN.CMD_EPOCH_HI` (R418). -/
def TWIN.CMD_EPOCH_HI : Nat := 0x21000C
def TWIN.CMD_EPOCH_HI_V : RF := ⟨TWIN.CMD_EPOCH_HI, 0, 32⟩
/-- `TWIN.BAD_MSG` (R418). -/
def TWIN.BAD_MSG : Nat := 0x21001C
def TWIN.BAD_MSG_COUNT : RF := ⟨TWIN.BAD_MSG, 0, 32⟩
/-- `TWIN.PEER_LEDGER_LO` (R418). -/
def TWIN.PEER_LEDGER_LO : Nat := 0x210020
def TWIN.PEER_LEDGER_LO_V : RF := ⟨TWIN.PEER_LEDGER_LO, 0, 32⟩
/-- `TWIN.PEER_LEDGER_HI` (R418). -/
def TWIN.PEER_LEDGER_HI : Nat := 0x210024
def TWIN.PEER_LEDGER_HI_V : RF := ⟨TWIN.PEER_LEDGER_HI, 0, 32⟩
/-- `TWIN.CKPT_SENT` (R418). -/
def TWIN.CKPT_SENT : Nat := 0x210028
def TWIN.CKPT_SENT_V : RF := ⟨TWIN.CKPT_SENT, 0, 32⟩
/-- `TWIN.CKPT_RCVD` (R418). -/
def TWIN.CKPT_RCVD : Nat := 0x21002C
def TWIN.CKPT_RCVD_V : RF := ⟨TWIN.CKPT_RCVD, 0, 32⟩
/-- `TWIN.CKPT_AGE` (R418). -/
def TWIN.CKPT_AGE : Nat := 0x210030
def TWIN.CKPT_AGE_V : RF := ⟨TWIN.CKPT_AGE, 0, 32⟩
/-- `TWIN.DUAL` (R418). -/
def TWIN.DUAL (n : Nat) : Nat := 0x210040 + 0x4 * n
def TWIN.DUAL_MAP (n : Nat) : RF := ⟨TWIN.DUAL n, 0, 32⟩
/-- `TWIN.DEGRADED_ACT` (R418). -/
def TWIN.DEGRADED_ACT : Nat := 0x21004C
def TWIN.DEGRADED_ACT_ACT : RF := ⟨TWIN.DEGRADED_ACT, 0, 16⟩
/-- `TWIN.NOTIFY` (R418). -/
def TWIN.NOTIFY (n : Nat) : Nat := 0x210100 + 0x4 * n
def TWIN.NOTIFY_VECTOR (n : Nat) : RF := ⟨TWIN.NOTIFY n, 0, 6⟩
def TWIN.NOTIFY_EN (n : Nat) : RF := ⟨TWIN.NOTIFY n, 6, 1⟩
/-- `TWIN.PAIR_KEY_CTRL` (R418). -/
def TWIN.PAIR_KEY_CTRL : Nat := 0x210200
def TWIN.PAIR_KEY_CTRL_LOAD : RF := ⟨TWIN.PAIR_KEY_CTRL, 0, 1⟩
def TWIN.PAIR_KEY_CTRL_LOADED : RF := ⟨TWIN.PAIR_KEY_CTRL, 1, 1⟩
/-- `TWIN.PAIR_KEY` (R418). -/
def TWIN.PAIR_KEY (n : Nat) : Nat := 0x210220 + 0x4 * n
def TWIN.PAIR_KEY_KEY (n : Nat) : RF := ⟨TWIN.PAIR_KEY n, 0, 32⟩
/-- `FLT.STATUS_LO` (R446). -/
def FLT.STATUS_LO : Nat := 0x30000
def FLT.STATUS_LO_SRC : RF := ⟨FLT.STATUS_LO, 0, 32⟩
/-- `FLT.STATUS_HI` (R446). -/
def FLT.STATUS_HI : Nat := 0x30004
def FLT.STATUS_HI_SRC : RF := ⟨FLT.STATUS_HI, 0, 32⟩
/-- `FLT.FIRST_FT_LO` (R446). -/
def FLT.FIRST_FT_LO : Nat := 0x30010
def FLT.FIRST_FT_LO_V : RF := ⟨FLT.FIRST_FT_LO, 0, 32⟩
/-- `FLT.FIRST_FT_HI` (R446). -/
def FLT.FIRST_FT_HI : Nat := 0x30014
def FLT.FIRST_FT_HI_V : RF := ⟨FLT.FIRST_FT_HI, 0, 32⟩
/-- `FLT.FIRST_LEDGER_LO` (R446). -/
def FLT.FIRST_LEDGER_LO : Nat := 0x30018
def FLT.FIRST_LEDGER_LO_V : RF := ⟨FLT.FIRST_LEDGER_LO, 0, 32⟩
/-- `FLT.FIRST_LEDGER_HI` (R446). -/
def FLT.FIRST_LEDGER_HI : Nat := 0x3001C
def FLT.FIRST_LEDGER_HI_V : RF := ⟨FLT.FIRST_LEDGER_HI, 0, 32⟩
/-- `FLT.IRQ_CTRL` (R446). -/
def FLT.IRQ_CTRL : Nat := 0x30028
def FLT.IRQ_CTRL_MSP_EN : RF := ⟨FLT.IRQ_CTRL, 0, 1⟩
/-- `FLT.IRQ_VEC` (R446). -/
def FLT.IRQ_VEC (n : Nat) : Nat := 0x30080 + 0x4 * n
def FLT.IRQ_VEC_VECTOR (n : Nat) : RF := ⟨FLT.IRQ_VEC n, 0, 6⟩
def FLT.IRQ_VEC_EN (n : Nat) : RF := ⟨FLT.IRQ_VEC n, 6, 1⟩
/-- `FLT.SHED_PART` (R446). -/
def FLT.SHED_PART : Nat := 0x30034
def FLT.SHED_PART_MAP : RF := ⟨FLT.SHED_PART, 0, 32⟩
/-- `FLT.SHED_BUNDLE` (R446). -/
def FLT.SHED_BUNDLE : Nat := 0x30038
def FLT.SHED_BUNDLE_MAP : RF := ⟨FLT.SHED_BUNDLE, 0, 4⟩
/-- `FLT.SRC_ACT` (R446). -/
def FLT.SRC_ACT (n : Nat) : Nat := 0x30404 + 0x10 * n
def FLT.SRC_ACT_ACT_CE (n : Nat) : RF := ⟨FLT.SRC_ACT n, 0, 16⟩
def FLT.SRC_ACT_ACT_UC (n : Nat) : RF := ⟨FLT.SRC_ACT n, 16, 16⟩
/-- `FLT.SRC_ACT_FATAL` (R446). -/
def FLT.SRC_ACT_FATAL (n : Nat) : Nat := 0x30408 + 0x10 * n
def FLT.SRC_ACT_FATAL_ACT_FATAL (n : Nat) : RF := ⟨FLT.SRC_ACT_FATAL n, 0, 16⟩
/-- `JRNL.WR_INDEX` (R447). -/
def JRNL.WR_INDEX : Nat := 0x300008
def JRNL.WR_INDEX_V : RF := ⟨JRNL.WR_INDEX, 0, 32⟩
/-- `JRNL.RD_INDEX` (R447). -/
def JRNL.RD_INDEX : Nat := 0x30000C
def JRNL.RD_INDEX_V : RF := ⟨JRNL.RD_INDEX, 0, 32⟩
/-- `JRNL.LOST` (R447). -/
def JRNL.LOST : Nat := 0x300010
def JRNL.LOST_V : RF := ⟨JRNL.LOST, 0, 32⟩
/-- `JRNL.RING_BASE_LO` (R447). -/
def JRNL.RING_BASE_LO : Nat := 0x300020
def JRNL.RING_BASE_LO_V : RF := ⟨JRNL.RING_BASE_LO, 12, 20⟩
/-- `JRNL.RING_BASE_HI` (R447). -/
def JRNL.RING_BASE_HI : Nat := 0x300024
def JRNL.RING_BASE_HI_V : RF := ⟨JRNL.RING_BASE_HI, 0, 32⟩
/-- `JRNL.RING_CFG` (R447). -/
def JRNL.RING_CFG : Nat := 0x300028
def JRNL.RING_CFG_SIZE_EXP : RF := ⟨JRNL.RING_CFG, 0, 5⟩
def JRNL.RING_CFG_PART : RF := ⟨JRNL.RING_CFG, 5, 5⟩
def JRNL.RING_CFG_VECTOR : RF := ⟨JRNL.RING_CFG, 10, 6⟩
/-- `JRNL.RING_HEAD` (R447). -/
def JRNL.RING_HEAD : Nat := 0x30002C
def JRNL.RING_HEAD_V : RF := ⟨JRNL.RING_HEAD, 0, 32⟩
/-- `JRNL.RING_TAIL` (R447). -/
def JRNL.RING_TAIL : Nat := 0x300030
def JRNL.RING_TAIL_V : RF := ⟨JRNL.RING_TAIL, 0, 32⟩
/-- `JRNL.LAST_HASH` (R447). -/
def JRNL.LAST_HASH (n : Nat) : Nat := 0x300040 + 0x4 * n
def JRNL.LAST_HASH_V (n : Nat) : RF := ⟨JRNL.LAST_HASH n, 0, 32⟩
/-- `SLOT.MEAS` (R464). -/
def SLOT.MEAS (n : Nat) : Nat := 0x200014 + 0x1000 * n
def SLOT.MEAS_IOUT (n : Nat) : RF := ⟨SLOT.MEAS n, 0, 14⟩
def SLOT.MEAS_VOUT (n : Nat) : RF := ⟨SLOT.MEAS n, 14, 10⟩
/-- `SLOT.MEAS2` (R464). -/
def SLOT.MEAS2 (n : Nat) : Nat := 0x200018 + 0x1000 * n
def SLOT.MEAS2_VGATE (n : Nat) : RF := ⟨SLOT.MEAS2 n, 0, 10⟩
def SLOT.MEAS2_VIN (n : Nat) : RF := ⟨SLOT.MEAS2 n, 10, 10⟩
/-- `SLOT.TRIPS` (R464). -/
def SLOT.TRIPS (n : Nat) : Nat := 0x20001C + 0x1000 * n
def SLOT.TRIPS_TIMER (n : Nat) : RF := ⟨SLOT.TRIPS n, 0, 8⟩
def SLOT.TRIPS_FAST (n : Nat) : RF := ⟨SLOT.TRIPS n, 8, 8⟩
def SLOT.TRIPS_LIMIT (n : Nat) : RF := ⟨SLOT.TRIPS n, 16, 16⟩
/-- `SLOT.TIMERS` (R464). -/
def SLOT.TIMERS (n : Nat) : Nat := 0x200020 + 0x1000 * n
def SLOT.TIMERS_REMAIN (n : Nat) : RF := ⟨SLOT.TIMERS n, 0, 16⟩
def SLOT.TIMERS_ABSENT (n : Nat) : RF := ⟨SLOT.TIMERS n, 16, 16⟩
/-- `MDMA.ENG_OWNER` (R493). -/
def MDMA.ENG_OWNER (n : Nat) : Nat := 0x400100 + 0x40 * n
def MDMA.ENG_OWNER_VALID (n : Nat) : RF := ⟨MDMA.ENG_OWNER n, 0, 1⟩
def MDMA.ENG_OWNER_PART (n : Nat) : RF := ⟨MDMA.ENG_OWNER n, 1, 5⟩
/-- `MDMA.ENG_SQ_BASE_LO` (R493). -/
def MDMA.ENG_SQ_BASE_LO (n : Nat) : Nat := 0x400108 + 0x40 * n
def MDMA.ENG_SQ_BASE_LO_V (n : Nat) : RF := ⟨MDMA.ENG_SQ_BASE_LO n, 12, 20⟩
/-- `MDMA.ENG_SQ_BASE_HI` (R493). -/
def MDMA.ENG_SQ_BASE_HI (n : Nat) : Nat := 0x40010C + 0x40 * n
def MDMA.ENG_SQ_BASE_HI_V (n : Nat) : RF := ⟨MDMA.ENG_SQ_BASE_HI n, 0, 32⟩
/-- `MDMA.ENG_CQ_BASE_LO` (R493). -/
def MDMA.ENG_CQ_BASE_LO (n : Nat) : Nat := 0x400110 + 0x40 * n
def MDMA.ENG_CQ_BASE_LO_V (n : Nat) : RF := ⟨MDMA.ENG_CQ_BASE_LO n, 12, 20⟩
/-- `MDMA.ENG_CQ_BASE_HI` (R493). -/
def MDMA.ENG_CQ_BASE_HI (n : Nat) : Nat := 0x400114 + 0x40 * n
def MDMA.ENG_CQ_BASE_HI_V (n : Nat) : RF := ⟨MDMA.ENG_CQ_BASE_HI n, 0, 32⟩
/-- `MDMA.ENG_SQ_TAIL` (R493). -/
def MDMA.ENG_SQ_TAIL (n : Nat) : Nat := 0x400118 + 0x40 * n
def MDMA.ENG_SQ_TAIL_COUNT (n : Nat) : RF := ⟨MDMA.ENG_SQ_TAIL n, 0, 16⟩
/-- `MDMA.ENG_SQ_HEAD` (R493). -/
def MDMA.ENG_SQ_HEAD (n : Nat) : Nat := 0x40011C + 0x40 * n
def MDMA.ENG_SQ_HEAD_COUNT (n : Nat) : RF := ⟨MDMA.ENG_SQ_HEAD n, 0, 16⟩
/-- `MDMA.ENG_CQ_HEAD` (R493). -/
def MDMA.ENG_CQ_HEAD (n : Nat) : Nat := 0x400120 + 0x40 * n
def MDMA.ENG_CQ_HEAD_COUNT (n : Nat) : RF := ⟨MDMA.ENG_CQ_HEAD n, 0, 16⟩
/-- `MDMA.ENG_CQ_TAIL` (R493). -/
def MDMA.ENG_CQ_TAIL (n : Nat) : Nat := 0x400124 + 0x40 * n
def MDMA.ENG_CQ_TAIL_COUNT (n : Nat) : RF := ⟨MDMA.ENG_CQ_TAIL n, 0, 16⟩
/-- `PWR.DOMAIN_OCT` (R515). -/
def PWR.DOMAIN_OCT : Nat := 0x20008
def PWR.DOMAIN_OCT_ON : RF := ⟨PWR.DOMAIN_OCT, 0, 32⟩
/-- `PWR.DOMAIN_MISC` (R515). -/
def PWR.DOMAIN_MISC : Nat := 0x2000C
def PWR.DOMAIN_MISC_BUNDLE : RF := ⟨PWR.DOMAIN_MISC, 0, 4⟩
def PWR.DOMAIN_MISC_POWER_DIE : RF := ⟨PWR.DOMAIN_MISC, 4, 1⟩
def PWR.DOMAIN_MISC_VDD_IO_GOOD : RF := ⟨PWR.DOMAIN_MISC, 5, 1⟩
/-- `PWR.AVS_CFG` (R515). -/
def PWR.AVS_CFG : Nat := 0x20020
def PWR.AVS_CFG_MIN_MV : RF := ⟨PWR.AVS_CFG, 0, 10⟩
def PWR.AVS_CFG_MAX_MV : RF := ⟨PWR.AVS_CFG, 16, 10⟩
/-- `PWR.AVS_STATUS` (R515). -/
def PWR.AVS_STATUS : Nat := 0x20024
def PWR.AVS_STATUS_MV : RF := ⟨PWR.AVS_STATUS, 0, 10⟩
/-- `PWR.FUSE_DATA` (R515). -/
def PWR.FUSE_DATA (n : Nat) : Nat := 0x200A0 + 0x4 * n
def PWR.FUSE_DATA_V (n : Nat) : RF := ⟨PWR.FUSE_DATA n, 0, 32⟩

/-! ### Entries behind the indirect windows

A table reached through a select register has its entries at offsets from 2^24 upward, outside BAR0, so that the shadow of R521
belongs to the entry. -/

/-- Word `k` of entry `i` of the table behind `SCHED.SUB_DATA`. -/
def Sub.word (i k : Nat) : Nat := 0x1000000 + 32 * i + 4 * k
def Sub.ENABLE (i : Nat) : RF := ⟨Sub.word i 0, 0, 1⟩
def Sub.SELECT (i : Nat) : RF := ⟨Sub.word i 0, 1, 1⟩
def Sub.TC (i : Nat) : RF := ⟨Sub.word i 0, 2, 3⟩
def Sub.PORTID (i : Nat) : RF := ⟨Sub.word i 0, 5, 7⟩
def Sub.COLOUR (i : Nat) : RF := ⟨Sub.word i 0, 12, 12⟩
def Sub.RATE (i : Nat) : RF := ⟨Sub.word i 1, 0, 32⟩
def Sub.BURST (i : Nat) : RF := ⟨Sub.word i 2, 0, 32⟩
def Sub.BUSY (i : Nat) : RF := ⟨Sub.word i 3, 0, 1⟩
def Sub.ORPHAN (i : Nat) : RF := ⟨Sub.word i 3, 1, 1⟩
def Sub.CELLS (i : Nat) : RF := ⟨Sub.word i 3, 8, 24⟩
def Sub.ADDR_LO (i : Nat) : RF := ⟨Sub.word i 4, 8, 24⟩
def Sub.ADDR_LO_HI (i : Nat) : RF := ⟨Sub.word i 5, 0, 32⟩
def Sub.ADDR_HI (i : Nat) : RF := ⟨Sub.word i 6, 8, 24⟩
def Sub.ADDR_HI_HI (i : Nat) : RF := ⟨Sub.word i 7, 0, 32⟩
/-- Word `k` of entry `i` of the table behind `PART.COLOUR_DATA`. -/
def Colour.word (i k : Nat) : Nat := 0x1060000 + 8 * i + 4 * k
def Colour.VALID (i : Nat) : RF := ⟨Colour.word i 0, 0, 1⟩
def Colour.SELECT (i : Nat) : RF := ⟨Colour.word i 0, 1, 1⟩
def Colour.PORTID (i : Nat) : RF := ⟨Colour.word i 0, 2, 7⟩
def Colour.COLOUR (i : Nat) : RF := ⟨Colour.word i 0, 12, 12⟩
def Colour.RID_LO (i : Nat) : RF := ⟨Colour.word i 1, 0, 16⟩
def Colour.RID_HI (i : Nat) : RF := ⟨Colour.word i 1, 16, 16⟩
/-- Word `k` of entry `i` of the table behind `PART.BIND_DATA`. -/
def Bind.word (i k : Nat) : Nat := 0x1070000 + 32 * i + 4 * k
def Bind.VALID (i : Nat) : RF := ⟨Bind.word i 0, 0, 1⟩
def Bind.PART (i : Nat) : RF := ⟨Bind.word i 0, 1, 5⟩
def Bind.TARGET (i : Nat) : RF := ⟨Bind.word i 0, 6, 7⟩
def Bind.HOST_BAR (i : Nat) : RF := ⟨Bind.word i 0, 13, 2⟩
def Bind.VDSP (i : Nat) : RF := ⟨Bind.word i 0, 15, 5⟩
def Bind.HOST_RID (i : Nat) : RF := ⟨Bind.word i 1, 0, 16⟩
def Bind.DEV_RID (i : Nat) : RF := ⟨Bind.word i 1, 16, 16⟩
def Bind.HOST_BASE (i : Nat) : RF := ⟨Bind.word i 2, 12, 20⟩
def Bind.HOST_BASE_HI (i : Nat) : RF := ⟨Bind.word i 3, 0, 32⟩
def Bind.DEV_BASE (i : Nat) : RF := ⟨Bind.word i 4, 12, 20⟩
def Bind.DEV_BASE_HI (i : Nat) : RF := ⟨Bind.word i 5, 0, 32⟩
def Bind.LENGTH (i : Nat) : RF := ⟨Bind.word i 6, 12, 20⟩
def Bind.LENGTH_HI (i : Nat) : RF := ⟨Bind.word i 7, 0, 32⟩
/-- Word `k` of entry `i` of the table behind `GUARD.REG_DATA`. -/
def Region.word (i k : Nat) : Nat := 0x10A0000 + 32 * i + 4 * k
def Region.START (i : Nat) : RF := ⟨Region.word i 0, 8, 24⟩
def Region.START_HI (i : Nat) : RF := ⟨Region.word i 1, 0, 32⟩
def Region.END (i : Nat) : RF := ⟨Region.word i 2, 8, 24⟩
def Region.END_HI (i : Nat) : RF := ⟨Region.word i 3, 0, 32⟩
def Region.VALID (i : Nat) : RF := ⟨Region.word i 4, 0, 1⟩
def Region.MATCH (i : Nat) : RF := ⟨Region.word i 4, 1, 2⟩
def Region.READ (i : Nat) : RF := ⟨Region.word i 4, 3, 1⟩
def Region.WRITE (i : Nat) : RF := ⟨Region.word i 4, 4, 1⟩
def Region.ATOMIC (i : Nat) : RF := ⟨Region.word i 4, 5, 1⟩
def Region.LOCK (i : Nat) : RF := ⟨Region.word i 4, 6, 1⟩
def Region.TAG (i : Nat) : RF := ⟨Region.word i 4, 8, 12⟩
/-- Word `k` of entry `i` of the table behind `BRG.WIN_DATA`. -/
def Win.word (i k : Nat) : Nat := 0x10E0000 + 32 * i + 4 * k
def Win.VALID (i : Nat) : RF := ⟨Win.word i 0, 0, 1⟩
def Win.MODE (i : Nat) : RF := ⟨Win.word i 0, 1, 1⟩
def Win.TC (i : Nat) : RF := ⟨Win.word i 0, 2, 3⟩
def Win.PART (i : Nat) : RF := ⟨Win.word i 0, 5, 5⟩
def Win.PORTID (i : Nat) : RF := ⟨Win.word i 0, 10, 7⟩
def Win.DEVID (i : Nat) : RF := ⟨Win.word i 0, 17, 11⟩
def Win.LOCAL_BASE (i : Nat) : RF := ⟨Win.word i 1, 12, 20⟩
def Win.LOCAL_BASE_HI (i : Nat) : RF := ⟨Win.word i 2, 0, 32⟩
def Win.LENGTH (i : Nat) : RF := ⟨Win.word i 3, 12, 20⟩
def Win.LENGTH_HI (i : Nat) : RF := ⟨Win.word i 4, 0, 32⟩
def Win.REMOTE_BASE (i : Nat) : RF := ⟨Win.word i 5, 12, 20⟩
def Win.REMOTE_BASE_HI (i : Nat) : RF := ⟨Win.word i 6, 0, 32⟩
def Win.ACKED_OUT (i : Nat) : RF := ⟨Win.word i 7, 0, 16⟩
/-- Word `k` of entry `i` of the table behind `RMA.CONN_DATA`. -/
def ConnW.word (i k : Nat) : Nat := 0x10F0000 + 16 * i + 4 * k
def ConnW.PART (i : Nat) : RF := ⟨ConnW.word i 0, 0, 5⟩
def ConnW.TC (i : Nat) : RF := ⟨ConnW.word i 0, 5, 3⟩
def ConnW.MODE (i : Nat) : RF := ⟨ConnW.word i 0, 8, 1⟩
def ConnW.FO_DEFER (i : Nat) : RF := ⟨ConnW.word i 0, 9, 1⟩
def ConnW.RETRY_LIMIT (i : Nat) : RF := ⟨ConnW.word i 0, 10, 4⟩
def ConnW.REMOTE_CONN (i : Nat) : RF := ⟨ConnW.word i 0, 16, 10⟩
def ConnW.RING (i : Nat) : RF := ⟨ConnW.word i 0, 26, 6⟩
def ConnW.REMOTE_DEVID (i : Nat) : RF := ⟨ConnW.word i 1, 0, 11⟩
def ConnW.RTO_US (i : Nat) : RF := ⟨ConnW.word i 1, 16, 16⟩
def ConnW.CREDIT_BLOCKS (i : Nat) : RF := ⟨ConnW.word i 2, 0, 14⟩
def ConnW.STATE (i : Nat) : RF := ⟨ConnW.word i 3, 0, 3⟩
def ConnW.TX_PHASE (i : Nat) : RF := ⟨ConnW.word i 3, 3, 1⟩
def ConnW.OUTSTANDING (i : Nat) : RF := ⟨ConnW.word i 3, 8, 11⟩
/-- The low word of entry `e` of the gate list of SCHED port index `i` (R205). -/
def Gate.word (i e : Nat) : Nat := 0x1020000 + 2048 * i + 8 * e

/-- The register definitions of block GLB. -/
def regsGLB0 : List RegDef :=
  [⟨0x40, [], .whole, [⟨0, 4, .ro⟩, ⟨4, 4, .ro⟩, ⟨8, 4, .ro⟩, ⟨12, 4, .ro⟩, ⟨16, 4, .ro⟩, ⟨20, 1, .ro⟩, ⟨21, 1, .ro⟩, ⟨22, 1, .ro⟩, ⟨23, 1, .ro⟩, ⟨24, 1, .ro⟩]⟩,
   ⟨0x50, [], .lo, [⟨0, 32, .ro⟩]⟩,
   ⟨0x54, [], .hi, [⟨0, 16, .ro⟩]⟩,
   ⟨0x48, [], .whole, [⟨0, 11, .ro⟩, ⟨15, 1, .ro⟩, ⟨16, 2, .ro⟩]⟩,
   ⟨0x60, [], .whole, [⟨0, 1, .w1s⟩, ⟨1, 1, .rw⟩, ⟨2, 1, .rw⟩, ⟨3, 1, .rw⟩, ⟨4, 1, .w1s⟩]⟩,
   ⟨0x64, [], .whole, [⟨0, 3, .ro⟩, ⟨8, 8, .ro⟩, ⟨16, 1, .rw1c⟩, ⟨24, 2, .ro⟩]⟩,
   ⟨0x68, [], .whole, [⟨0, 24, .ro⟩, ⟨24, 7, .ro⟩, ⟨31, 1, .ro⟩]⟩,
   ⟨0x6C, [], .whole, [⟨0, 1, .rw⟩]⟩,
   ⟨0x80, [], .whole, [⟨0, 1, .w1s⟩, ⟨8, 3, .ro⟩]⟩,
   ⟨0x0, [], .whole, [⟨0, 16, .ro⟩, ⟨16, 16, .ro⟩]⟩,
   ⟨0x4, [], .whole, [⟨0, 3, .ro⟩, ⟨4, 3, .ro⟩, ⟨8, 1, .ro⟩, ⟨16, 8, .ro⟩]⟩,
   ⟨0x44, [], .whole, [⟨0, 4, .ro⟩, ⟨4, 4, .ro⟩, ⟨8, 4, .ro⟩, ⟨12, 4, .ro⟩, ⟨16, 4, .ro⟩]⟩]
def regsGLB1 : List RegDef :=
  [⟨0x70, [], .lo, [⟨0, 32, .rw⟩]⟩,
   ⟨0x74, [], .hi, [⟨0, 32, .rw⟩]⟩]
/-- The register definitions of block GLB. -/
def regsGLB : List RegDef := regsGLB0 ++ regsGLB1

/-- The register definitions of block TIME. -/
def regsTIME0 : List RegDef :=
  [⟨0x10008, [], .whole, [⟨0, 2, .ro⟩, ⟨2, 2, .ro⟩, ⟨4, 1, .ro⟩, ⟨5, 1, .ro⟩, ⟨6, 1, .rw1c⟩, ⟨7, 1, .rw1c⟩, ⟨8, 1, .rw1c⟩, ⟨9, 1, .rw1c⟩, ⟨10, 1, .rw1c⟩, ⟨11, 2, .ro⟩, ⟨13, 4, .ro⟩, ⟨17, 1, .ro⟩, ⟨18, 1, .ro⟩, ⟨19, 4, .ro⟩]⟩,
   ⟨0x1001C, [], .whole, [⟨0, 3, .rw⟩, ⟨3, 1, .rw⟩, ⟨4, 1, .w1s⟩, ⟨5, 1, .w1s⟩]⟩,
   ⟨0x10100, [(0x20, 16)], .whole, [⟨0, 1, .rw⟩, ⟨1, 1, .rw⟩, ⟨8, 6, .rw⟩]⟩,
   ⟨0x10104, [(0x20, 16)], .whole, [⟨0, 1, .rw1c⟩, ⟨1, 1, .rw1c⟩, ⟨8, 8, .ro⟩, ⟨16, 8, .ro⟩]⟩,
   ⟨0x10400, [], .whole, [⟨0, 1, .rws⟩, ⟨1, 1, .rws⟩]⟩,
   ⟨0x10000, [], .lo, [⟨0, 32, .ro⟩]⟩,
   ⟨0x10004, [], .hi, [⟨0, 32, .ro⟩]⟩,
   ⟨0x1000C, [], .whole, [⟨0, 32, .ro⟩]⟩,
   ⟨0x10010, [], .whole, [⟨0, 32, .ro⟩]⟩,
   ⟨0x10014, [], .whole, [⟨0, 32, .ro⟩]⟩,
   ⟨0x10018, [], .whole, [⟨0, 32, .ro⟩]⟩,
   ⟨0x10020, [], .lo, [⟨0, 32, .ro⟩]⟩]
def regsTIME1 : List RegDef :=
  [⟨0x10024, [], .hi, [⟨0, 32, .ro⟩]⟩,
   ⟨0x10028, [], .lo, [⟨0, 32, .rw⟩]⟩,
   ⟨0x1002C, [], .hi, [⟨0, 32, .rw⟩]⟩,
   ⟨0x10030, [], .whole, [⟨0, 32, .ro⟩]⟩,
   ⟨0x10034, [], .whole, [⟨0, 16, .rc⟩, ⟨16, 16, .rc⟩]⟩,
   ⟨0x10040, [(0x4, 4)], .whole, [⟨0, 32, .rw⟩]⟩,
   ⟨0x10108, [(0x20, 16)], .lo, [⟨0, 32, .rw⟩]⟩,
   ⟨0x1010C, [(0x20, 16)], .hi, [⟨0, 32, .rw⟩]⟩,
   ⟨0x10110, [(0x20, 16)], .lo, [⟨0, 32, .rw⟩]⟩,
   ⟨0x10114, [(0x20, 16)], .hi, [⟨0, 32, .rw⟩]⟩,
   ⟨0x10404, [], .lo, [⟨0, 32, .rws⟩]⟩,
   ⟨0x10408, [], .hi, [⟨0, 32, .rws⟩]⟩]
/-- The register definitions of block TIME. -/
def regsTIME : List RegDef := regsTIME0 ++ regsTIME1

/-- The register definitions of block PWR. -/
def regsPWR0 : List RegDef :=
  [⟨0x20000, [], .whole, [⟨0, 1, .w1s⟩, ⟨1, 1, .w1s⟩, ⟨2, 1, .rw⟩, ⟨3, 1, .rw⟩, ⟨4, 1, .rw⟩]⟩,
   ⟨0x20004, [], .whole, [⟨0, 8, .ro⟩, ⟨8, 3, .ro⟩, ⟨11, 1, .ro⟩, ⟨12, 2, .ro⟩]⟩,
   ⟨0x20010, [], .whole, [⟨0, 4, .rws⟩, ⟨4, 4, .rws⟩, ⟨8, 10, .rws⟩]⟩,
   ⟨0x20014, [], .whole, [⟨0, 4, .rw1c⟩, ⟨4, 1, .rw1c⟩, ⟨5, 1, .rw1c⟩, ⟨6, 1, .rw1c⟩, ⟨7, 3, .ro⟩, ⟨10, 1, .rw1c⟩, ⟨11, 2, .ro⟩]⟩,
   ⟨0x20040, [(0x10, 4)], .whole, [⟨0, 7, .rws⟩, ⟨8, 8, .rws⟩, ⟨16, 1, .rws⟩, ⟨17, 1, .rws⟩]⟩,
   ⟨0x20044, [(0x10, 4)], .whole, [⟨0, 2, .ro⟩, ⟨2, 1, .w1s⟩, ⟨16, 16, .ro⟩]⟩,
   ⟨0x20080, [], .whole, [⟨0, 2, .rw⟩, ⟨2, 1, .rw⟩, ⟨3, 1, .w1s⟩]⟩,
   ⟨0x20084, [], .whole, [⟨0, 2, .ro⟩, ⟨2, 2, .ro⟩, ⟨4, 2, .ro⟩, ⟨6, 1, .ro⟩, ⟨16, 8, .ro⟩]⟩,
   ⟨0x20008, [], .whole, [⟨0, 32, .ro⟩]⟩,
   ⟨0x2000C, [], .whole, [⟨0, 4, .ro⟩, ⟨4, 1, .ro⟩, ⟨5, 1, .ro⟩]⟩,
   ⟨0x20020, [], .whole, [⟨0, 10, .rw⟩, ⟨16, 10, .rw⟩]⟩,
   ⟨0x20024, [], .whole, [⟨0, 10, .ro⟩]⟩]
def regsPWR1 : List RegDef :=
  [⟨0x200A0, [(0x4, 12)], .whole, [⟨0, 32, .rw⟩]⟩]
/-- The register definitions of block PWR. -/
def regsPWR : List RegDef := regsPWR0 ++ regsPWR1

/-- The register definitions of block FLT. -/
def regsFLT0 : List RegDef :=
  [⟨0x30008, [], .whole, [⟨0, 1, .rw1c⟩, ⟨1, 2, .ro⟩, ⟨4, 6, .ro⟩, ⟨16, 16, .ro⟩]⟩,
   ⟨0x3000C, [], .whole, [⟨0, 1, .rw1c⟩]⟩,
   ⟨0x30020, [], .whole, [⟨0, 2, .rw⟩, ⟨2, 5, .rw⟩, ⟨7, 1, .rw⟩, ⟨8, 16, .rw⟩, ⟨31, 1, .w1s⟩]⟩,
   ⟨0x30024, [], .whole, [⟨0, 8, .ro⟩, ⟨8, 1, .ro⟩, ⟨9, 1, .ro⟩]⟩,
   ⟨0x30030, [], .whole, [⟨0, 5, .rw⟩, ⟨5, 1, .rw⟩, ⟨6, 1, .w1s⟩, ⟨7, 1, .w1s⟩, ⟨8, 8, .ro⟩]⟩,
   ⟨0x30400, [(0x10, 64)], .whole, [⟨0, 2, .rwk⟩, ⟨2, 1, .rwk⟩, ⟨3, 3, .rwk⟩]⟩,
   ⟨0x3040C, [(0x10, 64)], .whole, [⟨0, 2, .ro⟩, ⟨16, 16, .rc⟩]⟩,
   ⟨0x30000, [], .whole, [⟨0, 32, .rw1c⟩]⟩,
   ⟨0x30004, [], .whole, [⟨0, 32, .rw1c⟩]⟩,
   ⟨0x30010, [], .lo, [⟨0, 32, .ro⟩]⟩,
   ⟨0x30014, [], .hi, [⟨0, 32, .ro⟩]⟩,
   ⟨0x30018, [], .lo, [⟨0, 32, .ro⟩]⟩]
def regsFLT1 : List RegDef :=
  [⟨0x3001C, [], .hi, [⟨0, 32, .ro⟩]⟩,
   ⟨0x30028, [], .whole, [⟨0, 1, .rw⟩]⟩,
   ⟨0x30080, [(0x4, 32)], .whole, [⟨0, 6, .rw⟩, ⟨6, 1, .rw⟩]⟩,
   ⟨0x30034, [], .whole, [⟨0, 32, .ro⟩]⟩,
   ⟨0x30038, [], .whole, [⟨0, 4, .ro⟩]⟩,
   ⟨0x30404, [(0x10, 64)], .whole, [⟨0, 16, .rwk⟩, ⟨16, 16, .rwk⟩]⟩,
   ⟨0x30408, [(0x10, 64)], .whole, [⟨0, 16, .rwk⟩]⟩]
/-- The register definitions of block FLT. -/
def regsFLT : List RegDef := regsFLT0 ++ regsFLT1

/-- The register definitions of block IMG. -/
def regsIMG : List RegDef :=
  [⟨0x40000, [], .whole, [⟨0, 1, .w1s⟩, ⟨1, 1, .w1s⟩, ⟨2, 1, .w1s⟩, ⟨3, 1, .w1s⟩, ⟨4, 1, .w1s⟩, ⟨5, 1, .w1s⟩, ⟨6, 1, .rw⟩]⟩,
   ⟨0x40004, [], .whole, [⟨0, 2, .ro⟩, ⟨2, 3, .ro⟩, ⟨5, 2, .ro⟩, ⟨7, 1, .rw1c⟩, ⟨8, 8, .ro⟩, ⟨16, 7, .ro⟩, ⟨24, 7, .ro⟩]⟩,
   ⟨0x40008, [], .whole, [⟨16, 1, .rw⟩, ⟨17, 9, .rw⟩, ⟨28, 1, .w1s⟩, ⟨29, 1, .ro⟩]⟩,
   ⟨0x40010, [], .lo, [⟨0, 32, .rw⟩]⟩,
   ⟨0x40014, [], .hi, [⟨0, 32, .rw⟩]⟩,
   ⟨0x40018, [], .whole, [⟨0, 32, .ro⟩]⟩,
   ⟨0x4001C, [], .whole, [⟨0, 32, .ro⟩]⟩,
   ⟨0x40040, [(0x4, 12)], .whole, [⟨0, 32, .ro⟩]⟩]

/-- The register definitions of block PORT. -/
def regsPORT : List RegDef :=
  [⟨0x80000, [(0x1000, 96)], .whole, [⟨0, 5, .ro⟩, ⟨5, 3, .ro⟩, ⟨8, 3, .ro⟩, ⟨11, 2, .ro⟩, ⟨13, 3, .ro⟩, ⟨16, 1, .ro⟩, ⟨17, 1, .ro⟩, ⟨18, 5, .ro⟩, ⟨23, 1, .ro⟩, ⟨24, 8, .ro⟩]⟩,
   ⟨0x80004, [(0x1000, 96)], .whole, [⟨0, 8, .ro⟩, ⟨8, 6, .ro⟩]⟩,
   ⟨0x80008, [(0x1000, 96)], .whole, [⟨0, 1, .rw⟩, ⟨1, 3, .rw⟩, ⟨4, 1, .w1s⟩, ⟨5, 1, .w1s⟩, ⟨6, 1, .w1s⟩, ⟨7, 1, .w1s⟩, ⟨8, 1, .w1s⟩, ⟨9, 1, .w1s⟩, ⟨10, 1, .rw⟩, ⟨11, 1, .rw⟩]⟩,
   ⟨0x8000C, [(0x1000, 96)], .whole, [⟨0, 2, .ro⟩, ⟨2, 1, .ro⟩, ⟨3, 1, .ro⟩, ⟨4, 1, .ro⟩, ⟨5, 3, .ro⟩, ⟨8, 3, .ro⟩, ⟨11, 1, .ro⟩, ⟨12, 1, .ro⟩, ⟨13, 1, .rw1c⟩, ⟨14, 1, .rw1c⟩, ⟨16, 5, .ro⟩, ⟨24, 8, .ro⟩]⟩,
   ⟨0x80010, [(0x1000, 96)], .whole, [⟨0, 20, .rw⟩]⟩,
   ⟨0x80014, [(0x1000, 96)], .whole, [⟨0, 16, .rc⟩, ⟨16, 16, .rc⟩]⟩,
   ⟨0x80018, [(0x1000, 96)], .whole, [⟨0, 16, .ro⟩, ⟨16, 1, .ro⟩]⟩]

/-- The register definitions of block LANE. -/
def regsLANE : List RegDef :=
  [⟨0xE0000, [(0x800, 32)], .whole, [⟨0, 8, .ro⟩, ⟨8, 4, .ro⟩, ⟨12, 1, .ro⟩]⟩,
   ⟨0xE0004, [(0x800, 32)], .whole, [⟨0, 8, .ro⟩, ⟨8, 8, .ro⟩, ⟨16, 1, .ro⟩, ⟨17, 1, .ro⟩, ⟨18, 1, .ro⟩, ⟨24, 8, .rw1c⟩]⟩]

/-- The register definitions of block FBL. -/
def regsFBL0 : List RegDef :=
  [⟨0x100000, [(0x4000, 4)], .whole, [⟨0, 1, .rw⟩, ⟨1, 1, .w1s⟩, ⟨2, 2, .rw⟩, ⟨4, 1, .rw⟩, ⟨8, 8, .rw⟩]⟩,
   ⟨0x100004, [(0x4000, 4)], .whole, [⟨0, 4, .ro⟩, ⟨4, 2, .ro⟩, ⟨6, 1, .ro⟩, ⟨7, 1, .ro⟩, ⟨8, 2, .ro⟩, ⟨10, 1, .rw1c⟩, ⟨11, 3, .ro⟩, ⟨24, 8, .ro⟩]⟩,
   ⟨0x100008, [(0x4000, 4)], .whole, [⟨0, 16, .ro⟩, ⟨16, 16, .ro⟩]⟩,
   ⟨0x10000C, [(0x4000, 4)], .whole, [⟨0, 16, .rc⟩, ⟨16, 8, .rc⟩, ⟨24, 8, .rc⟩]⟩,
   ⟨0x100040, [(0x4000, 4), (0x4, 16)], .whole, [⟨0, 4, .rw⟩, ⟨4, 5, .rw⟩, ⟨9, 6, .ro⟩]⟩,
   ⟨0x100080, [(0x4000, 4), (0x4, 16)], .whole, [⟨0, 6, .ro⟩, ⟨8, 6, .ro⟩, ⟨16, 8, .rc⟩]⟩,
   ⟨0x100100, [(0x4000, 4)], .whole, [⟨0, 1, .w1s⟩, ⟨1, 1, .rw⟩, ⟨2, 8, .rw⟩]⟩,
   ⟨0x100104, [(0x4000, 4)], .whole, [⟨0, 4, .rw⟩, ⟨4, 4, .rw⟩, ⟨8, 6, .rw⟩]⟩,
   ⟨0x100108, [(0x4000, 4)], .whole, [⟨0, 3, .ro⟩, ⟨3, 1, .ro⟩, ⟨4, 1, .ro⟩, ⟨5, 4, .ro⟩, ⟨9, 4, .ro⟩, ⟨13, 3, .ro⟩, ⟨24, 8, .ro⟩]⟩,
   ⟨0x100110, [(0x4000, 4), (0x4, 4)], .whole, [⟨0, 16, .rw⟩, ⟨16, 16, .rw⟩]⟩,
   ⟨0x100120, [(0x4000, 4)], .whole, [⟨0, 16, .ro⟩, ⟨16, 16, .ro⟩]⟩,
   ⟨0x100124, [(0x4000, 4)], .whole, [⟨0, 16, .ro⟩]⟩]
def regsFBL1 : List RegDef :=
  [⟨0x100128, [(0x4000, 4)], .whole, [⟨0, 16, .ro⟩, ⟨16, 6, .ro⟩, ⟨22, 1, .ro⟩]⟩,
   ⟨0x10012C, [(0x4000, 4)], .whole, [⟨0, 11, .ro⟩, ⟨11, 1, .ro⟩, ⟨12, 3, .ro⟩, ⟨15, 1, .ro⟩, ⟨16, 1, .ro⟩]⟩,
   ⟨0x100130, [(0x4000, 4)], .whole, [⟨0, 16, .rc⟩, ⟨16, 16, .rc⟩]⟩,
   ⟨0x100134, [(0x4000, 4)], .whole, [⟨0, 16, .rc⟩, ⟨16, 8, .rc⟩, ⟨24, 8, .rc⟩]⟩,
   ⟨0x100138, [(0x4000, 4)], .whole, [⟨0, 16, .ro⟩, ⟨16, 16, .ro⟩]⟩,
   ⟨0x10013C, [(0x4000, 4)], .whole, [⟨0, 16, .rc⟩]⟩,
   ⟨0x100010, [(0x4000, 4)], .whole, [⟨0, 16, .ro⟩]⟩]
/-- The register definitions of block FBL. -/
def regsFBL : List RegDef := regsFBL0 ++ regsFBL1

/-- The register definitions of block CORE. -/
def regsCORE0 : List RegDef :=
  [⟨0x110000, [], .whole, [⟨0, 1, .rw⟩, ⟨1, 1, .rw⟩]⟩,
   ⟨0x110004, [], .whole, [⟨0, 8, .ro⟩, ⟨8, 1, .ro⟩]⟩,
   ⟨0x110008, [], .whole, [⟨0, 1, .rw1c⟩, ⟨1, 1, .rw1c⟩, ⟨8, 8, .ro⟩]⟩,
   ⟨0x110100, [(0x10, 36)], .whole, [⟨0, 16, .ro⟩, ⟨16, 16, .ro⟩]⟩,
   ⟨0x110104, [(0x10, 36)], .whole, [⟨0, 16, .rc⟩]⟩,
   ⟨0x110400, [(0x4, 96)], .whole, [⟨0, 15, .rw⟩, ⟨16, 15, .ro⟩]⟩,
   ⟨0x110800, [(0x40, 8)], .whole, [⟨0, 1, .rw⟩, ⟨1, 2, .rw⟩, ⟨3, 1, .rw⟩, ⟨4, 7, .rw⟩, ⟨11, 7, .rw⟩, ⟨18, 12, .rw⟩]⟩,
   ⟨0x110820, [(0x40, 8)], .whole, [⟨0, 5, .rw⟩, ⟨8, 4, .rw⟩, ⟨16, 13, .rw⟩]⟩,
   ⟨0x110824, [(0x40, 8)], .whole, [⟨0, 1, .ro⟩, ⟨8, 8, .ro⟩]⟩,
   ⟨0x111000, [(0x20, 256)], .whole, [⟨0, 1, .sh⟩, ⟨2, 5, .sh⟩]⟩,
   ⟨0x113000, [(0x4, 32)], .whole, [⟨0, 8, .sh⟩, ⟨8, 7, .sh⟩]⟩,
   ⟨0x113100, [(0x4, 32)], .whole, [⟨0, 8, .ro⟩, ⟨8, 8, .ro⟩, ⟨16, 1, .ro⟩]⟩]
def regsCORE1 : List RegDef :=
  [⟨0x110808, [(0x40, 8)], .lo, [⟨8, 24, .rw⟩]⟩,
   ⟨0x11080C, [(0x40, 8)], .hi, [⟨0, 32, .rw⟩]⟩,
   ⟨0x110810, [(0x40, 8)], .lo, [⟨8, 24, .rw⟩]⟩,
   ⟨0x110814, [(0x40, 8)], .hi, [⟨0, 32, .rw⟩]⟩,
   ⟨0x110818, [(0x40, 8)], .lo, [⟨8, 24, .rw⟩]⟩,
   ⟨0x11081C, [(0x40, 8)], .hi, [⟨0, 32, .rw⟩]⟩,
   ⟨0x110828, [(0x40, 8)], .whole, [⟨0, 32, .rc⟩]⟩,
   ⟨0x11082C, [(0x40, 8)], .whole, [⟨0, 32, .ro⟩]⟩,
   ⟨0x111004, [(0x20, 256), (0x4, 3)], .whole, [⟨0, 32, .sh⟩]⟩,
   ⟨0x111010, [(0x20, 256)], .lo, [⟨12, 20, .sh⟩]⟩,
   ⟨0x111014, [(0x20, 256)], .hi, [⟨0, 32, .sh⟩]⟩,
   ⟨0x111018, [(0x20, 256)], .lo, [⟨12, 20, .sh⟩]⟩]
def regsCORE2 : List RegDef :=
  [⟨0x11101C, [(0x20, 256)], .hi, [⟨0, 32, .sh⟩]⟩]
/-- The register definitions of block CORE. -/
def regsCORE : List RegDef := regsCORE0 ++ regsCORE1 ++ regsCORE2

/-- The register definitions of block SCHED. -/
def regsSCHED0 : List RegDef :=
  [⟨0x120000, [], .whole, [⟨0, 1, .rw⟩, ⟨1, 1, .w1s⟩]⟩,
   ⟨0x120004, [], .whole, [⟨0, 8, .ro⟩, ⟨8, 1, .rw1c⟩, ⟨9, 1, .rw1c⟩, ⟨10, 1, .rw1c⟩]⟩,
   ⟨0x120008, [], .whole, [⟨0, 5, .ro⟩, ⟨8, 9, .ro⟩]⟩,
   ⟨0x12000C, [], .whole, [⟨0, 20, .rw⟩, ⟨20, 6, .rw⟩]⟩,
   ⟨0x120010, [], .whole, [⟨0, 12, .rw⟩]⟩,
   ⟨0x120040, [], .whole, [⟨0, 7, .rw⟩, ⟨8, 8, .rw⟩]⟩,
   ⟨0x120050, [], .whole, [⟨0, 15, .rw⟩, ⟨15, 1, .rw⟩]⟩,
   ⟨0x121000, [(0x40, 100)], .whole, [⟨0, 8, .sh⟩]⟩,
   ⟨0x121014, [(0x40, 100)], .whole, [⟨0, 1, .sh⟩, ⟨8, 9, .sh⟩]⟩,
   ⟨0x121030, [(0x40, 100)], .whole, [⟨0, 8, .ro⟩, ⟨8, 8, .ro⟩, ⟨16, 1, .ro⟩, ⟨17, 1, .ro⟩, ⟨18, 1, .ro⟩]⟩,
   ⟨0x120020, [], .whole, [⟨0, 1, .sh⟩, ⟨1, 1, .sh⟩, ⟨2, 3, .sh⟩, ⟨5, 7, .sh⟩, ⟨12, 12, .sh⟩]⟩,
   ⟨0x120024, [], .whole, [⟨0, 32, .sh⟩]⟩]
def regsSCHED1 : List RegDef :=
  [⟨0x120028, [], .whole, [⟨0, 32, .sh⟩]⟩,
   ⟨0x12002C, [], .whole, [⟨0, 1, .ro⟩, ⟨1, 1, .ro⟩, ⟨8, 24, .ro⟩]⟩,
   ⟨0x120030, [], .lo, [⟨8, 24, .sh⟩]⟩,
   ⟨0x120034, [], .hi, [⟨0, 32, .sh⟩]⟩,
   ⟨0x120038, [], .lo, [⟨8, 24, .sh⟩]⟩,
   ⟨0x12003C, [], .hi, [⟨0, 32, .sh⟩]⟩,
   ⟨0x120048, [], .lo, [⟨0, 32, .sh⟩]⟩,
   ⟨0x12004C, [], .hi, [⟨0, 32, .sh⟩]⟩,
   ⟨0x120060, [(0x4, 40)], .whole, [⟨0, 32, .ro⟩]⟩,
   ⟨0x121004, [(0x40, 100)], .whole, [⟨0, 32, .sh⟩]⟩,
   ⟨0x121008, [(0x40, 100)], .whole, [⟨0, 32, .sh⟩]⟩,
   ⟨0x12100C, [(0x40, 100)], .whole, [⟨0, 32, .sh⟩]⟩]
def regsSCHED2 : List RegDef :=
  [⟨0x121010, [(0x40, 100)], .whole, [⟨0, 32, .sh⟩]⟩,
   ⟨0x121018, [(0x40, 100)], .whole, [⟨0, 32, .sh⟩]⟩,
   ⟨0x121020, [(0x40, 100)], .lo, [⟨0, 32, .sh⟩]⟩,
   ⟨0x121024, [(0x40, 100)], .hi, [⟨0, 32, .sh⟩]⟩,
   ⟨0x121028, [(0x40, 100)], .lo, [⟨0, 32, .sh⟩]⟩,
   ⟨0x12102C, [(0x40, 100)], .hi, [⟨0, 32, .sh⟩]⟩,
   ⟨0x121034, [(0x40, 100)], .whole, [⟨0, 32, .ro⟩]⟩,
   ⟨0x121038, [(0x40, 100)], .whole, [⟨0, 32, .ro⟩]⟩,
   ⟨0x12103C, [(0x40, 100)], .whole, [⟨0, 32, .rc⟩]⟩]
/-- The register definitions of block SCHED. -/
def regsSCHED : List RegDef := regsSCHED0 ++ regsSCHED1 ++ regsSCHED2

/-- The register definitions of block GUARD. -/
def regsGUARD0 : List RegDef :=
  [⟨0x140000, [], .whole, [⟨0, 8, .ro⟩, ⟨8, 1, .ro⟩, ⟨9, 1, .rw1c⟩, ⟨10, 1, .rw1c⟩, ⟨16, 13, .ro⟩]⟩,
   ⟨0x140004, [], .whole, [⟨0, 14, .ro⟩, ⟨16, 14, .ro⟩]⟩,
   ⟨0x140008, [], .whole, [⟨0, 16, .rc⟩, ⟨16, 16, .rc⟩]⟩,
   ⟨0x14000C, [], .whole, [⟨0, 2, .ro⟩, ⟨2, 1, .ro⟩, ⟨16, 16, .rc⟩]⟩,
   ⟨0x140010, [], .whole, [⟨0, 13, .rw⟩]⟩,
   ⟨0x141000, [(0x40, 103)], .whole, [⟨0, 1, .sh⟩, ⟨1, 1, .sh⟩]⟩,
   ⟨0x141004, [(0x40, 103)], .whole, [⟨0, 1, .rw1c⟩, ⟨1, 1, .ro⟩, ⟨2, 3, .ro⟩, ⟨5, 3, .ro⟩, ⟨8, 12, .ro⟩, ⟨20, 4, .ro⟩]⟩,
   ⟨0x140020, [], .lo, [⟨8, 24, .sh⟩]⟩,
   ⟨0x140024, [], .hi, [⟨0, 32, .sh⟩]⟩,
   ⟨0x140028, [], .lo, [⟨8, 24, .sh⟩]⟩,
   ⟨0x14002C, [], .hi, [⟨0, 32, .sh⟩]⟩,
   ⟨0x140030, [], .whole, [⟨0, 1, .sh⟩, ⟨1, 2, .sh⟩, ⟨3, 1, .sh⟩, ⟨4, 1, .sh⟩, ⟨5, 1, .sh⟩, ⟨6, 1, .sh⟩, ⟨8, 12, .sh⟩]⟩]
def regsGUARD1 : List RegDef :=
  [⟨0x141008, [(0x40, 103)], .lo, [⟨0, 32, .ro⟩]⟩,
   ⟨0x14100C, [(0x40, 103)], .hi, [⟨0, 32, .ro⟩]⟩,
   ⟨0x141010, [(0x40, 103)], .whole, [⟨0, 16, .ro⟩, ⟨16, 13, .ro⟩]⟩,
   ⟨0x141014, [(0x40, 103)], .lo, [⟨0, 32, .ro⟩]⟩,
   ⟨0x141018, [(0x40, 103)], .hi, [⟨0, 32, .ro⟩]⟩,
   ⟨0x14101C, [(0x40, 103)], .whole, [⟨0, 32, .rc⟩]⟩]
/-- The register definitions of block GUARD. -/
def regsGUARD : List RegDef := regsGUARD0 ++ regsGUARD1

/-- The register definitions of block BRG. -/
def regsBRG0 : List RegDef :=
  [⟨0x180000, [], .whole, [⟨0, 2, .rw⟩]⟩,
   ⟨0x180004, [], .whole, [⟨0, 8, .ro⟩, ⟨8, 1, .ro⟩, ⟨9, 1, .rw1c⟩, ⟨10, 1, .rw1c⟩]⟩,
   ⟨0x180008, [], .whole, [⟨0, 14, .rw⟩, ⟨14, 1, .w1s⟩, ⟨16, 11, .rw⟩]⟩,
   ⟨0x18000C, [], .whole, [⟨0, 15, .ro⟩, ⟨16, 15, .ro⟩]⟩,
   ⟨0x180010, [], .whole, [⟨0, 14, .rw⟩, ⟨16, 14, .ro⟩]⟩,
   ⟨0x18001C, [], .whole, [⟨0, 1, .rw1c⟩, ⟨1, 3, .ro⟩, ⟨4, 4, .ro⟩, ⟨8, 11, .ro⟩]⟩,
   ⟨0x180020, [], .whole, [⟨0, 1, .sh⟩, ⟨1, 20, .sh⟩, ⟨21, 4, .sh⟩]⟩,
   ⟨0x180400, [(0x20, 32)], .whole, [⟨0, 1, .rw1c⟩, ⟨1, 11, .ro⟩, ⟨12, 4, .ro⟩, ⟨16, 11, .ro⟩]⟩,
   ⟨0x181000, [(0x4, 2047)], .whole, [⟨0, 3, .sh⟩, ⟨3, 3, .sh⟩, ⟨6, 3, .sh⟩, ⟨10, 2, .ro⟩]⟩,
   ⟨0x183000, [(0x4, 96)], .whole, [⟨0, 1, .sh⟩, ⟨1, 11, .sh⟩, ⟨12, 7, .sh⟩]⟩,
   ⟨0x183200, [(0x8, 64)], .whole, [⟨0, 1, .sh⟩, ⟨1, 11, .sh⟩, ⟨12, 7, .sh⟩, ⟨19, 5, .sh⟩, ⟨24, 6, .sh⟩, ⟨30, 1, .ro⟩]⟩,
   ⟨0x184000, [(0x10, 2048)], .whole, [⟨0, 1, .rc⟩, ⟨1, 1, .rc⟩, ⟨2, 4, .rc⟩, ⟨16, 16, .rc⟩]⟩]
def regsBRG1 : List RegDef :=
  [⟨0x180800, [(0x20, 32)], .whole, [⟨0, 11, .ro⟩, ⟨11, 4, .ro⟩, ⟨15, 1, .ro⟩, ⟨16, 1, .ro⟩]⟩,
   ⟨0x18C000, [(0x10, 4)], .whole, [⟨0, 1, .w1s⟩, ⟨1, 1, .w1s⟩]⟩,
   ⟨0x18C004, [(0x10, 4)], .whole, [⟨0, 2, .ro⟩, ⟨2, 1, .ro⟩, ⟨3, 1, .ro⟩, ⟨8, 8, .ro⟩]⟩,
   ⟨0x18C008, [(0x10, 4)], .whole, [⟨0, 20, .rw⟩]⟩,
   ⟨0x18C00C, [(0x10, 4)], .whole, [⟨0, 16, .rc⟩, ⟨16, 16, .rc⟩]⟩,
   ⟨0x180014, [], .whole, [⟨0, 16, .rc⟩, ⟨16, 16, .rc⟩]⟩,
   ⟨0x180018, [], .whole, [⟨0, 16, .rc⟩, ⟨16, 16, .rc⟩]⟩,
   ⟨0x180404, [(0x20, 32)], .whole, [⟨0, 32, .rc⟩]⟩,
   ⟨0x180408, [(0x20, 32)], .lo, [⟨0, 32, .ro⟩]⟩,
   ⟨0x18040C, [(0x20, 32)], .hi, [⟨0, 32, .ro⟩]⟩,
   ⟨0x180410, [(0x20, 32)], .lo, [⟨0, 32, .ro⟩]⟩,
   ⟨0x180414, [(0x20, 32)], .hi, [⟨0, 32, .ro⟩]⟩]
def regsBRG2 : List RegDef :=
  [⟨0x180418, [(0x20, 32)], .whole, [⟨0, 6, .rw⟩, ⟨6, 1, .rw⟩]⟩,
   ⟨0x183204, [(0x8, 64)], .whole, [⟨0, 29, .ro⟩]⟩,
   ⟨0x183400, [], .whole, [⟨0, 11, .rw⟩]⟩,
   ⟨0x183420, [], .whole, [⟨0, 1, .sh⟩, ⟨1, 1, .sh⟩, ⟨2, 3, .sh⟩, ⟨5, 5, .sh⟩, ⟨10, 7, .sh⟩, ⟨17, 11, .sh⟩]⟩,
   ⟨0x183424, [], .lo, [⟨12, 20, .sh⟩]⟩,
   ⟨0x183428, [], .hi, [⟨0, 32, .sh⟩]⟩,
   ⟨0x18342C, [], .lo, [⟨12, 20, .sh⟩]⟩,
   ⟨0x183430, [], .hi, [⟨0, 32, .sh⟩]⟩,
   ⟨0x183434, [], .lo, [⟨12, 20, .sh⟩]⟩,
   ⟨0x183438, [], .hi, [⟨0, 32, .sh⟩]⟩,
   ⟨0x18343C, [], .whole, [⟨0, 16, .ro⟩]⟩,
   ⟨0x184004, [(0x10, 2048)], .whole, [⟨0, 32, .rc⟩]⟩]
def regsBRG3 : List RegDef :=
  [⟨0x180804, [(0x20, 32), (0x4, 4)], .whole, [⟨0, 32, .ro⟩]⟩]
/-- The register definitions of block BRG. -/
def regsBRG : List RegDef := regsBRG0 ++ regsBRG1 ++ regsBRG2 ++ regsBRG3

/-- The register definitions of block RMA. -/
def regsRMA0 : List RegDef :=
  [⟨0x1C0004, [], .whole, [⟨0, 8, .ro⟩, ⟨8, 10, .ro⟩, ⟨18, 1, .rw1c⟩, ⟨19, 1, .rw1c⟩]⟩,
   ⟨0x1C1004, [(0x40, 64)], .whole, [⟨0, 1, .rw⟩, ⟨1, 5, .rw⟩, ⟨6, 6, .rw⟩, ⟨12, 1, .rw⟩]⟩,
   ⟨0x1C1030, [(0x40, 64)], .whole, [⟨0, 1, .ro⟩, ⟨1, 1, .rw1c⟩, ⟨8, 8, .ro⟩]⟩,
   ⟨0x1C3100, [], .whole, [⟨0, 10, .rw⟩, ⟨10, 1, .rw⟩, ⟨11, 1, .rw⟩, ⟨12, 1, .w1s⟩, ⟨13, 1, .w1s⟩, ⟨14, 1, .ro⟩]⟩,
   ⟨0x1C0000, [], .whole, [⟨0, 1, .rw⟩]⟩,
   ⟨0x1C0008, [], .whole, [⟨0, 14, .ro⟩, ⟨16, 14, .ro⟩]⟩,
   ⟨0x1C000C, [], .whole, [⟨0, 1, .rw1c⟩, ⟨1, 1, .ro⟩, ⟨2, 10, .ro⟩, ⟨12, 11, .ro⟩]⟩,
   ⟨0x1C0010, [], .whole, [⟨0, 32, .rc⟩]⟩,
   ⟨0x1C0014, [], .whole, [⟨0, 32, .rc⟩]⟩,
   ⟨0x1C0018, [], .whole, [⟨0, 32, .rc⟩]⟩,
   ⟨0x1C1000, [(0x40, 64)], .whole, [⟨0, 1, .rw⟩, ⟨1, 5, .rw⟩]⟩,
   ⟨0x1C1008, [(0x40, 64)], .whole, [⟨0, 20, .rw⟩, ⟨20, 1, .rw⟩]⟩]
def regsRMA1 : List RegDef :=
  [⟨0x1C1010, [(0x40, 64)], .lo, [⟨12, 20, .rw⟩]⟩,
   ⟨0x1C1014, [(0x40, 64)], .hi, [⟨0, 32, .rw⟩]⟩,
   ⟨0x1C1018, [(0x40, 64)], .lo, [⟨12, 20, .rw⟩]⟩,
   ⟨0x1C101C, [(0x40, 64)], .hi, [⟨0, 32, .rw⟩]⟩,
   ⟨0x1C1020, [(0x40, 64)], .whole, [⟨0, 16, .rw⟩]⟩,
   ⟨0x1C1024, [(0x40, 64)], .whole, [⟨0, 16, .ro⟩]⟩,
   ⟨0x1C1028, [(0x40, 64)], .whole, [⟨0, 16, .rw⟩]⟩,
   ⟨0x1C102C, [(0x40, 64)], .whole, [⟨0, 16, .ro⟩]⟩,
   ⟨0x1C2000, [(0x4, 32)], .whole, [⟨0, 12, .rw⟩, ⟨12, 13, .rw⟩]⟩,
   ⟨0x1C2200, [(0x20, 32)], .whole, [⟨0, 12, .rw⟩]⟩,
   ⟨0x1C2204, [(0x20, 32)], .whole, [⟨0, 20, .rw⟩, ⟨20, 1, .rw⟩, ⟨21, 1, .rw⟩, ⟨22, 6, .rw⟩]⟩,
   ⟨0x1C2208, [(0x20, 32)], .whole, [⟨0, 1, .w1s⟩, ⟨1, 1, .w1s⟩, ⟨2, 1, .w1s⟩]⟩]
def regsRMA2 : List RegDef :=
  [⟨0x1C220C, [(0x20, 32)], .whole, [⟨0, 2, .ro⟩, ⟨2, 12, .ro⟩, ⟨14, 16, .ro⟩]⟩,
   ⟨0x1C2210, [(0x20, 32)], .whole, [⟨0, 8, .ro⟩]⟩,
   ⟨0x1C3000, [], .whole, [⟨0, 10, .rw⟩]⟩,
   ⟨0x1C3010, [], .whole, [⟨0, 5, .rw⟩, ⟨5, 3, .rw⟩, ⟨8, 1, .rw⟩, ⟨9, 1, .rw⟩, ⟨10, 4, .rw⟩, ⟨16, 10, .rw⟩, ⟨26, 6, .rw⟩]⟩,
   ⟨0x1C3014, [], .whole, [⟨0, 11, .rw⟩, ⟨16, 16, .rw⟩]⟩,
   ⟨0x1C3018, [], .whole, [⟨0, 14, .rw⟩]⟩,
   ⟨0x1C301C, [], .whole, [⟨0, 3, .ro⟩, ⟨3, 1, .ro⟩, ⟨8, 11, .ro⟩]⟩,
   ⟨0x1C3020, [], .whole, [⟨0, 1, .w1s⟩, ⟨1, 1, .w1s⟩, ⟨2, 1, .w1s⟩]⟩,
   ⟨0x1C3024, [], .whole, [⟨0, 8, .ro⟩]⟩,
   ⟨0x1C3028, [], .lo, [⟨0, 32, .ro⟩]⟩,
   ⟨0x1C302C, [], .hi, [⟨0, 32, .ro⟩]⟩,
   ⟨0x1C3030, [], .whole, [⟨0, 24, .ro⟩]⟩]
def regsRMA3 : List RegDef :=
  [⟨0x1C3120, [(0x4, 8)], .whole, [⟨0, 32, .rw⟩]⟩]
/-- The register definitions of block RMA. -/
def regsRMA : List RegDef := regsRMA0 ++ regsRMA1 ++ regsRMA2 ++ regsRMA3

/-- The register definitions of block SLOT. -/
def regsSLOT : List RegDef :=
  [⟨0x200000, [(0x1000, 16)], .whole, [⟨0, 15, .sh⟩, ⟨16, 7, .sh⟩]⟩,
   ⟨0x200004, [(0x1000, 16)], .whole, [⟨0, 7, .sh⟩, ⟨7, 10, .sh⟩, ⟨17, 9, .sh⟩, ⟨26, 4, .sh⟩, ⟨30, 1, .sh⟩]⟩,
   ⟨0x200008, [(0x1000, 16)], .whole, [⟨0, 14, .sh⟩, ⟨14, 1, .sh⟩, ⟨15, 1, .ro⟩, ⟨16, 7, .ro⟩, ⟨23, 1, .rw⟩]⟩,
   ⟨0x20000C, [(0x1000, 16)], .whole, [⟨0, 1, .w1s⟩, ⟨1, 1, .w1s⟩, ⟨2, 1, .w1s⟩, ⟨3, 1, .w1s⟩]⟩,
   ⟨0x200010, [(0x1000, 16)], .whole, [⟨0, 4, .ro⟩, ⟨4, 1, .ro⟩, ⟨5, 1, .ro⟩, ⟨6, 1, .ro⟩, ⟨7, 1, .ro⟩, ⟨8, 1, .ro⟩, ⟨9, 1, .ro⟩, ⟨12, 4, .ro⟩, ⟨16, 4, .ro⟩, ⟨24, 8, .ro⟩]⟩,
   ⟨0x200014, [(0x1000, 16)], .whole, [⟨0, 14, .ro⟩, ⟨14, 10, .ro⟩]⟩,
   ⟨0x200018, [(0x1000, 16)], .whole, [⟨0, 10, .ro⟩, ⟨10, 10, .ro⟩]⟩,
   ⟨0x20001C, [(0x1000, 16)], .whole, [⟨0, 8, .rc⟩, ⟨8, 8, .rc⟩, ⟨16, 16, .rc⟩]⟩,
   ⟨0x200020, [(0x1000, 16)], .whole, [⟨0, 16, .ro⟩, ⟨16, 16, .ro⟩]⟩]

/-- The register definitions of block TWIN. -/
def regsTWIN0 : List RegDef :=
  [⟨0x210000, [], .whole, [⟨0, 1, .w1s⟩, ⟨1, 1, .w1s⟩, ⟨2, 1, .w1s⟩, ⟨3, 1, .w1s⟩]⟩,
   ⟨0x210004, [], .whole, [⟨0, 3, .ro⟩, ⟨3, 1, .ro⟩, ⟨4, 1, .ro⟩, ⟨5, 1, .ro⟩, ⟨6, 1, .ro⟩, ⟨7, 1, .ro⟩, ⟨8, 4, .ro⟩, ⟨12, 1, .rw1c⟩, ⟨13, 1, .ro⟩, ⟨24, 8, .ro⟩]⟩,
   ⟨0x210010, [], .whole, [⟨0, 1, .w1s⟩, ⟨1, 1, .w1s⟩]⟩,
   ⟨0x210014, [], .whole, [⟨0, 11, .ro⟩, ⟨11, 1, .ro⟩, ⟨12, 3, .ro⟩, ⟨16, 11, .ro⟩, ⟨27, 1, .ro⟩]⟩,
   ⟨0x210018, [], .whole, [⟨0, 2, .ro⟩, ⟨8, 8, .rc⟩, ⟨16, 16, .ro⟩]⟩,
   ⟨0x210008, [], .lo, [⟨0, 32, .rw⟩]⟩,
   ⟨0x21000C, [], .hi, [⟨0, 32, .rw⟩]⟩,
   ⟨0x21001C, [], .whole, [⟨0, 32, .rc⟩]⟩,
   ⟨0x210020, [], .lo, [⟨0, 32, .ro⟩]⟩,
   ⟨0x210024, [], .hi, [⟨0, 32, .ro⟩]⟩,
   ⟨0x210028, [], .whole, [⟨0, 32, .ro⟩]⟩,
   ⟨0x21002C, [], .whole, [⟨0, 32, .ro⟩]⟩]
def regsTWIN1 : List RegDef :=
  [⟨0x210030, [], .whole, [⟨0, 32, .ro⟩]⟩,
   ⟨0x210040, [(0x4, 3)], .whole, [⟨0, 32, .sh⟩]⟩,
   ⟨0x21004C, [], .whole, [⟨0, 16, .rw⟩]⟩,
   ⟨0x210100, [(0x4, 32)], .whole, [⟨0, 6, .rw⟩, ⟨6, 1, .rw⟩]⟩,
   ⟨0x210200, [], .whole, [⟨0, 1, .w1s⟩, ⟨1, 1, .ro⟩]⟩,
   ⟨0x210220, [(0x4, 8)], .whole, [⟨0, 32, .rw⟩]⟩]
/-- The register definitions of block TWIN. -/
def regsTWIN : List RegDef := regsTWIN0 ++ regsTWIN1

/-- The register definitions of block JRNL. -/
def regsJRNL : List RegDef :=
  [⟨0x300000, [], .whole, [⟨0, 1, .rw⟩, ⟨1, 1, .rw⟩, ⟨2, 1, .rw⟩, ⟨3, 1, .w1s⟩, ⟨4, 1, .rw⟩]⟩,
   ⟨0x300004, [], .whole, [⟨0, 1, .ro⟩, ⟨1, 1, .rw1c⟩, ⟨2, 1, .rw1c⟩, ⟨3, 1, .rw1c⟩]⟩,
   ⟨0x300008, [], .whole, [⟨0, 32, .ro⟩]⟩,
   ⟨0x30000C, [], .whole, [⟨0, 32, .rw⟩]⟩,
   ⟨0x300010, [], .whole, [⟨0, 32, .ro⟩]⟩,
   ⟨0x300020, [], .lo, [⟨12, 20, .rw⟩]⟩,
   ⟨0x300024, [], .hi, [⟨0, 32, .rw⟩]⟩,
   ⟨0x300028, [], .whole, [⟨0, 5, .rw⟩, ⟨5, 5, .rw⟩, ⟨10, 6, .rw⟩]⟩,
   ⟨0x30002C, [], .whole, [⟨0, 32, .rw⟩]⟩,
   ⟨0x300030, [], .whole, [⟨0, 32, .ro⟩]⟩,
   ⟨0x300040, [(0x4, 8)], .whole, [⟨0, 32, .ro⟩]⟩]

/-- The register definitions of block MDMA. -/
def regsMDMA : List RegDef :=
  [⟨0x400004, [], .whole, [⟨0, 8, .ro⟩, ⟨8, 6, .ro⟩, ⟨14, 1, .rw1c⟩, ⟨15, 1, .rw1c⟩]⟩,
   ⟨0x400104, [(0x40, 8)], .whole, [⟨0, 1, .rw⟩, ⟨1, 4, .rw⟩, ⟨5, 6, .rw⟩]⟩,
   ⟨0x400128, [(0x40, 8)], .whole, [⟨0, 1, .ro⟩, ⟨1, 1, .rw1c⟩, ⟨2, 4, .ro⟩, ⟨8, 8, .ro⟩]⟩,
   ⟨0x400100, [(0x40, 8)], .whole, [⟨0, 1, .rw⟩, ⟨1, 5, .rw⟩]⟩,
   ⟨0x400108, [(0x40, 8)], .lo, [⟨12, 20, .rw⟩]⟩,
   ⟨0x40010C, [(0x40, 8)], .hi, [⟨0, 32, .rw⟩]⟩,
   ⟨0x400110, [(0x40, 8)], .lo, [⟨12, 20, .rw⟩]⟩,
   ⟨0x400114, [(0x40, 8)], .hi, [⟨0, 32, .rw⟩]⟩,
   ⟨0x400118, [(0x40, 8)], .whole, [⟨0, 16, .rw⟩]⟩,
   ⟨0x40011C, [(0x40, 8)], .whole, [⟨0, 16, .ro⟩]⟩,
   ⟨0x400120, [(0x40, 8)], .whole, [⟨0, 16, .rw⟩]⟩,
   ⟨0x400124, [(0x40, 8)], .whole, [⟨0, 16, .ro⟩]⟩]

/-- The register definitions of block PART. -/
def regsPART0 : List RegDef :=
  [⟨0x410000, [], .whole, [⟨0, 8, .sh⟩]⟩,
   ⟨0x410100, [(0x20, 32)], .whole, [⟨0, 1, .ro⟩, ⟨1, 7, .ro⟩, ⟨8, 12, .sh⟩, ⟨20, 5, .ro⟩]⟩,
   ⟨0x411000, [(0x80, 32), (0x4, 32)], .whole, [⟨0, 1, .ro⟩, ⟨1, 2, .ro⟩, ⟨3, 7, .ro⟩, ⟨16, 8, .ro⟩, ⟨24, 8, .ro⟩]⟩,
   ⟨0x412000, [(0x4, 96)], .whole, [⟨0, 16, .sh⟩, ⟨16, 16, .sh⟩]⟩,
   ⟨0x410804, [], .whole, [⟨0, 1, .sh⟩, ⟨1, 1, .sh⟩, ⟨2, 7, .sh⟩, ⟨12, 12, .sh⟩]⟩,
   ⟨0x410908, [], .whole, [⟨0, 1, .w1s⟩, ⟨1, 1, .rw⟩, ⟨2, 4, .rw⟩, ⟨6, 1, .rw⟩, ⟨7, 7, .rw⟩, ⟨16, 1, .ro⟩, ⟨17, 3, .ro⟩, ⟨24, 8, .ro⟩]⟩,
   ⟨0x410004, [], .whole, [⟨0, 8, .ro⟩]⟩,
   ⟨0x410104, [(0x20, 32)], .whole, [⟨0, 8, .ro⟩, ⟨8, 8, .ro⟩]⟩,
   ⟨0x410108, [(0x20, 32), (0x4, 3)], .whole, [⟨0, 32, .ro⟩]⟩,
   ⟨0x410114, [(0x20, 32)], .whole, [⟨0, 32, .rc⟩]⟩,
   ⟨0x410800, [], .whole, [⟨0, 12, .rw⟩]⟩,
   ⟨0x410808, [], .whole, [⟨0, 16, .sh⟩, ⟨16, 16, .sh⟩]⟩]
def regsPART1 : List RegDef :=
  [⟨0x410810, [], .whole, [⟨0, 12, .rw⟩]⟩,
   ⟨0x410820, [], .whole, [⟨0, 1, .sh⟩, ⟨1, 5, .sh⟩, ⟨6, 7, .sh⟩, ⟨13, 2, .ro⟩, ⟨15, 5, .ro⟩]⟩,
   ⟨0x410824, [], .whole, [⟨0, 16, .sh⟩, ⟨16, 16, .sh⟩]⟩,
   ⟨0x410828, [], .lo, [⟨12, 20, .sh⟩]⟩,
   ⟨0x41082C, [], .hi, [⟨0, 32, .sh⟩]⟩,
   ⟨0x410830, [], .lo, [⟨12, 20, .sh⟩]⟩,
   ⟨0x410834, [], .hi, [⟨0, 32, .sh⟩]⟩,
   ⟨0x410838, [], .lo, [⟨12, 20, .sh⟩]⟩,
   ⟨0x41083C, [], .hi, [⟨0, 32, .sh⟩]⟩,
   ⟨0x410900, [], .whole, [⟨2, 10, .rw⟩, ⟨12, 16, .rw⟩]⟩,
   ⟨0x410904, [], .whole, [⟨0, 32, .rw⟩]⟩,
   ⟨0x410A00, [], .whole, [⟨0, 7, .rw⟩]⟩]
def regsPART2 : List RegDef :=
  [⟨0x410A04, [], .whole, [⟨0, 1, .ro⟩, ⟨1, 2, .ro⟩, ⟨3, 7, .ro⟩]⟩,
   ⟨0x410A08, [], .whole, [⟨0, 32, .ro⟩]⟩]
/-- The register definitions of block PART. -/
def regsPART : List RegDef := regsPART0 ++ regsPART1 ++ regsPART2

/-- The block a BAR0 offset lies in (R516), as its list of register definitions. PMC holds only counters (R494). -/
def blockRegs (off : Nat) : List RegDef :=
  if off < 0x10000 then regsGLB else if off < 0x20000 then regsTIME else if off < 0x30000 then regsPWR
  else if off < 0x40000 then regsFLT else if off < 0x80000 then regsIMG else if off < 0xE0000 then regsPORT
  else if off < 0xF0000 then regsLANE else if off < 0x100000 then [] else if off < 0x110000 then regsFBL
  else if off < 0x120000 then regsCORE else if off < 0x140000 then regsSCHED else if off < 0x180000 then regsGUARD
  else if off < 0x1C0000 then regsBRG else if off < 0x200000 then regsRMA else if off < 0x210000 then regsSLOT
  else if off < 0x220000 then regsTWIN else if off < 0x300000 then [] else if off < 0x400000 then regsJRNL
  else if off < 0x410000 then regsMDMA else if off < 0x420000 then regsPART else []

/-- The indices at which `off` is an instance of an array with these strides and counts, or none (R517). -/
def indexIn : List (Nat × Nat) → Nat → Option (List Nat)
  | [], off => if off = 0 then some [] else none
  | (s, c) :: ds, off =>
    let i := min (off / s) (c - 1)
    match indexIn ds (off - s * i) with
    | some is => some (i :: is)
    | none => none

/-- The definition and indices of the register at a BAR0 offset, in a list of definitions. -/
def regIn : List RegDef → Nat → Option (RegDef × List Nat)
  | [], _ => none
  | r :: rs, off =>
    if off < r.base then regIn rs off
    else match indexIn r.dims (off - r.base) with
      | some is => some (r, is)
      | none => regIn rs off

/-- The definition and indices of the register at a BAR0 offset; none for a reserved offset (R6). -/
def regAt (off : Nat) : Option (RegDef × List Nat) := regIn (blockRegs off) off

/-- The word a register resets to, as its table states; 0 where the table states 0 or nothing else. -/
def resetWord (off : Nat) : Word :=
  if off < 0x10000 then (if off = 0x0 then 0x2568FA5E else if off = 0x4 then 0xB00000 else 0)
  else
  if off < 0x20000 then (if off = 0x10008 then 0x8 else if off = 0x1001C then 0x4 else if off = 0x10014 then 0xFFFF else 0)
  else
  if off < 0x30000 then (if off = 0x20000 then 0x8 else if off = 0x20010 then 0xA00 else if off = 0x20020 then 0x352028A else if off = 0x20024 then 0x2EE else 0)
  else
  if off < 0x40000 then (if 0x30400 ≤ off ∧ off ≤ 0x307F0 ∧ (off - 0x30400) % 0x10 = 0 then (if off = 0x30650 ∨ off = 0x30740 then 2 else 1) else if off = 0x30020 then 0xFFFF00 else if 0x30404 ≤ off ∧ off ≤ 0x307F4 ∧ (off - 0x30404) % 0x10 = 0 then 0x400040 else if 0x30408 ≤ off ∧ off ≤ 0x307F8 ∧ (off - 0x30408) % 0x10 = 0 then 0x40 else 0)
  else
  if off < 0xE0000 then (if 0x80000 ≤ off ∧ off ≤ 0xDF000 ∧ (off - 0x80000) % 0x1000 = 0 then 0xFF001800 else if 0x80004 ≤ off ∧ off ≤ 0xDF004 ∧ (off - 0x80004) % 0x1000 = 0 then 0xFF else if 0x8000C ≤ off ∧ off ≤ 0xDF00C ∧ (off - 0x8000C) % 0x1000 = 0 then 0x3 else if 0x80010 ≤ off ∧ off ≤ 0xDF010 ∧ (off - 0x80010) % 0x1000 = 0 then 0x7D0 else 0)
  else
  if off < 0x110000 then (if off % 0x4000 = 0x110 ∨ off % 0x4000 = 0x114 then 0x32803A80 else if off % 0x4000 = 0x118 then 0x01000200 else if off % 0x4000 = 0x11C then 0x07000800 else if 0x100000 ≤ off ∧ off ≤ 0x10C000 ∧ (off - 0x100000) % 0x4000 = 0 then 0x1000 else if 0x100004 ≤ off ∧ off ≤ 0x10C004 ∧ (off - 0x100004) % 0x4000 = 0 then 0x30 else if 0x100040 ≤ off ∧ off ≤ 0x10C07C ∧ (off - 0x100040) % 0x4000 % 0x4 = 0 ∧ (off - 0x100040) % 0x4000 ≤ 0x3C then 0x7E00 else if 0x100100 ≤ off ∧ off ≤ 0x10C100 ∧ (off - 0x100100) % 0x4000 = 0 then 0x2A else if 0x100104 ≤ off ∧ off ≤ 0x10C104 ∧ (off - 0x100104) % 0x4000 = 0 then 0x424 else 0)
  else
  if off < 0x120000 then (if off = 0x110000 then 0x1 else if 0x110820 ≤ off ∧ off ≤ 0x1109E0 ∧ (off - 0x110820) % 0x40 = 0 then 0x600704 else 0)
  else
  if off < 0x140000 then (if off = 0x120008 then 0x12 else if off = 0x12000C then 0x1A003E8 else if 0x121030 ≤ off ∧ off ≤ 0x1228F0 ∧ (off - 0x121030) % 0x40 = 0 then 0xFF else if 0x121004 ≤ off ∧ off ≤ 0x1228C4 ∧ (off - 0x121004) % 0x40 = 0 then 0x1010101 else if 0x121008 ≤ off ∧ off ≤ 0x1228C8 ∧ (off - 0x121008) % 0x40 = 0 then 0x1010101 else if 0x121010 ≤ off ∧ off ≤ 0x1228D0 ∧ (off - 0x121010) % 0x40 = 0 then 0x4000 else 0)
  else
  if off < 0x180000 then (if off = 0x14000C then 0x1 else 0)
  else
  if off < 0x1C0000 then (if off = 0x180000 then 0x1 else if off = 0x180008 then 0x1000 else if off = 0x180010 then 0x2000 else if off = 0x180020 then 0x6000C8 else if 0x181000 ≤ off ∧ off ≤ 0x182FF8 ∧ (off - 0x181000) % 0x4 = 0 then 0x83F else if 0x18C008 ≤ off ∧ off ≤ 0x18C038 ∧ (off - 0x18C008) % 0x10 = 0 then 0x7D0 else 0)
  else
  if off < 0x200000 then (if 0x1C1004 ≤ off ∧ off ≤ 0x1C1FC4 ∧ (off - 0x1C1004) % 0x40 = 0 then 0x8 else if off = 0x1C0000 then 0x1 else if off = 0x1C0008 then 0x2000 else 0)
  else
  if off < 0x210000 then (if 0x200008 ≤ off ∧ off ≤ 0x20F008 ∧ (off - 0x200008) % 0x1000 = 0 then 0xFF0000 else 0)
  else
  if off < 0x220000 then (if off = 0x21004C then 0x5 else 0)
  else
  if off < 0x400000 then (if off = 0x300000 then 0x2 else 0)
  else
  if off < 0x410000 then (if 0x400104 ≤ off ∧ off ≤ 0x4002C4 ∧ (off - 0x400104) % 0x40 = 0 then 0x8 else 0)
  else
  if off < 0x420000 then (if off = 0x410000 then 0xFF else if 0x412000 ≤ off ∧ off ≤ 0x41217C ∧ (off - 0x412000) % 0x4 = 0 then 0xFFFFFFFF else 0)
  else 0

end Sys2Proof
end

