-- ==== Sys2Proof/Machine/SMap.lean ====
section
/-! DEFINITION. Sparse tables as plain data: a list of (key, value) pairs in one canonical form, keys strictly rising and no
listed value equal to the value an unlisted key has. Register space, flash, counters and every per-instance table of the
device are kept in this form, so equal contents are equal lists. -/
namespace Sys2Proof

/-- A sparse table. What an unlisted key holds is given by the table's default function. -/
abbrev SMap (V : Type) := List (Nat × V)

/-- The value at a key, if listed. -/
def SMap.find? {V : Type} : SMap V → Nat → Option V
  | [], _ => none
  | (k, v) :: m, x => if k = x then some v else SMap.find? m x

/-- The value at a key, under the default function `d`. -/
def SMap.get {V : Type} (d : Nat → V) (m : SMap V) (x : Nat) : V := (SMap.find? m x).getD (d x)

/-- `m` without key `x`. -/
def SMap.drop {V : Type} : SMap V → Nat → SMap V
  | [], _ => []
  | (k, v) :: m, x => if k = x then SMap.drop m x else (k, v) :: SMap.drop m x

/-- `m` with `(x, v)` placed before the first larger key. -/
def SMap.put {V : Type} : SMap V → Nat → V → SMap V
  | [], x, v => [(x, v)]
  | (k, w) :: m, x, v => if x < k then (x, v) :: (k, w) :: m else (k, w) :: SMap.put m x v

/-- Write one key, keeping the canonical form. -/
def SMap.set {V : Type} [DecidableEq V] (d : Nat → V) (m : SMap V) (x : Nat) (v : V) : SMap V :=
  if v = d x then SMap.drop m x else SMap.put (SMap.drop m x) x v

/-- Change one key by a function of its value. -/
def SMap.modify {V : Type} [DecidableEq V] (d : Nat → V) (m : SMap V) (x : Nat) (f : V → V) : SMap V :=
  SMap.set d m x (f (SMap.get d m x))

/-- Keep the listed entries whose key satisfies `p`; every other key takes its default. -/
def SMap.keep {V : Type} (p : Nat → Bool) (m : SMap V) : SMap V := m.filter (fun e => p e.1)

/-- Write a list of entries, in order. -/
def SMap.setAll {V : Type} [DecidableEq V] (d : Nat → V) (m : SMap V) : List (Nat × V) → SMap V
  | [] => m
  | e :: es => SMap.setAll d (SMap.set d m e.1 e.2) es

/-- Keys strictly rising. -/
def SMap.sorted {V : Type} : SMap V → Bool
  | [] => true
  | e :: m => m.all (fun f => e.1 < f.1) && SMap.sorted m

/-- The canonical form: keys strictly rising, and no listed value equal to its key's default. -/
def SMap.wf {V : Type} [DecidableEq V] (d : Nat → V) (m : SMap V) : Bool :=
  SMap.sorted m && m.all (fun e => decide (e.2 ≠ d e.1))

end Sys2Proof
end

