-- ==== Sys2Proof/Machine/State.lean ====
section
/-! DEFINITION. The state of the VX2568 block, as plain data, and its value right after a cold reset. Every BAR0 register word is
held in `regs` (sparse, default the register's reset word); what the manual gives the device beside its registers is held in one
structure per block. -/
namespace Sys2Proof.Machine
open Sys2Proof

/-- Why a command stops with a fault. No command of this block does: the manual gives every command an effect, and an access to an
offset that holds no register is defined (R6, R522). -/
inductive Fault where
deriving DecidableEq, Repr

/-- Why a command is refused. -/
inductive Refusal where
  /-- no meaning yet for the command named; raised by `exec` alone; safe -/
  | notModelled (mnemonic : String)
deriving DecidableEq, Repr

/-! ### Events, the ledger and the journal (R30 to R36, R436 to R445) -/

/-- The journal entry types of R439, in the order of its table. -/
inductive EvType where
  | imgPointer | imgVerify | imgCheck | imgApply | imgStage | imgSwitch | imgCancel | bootptrWrite | arvCommit | keyslotRevoke
  | flashRefused
  | commitResult | genRetired | enableResult
  | modeChange | modeRefused | coldStart | warmReset | park | wake
  | faultCapture | faultClear | faultRepeatShed
  | shed | unshed | unshedRefused | drainStart | drainEnd | drainRefused | sweepStart | sweepEnd
  | timeLock | timeHold | timeHoldLong | timeStep | timeSource | alarm | timeSetRefused
  | pairState | failover | roleMsg | pairCommit
  | keyCmd | keyRevoked | connState
  | privRefused
  | debugLockPass
  | slotEvent
  | mgmtMsg | mailbox
  | portLink | bundlePhy | bundleLink
  | eventsCoalesced
deriving DecidableEq, Repr

/-- A control-plane event on its way to the ledger arbiter: type, the fault source for types 0x04xx, the instance concerned, AUX,
the payload as 32-bit words, whether it fills `FLT.FIRST_LEDGER` when granted (R422), whether it was applied at an epoch (R438),
and whether it is the firing of a feature's alarm, which R437 lets the journal mask. -/
structure Ev where
  type    : EvType
  src     : Nat := 0
  inst    : Nat := 0xFFFF
  aux     : Nat := 0
  payload : List Nat := []
  first   : Bool := false
  epoch   : Bool := false
  feature : Bool := false
deriving DecidableEq, Repr

/-- The coalescing record of a hardware-driven source (R33). -/
structure Coal where
  count   : Nat
  firstTy : EvType
  firstInst : Nat
  lastTy  : EvType
  lastInst : Nat
  firstFt : Nat
  lastFt  : Nat
deriving DecidableEq, Repr

/-- Where a request came from: which answer its end or completion owes, and to whom. -/
inductive Origin where
  /-- a requester behind PCIe port `n`, whose own Requester ID and tag are in the TLP -/
  | port (n : Nat)
  /-- a bound function behind shared port `n` with device-view Requester ID `rid` (R215, R216) -/
  | func (n rid : Nat)
  /-- a requester behind a PCIe port, sent under tag entry `x` (R214, R323) -/
  | tagged (x : Nat)
  /-- issued for a bridged packet with this header; `op` its OP, `acked` for BR_ACKED, IN entry `x` for BR_NP (R305, R320, R323) -/
  | bridged (h : TfpHdr) (acked : Bool) (x : Option Nat) (addr : Nat)
  /-- an RMA placement or service access for a validated packet `v` (R348) -/
  | rmaServe (v : Nat)
  /-- an RMA engine access of its own: read tag `t` (R343), or a write of the work request or ring `t` -/
  | rmaRead (t : Nat)
  | rmaWrite (wr : Option Nat)
  /-- a management DMA access: read tag, or a write of engine `e` (R486) -/
  | mdmaRead (t : Nat)
  | mdmaWrite (e : Nat)
  /-- the debug access port (R513), the configuration mailbox (R225), mirror session `s` (R168) -/
  | debug
  | mailbox
  | mirror (s : Nat)
  /-- the switch itself: completions it forms, messages, MSI-X writes -/
  | none_
deriving DecidableEq, Repr

/-- A request held at a full request-driven source, and the later accesses of its arrival path (R33). -/
inductive Held where
  | regWrite (path : Path) (off : Nat) (val : Word)
  /-- a read whose answer leaves on the path -/
  | regRead (path : Path) (off : Nat)
  /-- a frame of the MSP that writes or reads a register, and a read over JTAG, each answered when it is carried out -/
  | mspWrite (off : Nat) (val : Word)
  | mspRead (off : Nat)
  | dapRead (off : Nat)
  /-- a request to the BARs of partition `p`'s management function -/
  | barRequest (path : Path) (p : Nat) (t : Tlp) (o : Origin)
  | msg (b : Fin 4) (p : Tfp)
deriving DecidableEq, Repr

/-- One event source: its queue of 16, its store of 64, its coalescing record, the requests it holds (R33). -/
structure SrcQ where
  queue   : List Ev := []
  store   : List Ev := []
  coal    : Option Coal := none
  waiting : List Held := []
deriving DecidableEq, Repr

/-- The ledger arbiter: the last number issued (R31; 48 bits, 0 before the first), its sources, and the core cycle of the last grant. -/
structure Ledger where
  last  : Nat := 0
  srcs  : SMap SrcQ := []
  grantedAt : Option Nat := none
deriving DecidableEq, Repr

/-- A granted event in the journal unit's input queue: its number, the FT and the mode at grant (R438). -/
structure Granted where
  num  : Nat
  ft   : Nat
  mode : Nat
  ev   : Ev
deriving DecidableEq, Repr

/-- The journal unit (R440 to R445): its input queue of 256, the ring of 4,096 entries of 128 bytes, the hash of the last entry
written, the gap record of R442 (with FT and MODE of its first discard), the cycle from which it takes the next entry, and which
ring entries carry the CORRUPT flag of R444. -/
structure Journal where
  queue    : List Granted := []
  ring     : SMap (List Byte) := []
  lastHash : List Byte := []
  consumedHash : List Byte := []
  gap      : Bool := false
  gapStart : List Byte := []
  gapEnd   : List Byte := []
  gapFt    : Nat := 0
  gapMode  : Nat := 0
  readyAt  : Nat := 0
  corrupt  : List Nat := []
deriving DecidableEq, Repr

/-! ### Packets in the core (R147 to R175) -/

/-- What a packet is: a TLP, or a TFP packet with its virtual channel and NP flag (R275, R281). -/
inductive Body where
  | tlp (t : Tlp)
  | tfp (p : Tfp) (c : Chan) (np : Bool)
deriving DecidableEq, Repr

/-- Where a packet stands in the core. `pre`: in its subscriber's pre-queue (R182). `hold`: released by the subscriber and held by
R155. `voq`: in its VOQ. `mgmtq`: in a management queue (R154). `tagWait`: at the head of the non-posted lane for want of an entry,
tag, reservation or acknowledgement (R320, R323). `stage`: in replication staging (R164). `egress`: in its egress buffer (R157). -/
inductive Place where
  | pre | hold | voq | mgmtq | tagWait | stage | egress
deriving DecidableEq, Repr

/-- One tag-table entry in use (R323). OUT: the original Requester ID, tag, ingress and target serial, the window, destination
device, whether it is an ACKED write; IN: the packet it answers and the target port. `cells` is the answer reservation (R324); `seq` the packet that took the entry, by which
R320 tells an earlier write. -/
structure TagEntry where
  isOut   : Bool
  xidGen  : Nat
  rid     : Nat
  tag     : Nat
  ingress : Nat
  part    : Nat := 0
  serial  : Nat := 0
  window  : Option Nat := none
  dev     : Nat := 0
  port    : Nat := 0
  bind    : Option Nat := none
  acked   : Bool := false
  addr    : Nat := 0
  tc      : Nat := 0
  cells   : Nat := 0
  rem     : Option TfpHdr := none
  answered : Bool := false
  cpl     : Nat := 0
  seq     : Nat := 0
deriving DecidableEq, Repr

/-- A packet with its descriptor (R149). `gens` holds, per table (guard, binding, window, route, schedule), the stamped generation
or the not-consulted mark (R22). `sub` is the subscriber or none. `members` are the multicast members still to be copied (R163).
`lockPass`: its guard verdict came from a LOCK region (R169). `id` rises in arrival order. `need` is the tag entry the packet must take
before it crosses (R214, R323). `group` is a multicast packet's local group and whether a PCIe group maps to it (R162), `slot` the copy slot that
made a copy (R164), `serials` the insertion serials of its members (R163), `part` the partition whose management function it goes to,
`pooled` whether its cells are accounted to the octet's shared pool (R151), `orig` the TLP that entered where the packet carries it on translated (R168). -/
structure Pkt where
  id      : Nat
  body    : Body
  dest    : Nat
  egress  : Nat
  tc      : Nat
  kind    : Nat
  ro      : Bool
  colour  : Nat
  gens    : List (Option Nat)
  sub     : Option Nat
  ingress : Nat
  cells   : Nat
  cut     : Bool := false
  copy    : Nat := 0
  serial  : Nat := 0
  place   : Place
  since   : Nat := 0
  origin  : Origin
  members : List Nat := []
  lockPass : Bool := false
  parent  : Nat := 0
  need    : Option TagEntry := none
  group   : Option (Nat × Bool) := none
  slot    : Option Nat := none
  serials : List Nat := []
  part    : Nat := 0
  pooled  : Bool := false
  orig    : Option Tlp := none
deriving DecidableEq, Repr

/-- The record of a non-posted request sent through a port until its completion (R18, R136, R138). `addr` is the register's
offset for a configuration request. -/
structure NpRec where
  port   : Nat
  rid    : Nat
  tag    : Nat
  serial : Nat
  origin : Origin
  kind   : TlpKind
  addr   : Nat
  tc     : Nat
  ingress : Nat
deriving DecidableEq, Repr

/-- A request the switch itself ended after sending it: its late completions are discarded (R138). -/
structure EndedRec where
  port : Nat
  rid  : Nat
  tag  : Nat
deriving DecidableEq, Repr

/-- A copy staged by a mirror session (R167, R168). -/
structure MirrorCopy where
  ft      : Nat
  len     : Nat
  colour  : Nat
  leaving : Bool
  inPort  : Nat
  outPort : Nat
  bytes   : List Byte
deriving DecidableEq, Repr

/-- A mirror session's staged copies and the copies dropped since its last record (R168, R169); `lost` the last record of which a
write was lost. -/
structure MirrorSess where
  staged  : List MirrorCopy := []
  dropped : Nat := 0
  lost    : Option Nat := none
deriving DecidableEq, Repr

/-- The switch core. -/
structure Core where
  pkts    : List Pkt := []
  nextId  : Nat := 0
  out     : List NpRec := []
  ended   : List EndedRec := []
  mirrors : SMap MirrorSess := []
deriving DecidableEq, Repr

/-! ### Bundles: the link layer (R273 to R303) -/

/-- A packet the transmitter keeps until it is acknowledged (R291, R295): `out` once it has been placed on the wire, `resends` how often
again, `retrained` once it has caused its one retrain. -/
structure Sent where
  seq     : Nat
  p       : Tfp
  chan    : Chan
  np      : Bool
  flits   : Nat
  out     : Bool := false
  resends : Nat := 0
  retrained : Bool := false
  gens    : List (Option Nat) := []
deriving DecidableEq, Repr

/-- A packet accepted from a bundle that has not yet reached its engine (R284). -/
structure RxPkt where
  p     : Tfp
  chan  : Chan
  np    : Bool
  cells : Nat
deriving DecidableEq, Repr

/-- Auxiliary state of a bundle's link layer; STATE, the sequence numbers, masks and counters are its registers. Deadlines and stamps are
on elapsed time. `cursor` is the SEQ of the next packet to place; `replay` the FIRST_SEQ of a replay that waits for a period start; `carry`
the flits left of the unit in progress; `nakSent` when the last NAK of R289 went, `nakDue` a NAK to send (NAK_SEQ, RESYNC); `resuming`
whether TRAIN carries RESUME; `replayLeft` what the replay timer had left when a retrain froze it (R300); `period` the bytes of the next superblock period, `rxBytes` those of the last one received. -/
structure Link where
  store      : List Sent := []
  cursor     : Nat := 0
  replay     : Option Nat := none
  failures   : Nat := 0
  carry      : List (List Byte) := []
  nakSent    : Option Nat := none
  nakDue     : Option (Nat × Bool) := none
  pauseDue   : Bool := false
  trainDue   : Bool := false
  timeDue    : List TimeFlit := []
  ready      : Bool := false
  readySent  : Bool := false
  peerReady  : Bool := false
  resuming   : Bool := false
  peerNextRx : Nat := 0
  initTries  : Nat := 0
  replayDl   : Option Nat := none
  replayLeft : Option Nat := none
  resyncDl   : Option Nat := none
  resyncNak  : Option Nat := none
  initDl     : Option Nat := none
  retrainDl  : Option Nat := none
  trainAt    : Option Nat := none
  holdDl     : Option Nat := none
  reenableDl : Option Nat := none
  lastGood   : Nat := 0
  rx         : List RxPkt := []
  period     : List Byte := []
  rxBytes    : List Byte := []
deriving DecidableEq, Repr

/-- The receiver of one logical lane between periods (R253, R259, R261): the bits since the last payload region it read, that region's last bit, commas
in a row in their window, missed commas in a row, and the violations of the last 1 ms as (stamp, count). -/
structure LaneRx where
  tail   : List Bool := []
  last   : Bool := true
  commas : Nat := 0
  misses : Nat := 0
  viols  : List (Nat × Nat) := []
deriving DecidableEq, Repr

/-- Auxiliary state of a bundle's physical layer (R263 to R269): PLL locked; when the partner's clock was lost; when IDENT was entered, in this attempt, in
this training, and for the step in progress; valid frames in a row per physical lane that name it straight and reversed; coefficient rounds, RX_DONE
of both sides, the partner's RX_FAIL, the WIDTH it offers and the one its DONE names; the requests this side makes per logical lane (PRE, POST); lanes
with PRBS errors; the width chosen; the receivers of the logical lanes; the trained coefficients (PRE, POST) a physical transmit lane uses; the step a
narrowing is at (2 IDENT, 4 CHECK, 5 ALIGN); whether width 16 was given up in service (R268). -/
structure Phy where
  pll      : Bool := false
  clkLost  : Option Nat := none
  identAt  : Nat := 0
  trainAt  : Nat := 0
  stepAt   : Nat := 0
  frames   : SMap (Nat × Nat) := []
  rounds   : Nat := 0
  myDone   : Bool := false
  peerDone : Bool := false
  peerFail : Nat := 0
  peerWidth : Option Nat := none
  peerChosen : Option Nat := none
  reqs     : SMap (Nat × Nat) := []
  badLanes : Nat := 0
  chosen   : Option Nat := none
  rx       : SMap LaneRx := []
  coefs    : SMap (Option (Nat × Nat)) := []
  sub      : Nat := 0
  narrowed : Bool := false
deriving DecidableEq, Repr

/-! ### The bridge (R304 to R336) -/

/-- A notice accumulator of R322. -/
structure NoticeAcc where
  dev    : Nat
  window : Nat
  count  : Nat
  cause  : Nat
  addr   : Nat
  due    : Nat
deriving DecidableEq, Repr

/-- The bridge's state beside its registers: tag entries by XID, the reuse count of each XID, the failed requesters of each fence
(R321), notice accumulators, the windows and routes an ECC error has disabled (R333), sideband polling: poll
number, misses per entry and awaited answers, the sidebands latched for each port until answered (WAKE, ATTENTION); whether the one event per
re-arm of R329 has been raised; per bundle, the deadline of its drain and the start of one for a switch-over (R384, R387); the bundles whose drain a
mode change, park or switch-over started (R39, R92). -/
structure Bridge where
  tags    : SMap (Option TagEntry) := []
  xidGens : SMap Nat := []
  fences  : SMap (List Nat) := []
  notices : List NoticeAcc := []
  deadWin : List Nat := []
  deadRoute : List Nat := []
  pollSeq : Nat := 0
  misses  : SMap Nat := []
  awaiting : List Nat := []
  wakePorts : List Nat := []
  attnPorts : List Nat := []
  pollDue : Bool := false
  raised  : Bool := false
  drainDl : SMap (Option Nat) := []
  drainAt : SMap (Option Nat) := []
  ownDrains : List Nat := []
deriving DecidableEq, Repr

/-! ### Remote memory access (R337 to R374) -/

/-- A memory key (R345, R346): 0 INVALID, 1 VALID, 2 REVOKING, 3 REVOKED. -/
structure Key where
  state    : Nat := 0
  gen      : Nat := 0
  part     : Nat := 0
  pasid    : Nat := 0
  read     : Bool := false
  write    : Bool := false
  ring     : Nat := 0
  inflight : Nat := 0
deriving DecidableEq, Repr

/-- A segment of a work request: remote and local address, length, its PSN once it has one and whether it has ended; `parts` what has been read
of its data, by offset. -/
structure Seg where
  raddr : Nat
  laddr : Nat
  len   : Nat
  psn   : Option Nat := none
  done  : Bool := false
  parts : List (Nat × List Byte) := []
deriving DecidableEq, Repr

/-- A descriptor in progress on a ring (R341, R342), its index extended to 32 bits. `started` once FENCE lets it; `status` is the completion
status once decided, `nak` the code of its first NAK, `moved` the bytes moved before the first failure; `writes` counts the local writes of READ
data that have not ended; `ckpt` is the checkpoint that must cover its record (R368). -/
structure Work where
  id      : Nat
  ring    : Nat
  index   : Nat
  op      : Nat := 3
  flags   : Nat := 0
  conn    : Nat := 0
  key     : Nat := 0
  kgen    : Nat := 0
  tag     : Nat := 0
  segs    : List Seg := []
  started : Bool := false
  status  : Option Nat := none
  nak     : Nat := 0
  moved   : Nat := 0
  writes  : Nat := 0
  ckpt    : Option Nat := none
deriving DecidableEq, Repr

/-- An event record waiting for a completion slot of a ring (R342). -/
structure RingEvent where
  status : Nat
  index  : Nat
deriving DecidableEq, Repr

/-- A ring pair beside its registers: the next descriptor to fetch and to complete, as 32-bit counts, events waiting, event count. -/
structure Ring where
  fetch  : Nat := 0
  done   : Nat := 0
  events : List RingEvent := []
  evCount : Nat := 0
deriving DecidableEq, Repr

/-- An unacknowledged PSN (R357): its kind (0x20 WRITE, 0x21 READ_REQ, 0 one known only from a checkpoint), the segment it carried, times sent,
its retransmission deadline and the answer cells it holds (R352). -/
structure Unacked where
  psn   : Nat
  kind  : Nat
  work  : Nat
  seg   : Nat
  sends : Nat := 1
  due   : Nat := 0
  cells : Nat := 0
deriving DecidableEq, Repr

/-- A connection beside its words 0 to 2 (R350 to R361). Credits are in 256-byte blocks mod 2^24. `rxMap` lists the PSNs received beyond
RX_NEXT; `ackDue` unacknowledged arrivals or credit to tell; `ackAt` when they came; `nakSeqAt` when NAK SEQ last went; `timerDl` the next ACK of
OPENING or RESUME; `srcDev` the partner's DevID of a resumed connection (R409); `held` the PSNs whose acknowledgement waits for a checkpoint
(R368); `rxPhase` the PHASE of the last packet that authenticated (R355). -/
structure Conn where
  state    : Nat := 0
  phase    : Nat := 0
  counter  : Nat := 0
  rekeyPosted : Bool := false
  psn      : Nat := 0
  unacked  : List Unacked := []
  sentBlocks : Nat := 0
  peerLimit : Nat := 0
  rxNext   : Nat := 0
  rxMap    : List Nat := []
  consumed : Nat := 0
  lastLimit : Nat := 0
  ackDue   : Bool := false
  ackAt    : Nat := 0
  nakSeqAt : Option Nat := none
  timerDl  : Option Nat := none
  resumes  : Nat := 0
  srcDev   : Option Nat := none
  held     : List (Nat × Nat) := []
  rxPhase  : Nat := 0
deriving DecidableEq, Repr

/-- A read of host memory by the RMA engine, wanted or outstanding under `tag` (R343): `what` 0 descriptor fetch of `ring`, 1 source read of
segment `seg` of `work`, 2 read service of the packet `work`; `off` its place in the segment; `got` the bytes that have come. -/
structure RmaRead where
  tag   : Nat := 0
  port  : Nat
  rid   : Nat
  what  : Nat
  ring  : Nat := 0
  work  : Nat := 0
  seg   : Nat := 0
  off   : Nat := 0
  addr  : Nat
  len   : Nat
  pasid : Option Pasid := none
  tc    : Nat := 0
  ro    : Bool := false
  got   : List Byte := []
deriving DecidableEq, Repr

/-- A WRITE or READ_REQ in receive staging, or validated and being placed or served (R347 to R349). `todo` counts its accesses not
yet ended, `failed` the NAK code of the first failure, `parts` what has been read, by offset. -/
structure RmaRx where
  id    : Nat
  conn  : Nat
  psn   : Nat
  isRead : Bool
  key   : Nat
  kgen  : Nat
  addr  : Nat
  len   : Nat
  ro    : Bool
  data  : List Byte := []
  todo  : Nat := 0
  failed : Nat := 0
  parts : List (Nat × List Byte) := []
deriving DecidableEq, Repr

/-- The RMA engine. `crypto` holds key slots by 4·conn + 2·rx + phase: 32 bytes or none; `want` the reads that wait for a tag. -/
structure Rma where
  keys    : SMap Key := []
  conns   : SMap Conn := []
  crypto  : SMap (Option (List Byte)) := []
  rings   : SMap Ring := []
  works   : List Work := []
  nextWork : Nat := 0
  staging : List RmaRx := []
  serving : List RmaRx := []
  nextRx  : Nat := 0
  want    : List RmaRead := []
  reads   : List RmaRead := []
deriving DecidableEq, Repr

/-! ### Fabric Time (R93 to R116) -/

/-- The image's TIME_SOURCE (R65), as applied (R95). -/
structure TimeSrc where
  source   : Nat := 2
  upstream : Nat := 0
  ppsEdge  : Nat := 0
  ppsOut   : Bool := false
  inDelay  : Int := 0
  holdMs   : Nat := 0
deriving DecidableEq, Repr

/-- The FT counter and what its disciplines remember. `ft` is the 64-bit counter, `frac` its remainder and `slew` the correction still to
be slewed, both in units of FT/(390,625·10⁹) (R93: 0.625 ns is 2^20/390,625 FT units; R104), `ppb` the adjustment of the increment, `aon`
the AON copy (R94), `advFrac` the remainder of elapsed time. `corrAt` is the elapsed-time stamp of the last accepted correction and `holdBase` the
holdover of the sender followed then. Pins: `setDone` FT has been set, `acq` acquisition under way, `edgeSec` the FT second of the last
accepted edge, `edgeAt` its elapsed-time stamp, `anyEdge` that of the last edge, `missed` expected edges since, `good` consecutive edges
within 15 ns, `recs` the SECONDS of consecutive valid records, newest last, `recAt` the stamp of the newest. Fabric: `syncSeq` and `syncAt`
the SYNC last sent, `sync` the SYNC under way (bundle, SEQ, T_TX, bound, arrival FT), `heardAt` when a SYNC last arrived, `reqTx` T_TX of the
DELAY_REQ sent, `peer` the sender's state, hops and holdover, `goodIv` consecutive intervals that met the bound, `lastSync` the SEQ of the last SYNC
taken. `wakeDone`: the wake alarm has fired since it was armed (R110). `ptm`: the ports whose PTM dialog has had its first answer (R106). `ppsRise`: the
FT at which `TREF_PPS_OUT` rose, while it is high (R107). -/
structure Time where
  ft      : Nat := 0
  frac    : Nat := 0
  ppb     : Int := 0
  slew    : Int := 0
  advFrac : Nat := 0
  aon     : Nat := 0
  src     : TimeSrc := {}
  corrAt  : Option Nat := none
  holdBase : Nat := 0
  setDone : Bool := false
  acq     : Bool := true
  edgeSec : Option Nat := none
  edgeAt  : Option Nat := none
  anyEdge : Option Nat := none
  missed  : Nat := 0
  good    : Nat := 0
  recs    : List Nat := []
  recAt   : Option Nat := none
  syncSeq : Nat := 0
  syncAt  : Option Nat := none
  sync    : Option (Nat × Nat × Nat × Nat × Nat) := none
  heardAt : Option Nat := none
  reqTx   : Option Nat := none
  peer    : Option (Nat × Nat × Nat) := none
  goodIv  : Nat := 0
  firedOnce : List Nat := []
  lastPps : Nat := 0
  wakeDone : Bool := false
  lastSync : Option Nat := none
  ptm      : List Nat := []
  ppsRise  : Option Nat := none
deriving DecidableEq, Repr

/-! ### What leaves the part (the model's own record of it) -/

/-- Something the block has sent out: a TLP on a port's link, one ended as nullified (R159), Hot Reset (R134, R144), the bits of a bundle's
lanes in one superblock period (R251), a training frame and how often it is sent, PRBS31 on a lane from a seed (R263), an MSI-X message (R468), the answer to a register read, an MSP answer
(R483), a PMBus transaction (R497), a JTAG data-register value (R512, R513), a PTM answer (R106: a Response, or a ResponseD with Master Time and propagation delay), the rise and the fall of TREF_PPS_OUT
(R107). -/
inductive Output where
  | tlp (port : Nat) (t : Tlp)
  | nullified (port : Nat) (t : Tlp)
  | hotReset (port : Nat)
  | lanes (b : Nat) (bits : List (List Bool))
  | frame (b : Nat) (kind : Nat) (times : Nat) (bytes : List Byte)
  | prbs (b : Nat) (lane : Nat) (seed : Nat) (bits : Nat)
  | readData (path : Path) (off : Nat) (val : Word)
  | msp (bytes : List Byte)
  | pmbus (rail : Nat) (cmd : Nat) (data : List Byte)
  | jtag (bytes : List Byte)
  | ptm (port : Nat) (time : Option (Nat × Nat))
  | ppsOut (ft : Nat)
  | ppsLow (ft : Nat)
deriving DecidableEq, Repr

/-! ### Ports (R117 to R146), the collector (R419 to R435) -/

/-- A port beside its registers: the collector cause of its shed (R141; the DPC cause is STATUS.DPC), the drain deadline sampled
(R138), a reservation by a mode change, park or switch-over (R37, R388), the elapsed-time stamps from which R133 measures 100 ms and
100 µs, whether its `PE_PERST_N` is driven low, MC_Receive and Max Payload Size as the host set them (R125, R162), `ownDrain` whether its drain is
one that the change which reserves it started (R39, R92). -/
structure PortAux where
  collector : Bool := false
  drainDl   : Option Nat := none
  reserved  : Bool := false
  enableAt  : Option Nat := none
  pgAt      : Option Nat := none
  perstLow  : Bool := true
  mcReceive : Nat := 0
  mps       : Nat := 128
  drainAt   : Option Nat := none
  ownDrain  : Bool := false
deriving DecidableEq, Repr

/-- What a capture's reaction has shed (R428). -/
inductive ShedTarget where
  | port (n : Nat)
  | part (p : Nat)
  | bundle (b : Nat)
deriving DecidableEq, Repr

/-- The collector beside its registers: the sheds that latched captures have caused, by source (R142, R428). -/
structure Collector where
  sheds : List (Nat × ShedTarget) := []
deriving DecidableEq, Repr

/-! ### The twin (R392 to R418) -/

/-- The twin block beside its registers. `enable`, `bundle`, `arrange`, `role` come from the TWIN record (R65); `former` is the mode
before DEGRADED (R413), `before` the pair state before SUSPECT. Croak: the levels of the two outputs, firings since the last toggle,
the centre of the current slot on elapsed time, edges seen in it, whether croak is lost (R403, R404). `yield` is set by a YIELD
received. `cmd` is a role change waiting for its epoch: action (1 demote, 2 restore, 3 handback, 4 handover received), epoch, mode
entered. Pair commit: `sent` (REQUEST_ID, deadline), `rcvd` the snapshot staged here. Checkpoints: `mirror` the records of the last
complete checkpoint by 65,536·TABLE + INDEX, `part` the segments of the one arriving, `ckptSeq` the last number sent, `ackAt` when
CKPT_SENT last advanced. `pairKey` (32 bytes) and its IV counter (R401). `peerHash`, `peerStaged` from the last
TW_HELLO with its generation numbers `peerGen`; `hello` the fields last sent and `helloDl` the next 1 ms; `hashSince` when a STATE_HASH
difference was first seen. Pair commits (R380): `waiting` the commit this side's checker has accepted (snapshot, strict, CHECK_ONLY, epoch),
`result` the partner's answer (REASON, OFFENDER), `pairId` the REQUEST_ID of the pair commit staged. Checkpoints (R399): `acked` the
records the partner is known to hold, `flight` those of the checkpoint under way. `silent` the twin link (R404); `toggle` the croak
outputs whose toggle is due, `croakDl` the internal timer of an unpaired device (R403). -/
structure Twin where
  enable   : Bool := false
  bundle   : Nat := 0
  arrange  : Nat := 0
  role     : Nat := 0
  former   : Nat := 0
  before   : Nat := 0
  croakOut : Nat := 0
  croakRun : Bool := false
  fires    : Nat := 0
  center   : Option Nat := none
  edges    : Nat := 0
  croakLost : Bool := true
  yield    : Bool := false
  cmd      : Option (Nat × Nat × Nat) := none
  reqId    : Nat := 0
  sent     : Option (Nat × Nat) := none
  rcvd     : Option (Nat × Nat × SMap Word) := none
  mirror   : SMap (List Byte) := []
  part     : Option (Nat × List (Nat × List Byte)) := none
  ckptSeq  : Nat := 0
  ackAt    : Nat := 0
  syncSeq  : Nat := 0
  pairKey  : Option (List Byte) := none
  iv       : Nat := 0
  peerHash : List Byte := []
  peerStaged : Option (List Byte) := none
  hello    : List Byte := []
  helloDl  : Option Nat := none
  hashSince : Option Nat := none
  dualSeen : List Nat := []
  ckptDue  : Bool := false
  acked    : SMap (List Byte) := []
  flight   : Option (Nat × SMap (List Byte)) := none
  peerGen  : Nat := 0
  result   : Option (Nat × Nat) := none
  waiting  : Option (SMap Word × Bool × Bool × Nat) := none
  pairId   : Nat := 0
  silent   : Bool := false
  croakDl  : Option Nat := none
  toggle   : List Nat := []
deriving DecidableEq, Repr


/-! ### The image and its tables (R43 to R92) -/

/-- A LANE_PORT entry (R53). -/
structure LanePort where
  portid   : Nat
  octet    : Nat
  width    : Nat
  lane     : Nat
  role     : Nat
  rate     : Nat
  flags    : Nat
  slot     : Nat
  overhead : Nat
  perst    : Nat
deriving DecidableEq, Repr

/-- A PARTITION entry (R54); `members` is the 96-bit map. -/
structure PartEnt where
  part     : Nat
  upstream : Nat
  colour   : Nat
  members  : Nat
  busFirst : Nat
  busLast  : Nat
deriving DecidableEq, Repr

/-- A PRIVILEGE entry (R55). -/
structure PrivEnt where
  kind    : Nat
  index   : Nat
  classes : Nat
deriving DecidableEq, Repr

/-- A COLOUR entry (R56). -/
structure ColourEnt where
  colour : Nat
  portid : Nat
  select : Nat
  ridLo  : Nat
  ridHi  : Nat
deriving DecidableEq, Repr

/-- A guard region (R57); `rights` bits 0 to 2 and 7 as in the image. -/
structure RegionEnt where
  start  : Nat
  stop   : Nat
  tag    : Nat
  mtch   : Nat
  rights : Nat
deriving DecidableEq, Repr

/-- A BINDING entry (R58). -/
structure BindEnt where
  part     : Nat
  target   : Nat
  hostRid  : Nat
  devRid   : Nat
  hostBase : Nat
  devBase  : Nat
  length   : Nat
deriving DecidableEq, Repr

/-- A WINDOW entry (R59). -/
structure WinEnt where
  part   : Nat
  mode   : Nat
  devid  : Nat
  portid : Nat
  tc     : Nat
  base   : Nat
  length : Nat
  remote : Nat
deriving DecidableEq, Repr

/-- A ROUTE entry (R60). -/
structure RouteEnt where
  devid     : Nat
  primary   : Nat
  alternate : Nat
  transit   : Nat
deriving DecidableEq, Repr

/-- A SUBSCRIBER entry (R61). -/
structure SubEnt where
  id     : Nat
  portid : Nat
  tc     : Nat
  colour : Nat
  select : Nat
  rate   : Nat
  burst  : Nat
  lo     : Nat
  hi     : Nat
deriving DecidableEq, Repr

/-- A GATE_LIST record (R62); entries are (OPEN, DURATION). -/
structure GateEnt where
  portid  : Nat
  guard   : Nat
  cycle   : Nat
  base    : Nat
  entries : List (Nat × Nat)
deriving DecidableEq, Repr

/-- A FAULT entry (R63). -/
structure FaultEnt where
  source : Nat
  cls    : Nat
  group  : Nat
  ce     : Nat
  uc     : Nat
  fatal  : Nat
deriving DecidableEq, Repr

/-- A SLOT entry (R64). -/
structure SlotEnt where
  channel  : Nat
  shunt    : Nat
  limit    : Nat
  slew     : Nat
  timer    : Nat
  offMult  : Nat
  retries  : Nat
  flags    : Nat
  insertMs : Nat
  portid   : Nat
deriving DecidableEq, Repr

/-- The TWIN record (R65). -/
structure TwinEnt where
  enable  : Nat
  bundle  : Nat
  arrange : Nat
  role    : Nat
deriving DecidableEq, Repr

/-- The TIME_SOURCE record (R65); IN_DELAY in ns. -/
structure TimeEnt where
  source   : Nat
  ppsEdge  : Nat
  ppsOut   : Nat
  upstream : Nat
  inDelay  : Int
  holdMs   : Nat
deriving DecidableEq, Repr

/-- A RESOURCE_OWNER entry (R67). -/
structure OwnerEnt where
  cls       : Nat
  inst      : Nat
  owner     : Nat
  ownerInst : Nat
deriving DecidableEq, Repr

/-- The tables the checker tests, each entry with the index it is reported under (R554): of an image, the entry's place in its
section; of the running device, its index in its register table. `prefix_` is the SUBSCRIBER prefix: SLOT_EXP and SAMPLE_US;
`present` are the types of the sections an image has. -/
structure Tables where
  mode     : Nat := 0
  present  : List Nat := []
  lanes    : List (Nat × LanePort) := []
  parts    : List (Nat × PartEnt) := []
  privs    : List (Nat × PrivEnt) := []
  colours  : List (Nat × ColourEnt) := []
  regions  : List (Nat × RegionEnt) := []
  binds    : List (Nat × BindEnt) := []
  windows  : List (Nat × WinEnt) := []
  routes   : List (Nat × RouteEnt) := []
  prefix_  : Option (Nat × Nat) := none
  subs     : List (Nat × SubEnt) := []
  gates    : List (Nat × GateEnt) := []
  faults   : List (Nat × FaultEnt) := []
  slots    : List (Nat × SlotEnt) := []
  twin     : List (Nat × TwinEnt) := []
  time     : List (Nat × TimeEnt) := []
  owners   : List (Nat × OwnerEnt) := []
  defaults : List (Nat × (Nat × Nat)) := []
deriving DecidableEq, Repr

/-- An image that has passed the format tests: header fields, key slot, hash of its bytes 0 to TOTAL_LEN - 1, and its tables. -/
structure Image where
  version : Nat
  arv     : Nat
  flags   : Nat
  keySlot : Nat
  keyHash : List Byte
  hash    : List Byte
  tables  : Tables
deriving DecidableEq, Repr

/-- A failure the checker reports (R554): its reason, and OFFENDER as its 32-bit register value. -/
structure Fail where
  reason   : Nat
  offender : Nat
deriving DecidableEq, Repr

/-- A write that waits for the checker (R79): ENABLE or REOPEN of a port, ENABLE of a mirror session or MC_EN, or another enable bit. -/
structure EnableReq where
  path : Path
  off  : Nat
  val  : Word
deriving DecidableEq, Repr

/-- What the checker is working on: a commit (its snapshot of the shadow, its CTRL bits and epoch), an enable-bit write, the snapshot of the
partner's pair commit under its REQUEST_ID (R380). -/
inductive CheckReq where
  | commit (snap : SMap Word) (atEpoch strict checkOnly : Bool) (epoch : Nat)
  | enable (e : EnableReq)
  | partner (id epoch : Nat) (snap : SMap Word)
deriving DecidableEq, Repr

/-- A staged commit (R81, R111). `pair` marks a pair commit (R380). -/
structure Staged where
  snap   : SMap Word
  strict : Bool
  epoch  : Nat
  pair   : Bool := false
deriving DecidableEq, Repr

/-- What the flash interface does or is asked to do (R85): erase of a 64 KiB block, a window write into the page buffer, programming of a page (its
bytes by their place in it), or programming of whatever the buffer holds. -/
inductive FlashOp where
  | erase (addr : Nat)
  | write (addr : Nat) (data : List Byte)
  | program (addr : Nat) (data : SMap Byte)
  | flush
deriving DecidableEq, Repr

/-- The loader, IMG, the checker and the flash. `active` is the image that runs; `staged` the image in the stage with its class and the ports or bundles it drains; `sealed` the RWK seal (R520); `checks` what the
checker serves, the one in progress first (R79); `page` the page buffered for programming and the bytes written
into it (R85), `flashWait` the flash accesses that wait for BUSY to clear; `stalled` the writes the register interface has not accepted while 32 enable writes wait. -/
structure Img where
  flash    : SMap Byte := []
  flashOp  : Option FlashOp := none
  active   : Option Image := none
  staged   : Option (Image × Nat × List Nat) := none
  sealed   : Bool := false
  checks   : List CheckReq := []
  stalled  : List EnableReq := []
  commit   : Option Staged := none
  fuseOp   : Option (Nat × Nat) := none
  switchAt : Option Nat := none
  switchAfter : Option Nat := none
  flashWait : List FlashOp := []
  page     : Option (Nat × SMap Byte) := none
deriving DecidableEq, Repr

/-! ### Fuses (R70, R75, R510) -/

/-- The fuse rows: key hashes of the two slots (48 bytes, or none while unprogrammed), their revocations, the anti-rollback count, the
lifecycle fuses PROD and RETURN and those blown since the last cold reset, and the debug unlock of R512. -/
structure Fuses where
  keys    : SMap (Option (List Byte)) := []
  revoked : List Nat := []
  arv     : Nat := 0
  prod    : Bool := false
  ret     : Bool := false
  pendProd : Bool := false
  pendRet  : Bool := false
  keyData : List Byte := []
deriving DecidableEq, Repr

/-! ### The scheduler (R177 to R207) -/

/-- A gate list as it runs. -/
structure GateRun where
  entries : List (Nat × Nat)
  cycle   : Nat
  base    : Nat
  guard   : Nat
deriving DecidableEq, Repr

/-- The gate control of one egress: the running list; the committed one waiting for its first cycle start at an FT; the FT at which a
removed list ends (R193). -/
structure Gate where
  run     : Option GateRun := none
  pending : Option (GateRun × Nat) := none
  endAt   : Option Nat := none
deriving DecidableEq, Repr

/-- A sampler record (R197, R198). -/
structure Sampler where
  depth : List Nat := List.replicate 16 0
  soj   : List Nat := List.replicate 16 0
  lastDepth : Nat := 0
  lastSoj   : Nat := 0
  peakDepth : Nat := 0
  peakSoj   : Nat := 0
  samples   : Nat := 0
deriving DecidableEq, Repr

/-- The scheduler beside its registers. `elig` is E of R184 as an exact rational in FT units by subscriber, `limit` the same for the
egress limiter of R189; `wheel` the placed heads as (slot boundary FT, subscriber); `released` the heads released in a core cycle
(cycle, how many); `xDef`, `tDef` the deficits of the crossbar and of the transmit stage by SCHED index and class, `xTurn`, `tTurn` the
class whose turn it is; `xIn` the input next in turn by 9·SCHED index + class (8 its management queue), `xPort` the PortID next in turn by egress crossbar port (R156); `nextSample` the next sampling period. -/
structure Sched where
  elig     : SMap Rat := []
  limit    : SMap Rat := []
  wheel    : List (Nat × Nat) := []
  released : Nat × Nat := (0, 0)
  xDef     : SMap (SMap Nat) := []
  tDef     : SMap (SMap Nat) := []
  xTurn    : SMap Nat := []
  tTurn    : SMap Nat := []
  xIn      : SMap Nat := []
  xPort    : SMap Nat := []
  gates    : SMap Gate := []
  samplers : SMap Sampler := []
  nextSample : Nat := 0
  orphans  : SMap (Nat × Nat) := []
deriving DecidableEq, Repr

/-! ### The guard (R227 to R245), partitions (R208 to R226) -/

/-- The guard beside its registers: regions lost to an ECC error (R242), the strict sweep running: its deadline and the swept
generation. -/
structure Guard where
  lost  : List Nat := []
  sweep : Option (Nat × Nat) := none
deriving DecidableEq, Repr

/-- The partition block beside its registers: the PRIVILEGE entries in index order (R55), the deadline of the mailbox request (R225)
and its RID and tag, BAR dwords last written with all ones (R217; partition·2^20 + host RID·8 + dword), and when a refused read was last
journaled for a path with the count since (R476; by path code). -/
structure Part where
  privs   : List PrivEnt := []
  owners  : List OwnerEnt := []
  mailDl  : Option Nat := none
  sized   : List Nat := []
  rdLast  : SMap (Option Nat) := []
  rdCount : SMap Nat := []
  ddtSeq  : Nat := 0
deriving DecidableEq, Repr
/-! ### Slot power channels (R448 to R464) -/

/-- A slot channel beside its registers: the level of its presence pin and since when, the first absent sample of the current absence; the ends
of its insertion delay, off time, output check, ramp and gate-stuck deadline; the fault timer: in limit since, counted before, out of limit
since; ON since; the state recorded at removal; trips of this insertion; whether its gate is on. -/
structure SlotAux where
  raw      : Bool := false
  rawAt    : Nat := 0
  absentAt : Option Nat := none
  insertDl : Option Nat := none
  offDl    : Option Nat := none
  checkDl  : Option Nat := none
  rampDl   : Option Nat := none
  stuckDl  : Option Nat := none
  limitAt  : Option Nat := none
  spent    : Nat := 0
  outAt    : Option Nat := none
  onAt     : Option Nat := none
  prior    : Nat := 0
  faults   : Nat := 0
  gate     : Bool := false
deriving DecidableEq, Repr

/-! ### Management DMA (R484 to R487) -/

/-- A descriptor in progress on an engine: its fields (R484), its status once decided, the MSG_ID it sent and the one it restores, the answer
deadline, what has been read of the message. -/
structure MdmaJob where
  id      : Nat
  eng     : Nat
  index   : Nat
  op      : Nat := 0
  flags   : Nat := 0
  count   : Nat := 0
  first   : Nat := 0
  addr    : Nat := 0
  tag     : Nat := 0
  started : Bool := false
  status  : Option Nat := none
  msgId   : Option Nat := none
  ownId   : Nat := 0
  dl      : Option Nat := none
  parts   : List (Nat × List Byte) := []
deriving DecidableEq, Repr

/-- A read of host memory by an engine, wanted or outstanding (R486): `what` 0 descriptor, 1 message content of job `job` at `off`; `got` the bytes
that have come. -/
structure MdmaRead where
  tag  : Nat := 0
  eng  : Nat
  what : Nat
  job  : Nat := 0
  off  : Nat := 0
  addr : Nat
  len  : Nat
  got  : List Byte := []
deriving DecidableEq, Repr

/-- An engine beside its registers: the next descriptor to fetch and to complete, as 32-bit counts. -/
structure MdmaEng where
  fetch : Nat := 0
  done  : Nat := 0
deriving DecidableEq, Repr

/-- The management DMA block, with the bundles on which a manager conflict stands (R41). -/
structure Mdma where
  conflicts : List Nat := []
  engs    : SMap MdmaEng := []
  jobs    : List MdmaJob := []
  nextJob : Nat := 0
  want    : List MdmaRead := []
  reads   : List MdmaRead := []
  msgSeq  : Nat := 0
deriving DecidableEq, Repr

/-! ### Power, start-up and debug (R495 to R515) -/

/-- A PMBus request (R498): its rail, 0 off, 1 on, 2 setpoint, 3 CLEAR_FAULTS, the setpoint in mV, and for what: 0 AVS or CLEAR, 1 park, 2 wake,
3 the switching off after a failed wake. -/
structure PmReq where
  rail : Nat
  kind : Nat
  mv   : Nat := 0
  why  : Nat := 0
deriving DecidableEq, Repr

/-- Start-up, park, wake and PMBus: the step of R509 reached (1 AON power, 2 `PWROK`, 3 fuses, 4 core released, 5 core clocks, 6 SRAM, 8 mode entered),
whether the start is a cold one and whether it is a wake (R38), the requests waiting, the first one sent at, when AVS last stepped; the park: what
AON recorded (mode, image hash), the deadline of its step, whether a wake came during it, the channels KILLED before it; the wake's attempt and the
end of its pause; the crystal, VIN_SLOT and the die link; when each
quadrant's REFCLK was found stable (R133). -/
structure Power where
  up       : Nat := 1
  cold     : Bool := true
  wakeRun  : Bool := false
  reqs     : List PmReq := []
  sentAt   : Option Nat := none
  avsAt    : Option Nat := none
  alertAt  : Option Nat := none
  parkMode : Nat := 0
  parkHash : List Byte := []
  parkDl   : Option Nat := none
  wakeReq  : Bool := false
  parkKills : List Nat := []
  attempts : Nat := 0
  retryDl  : Option Nat := none
  timedOut : List Nat := []
  xtal     : Bool := false
  vinOk    : Bool := false
  dieLost  : Bool := false
  mv       : Nat := 750
  refclkAt : SMap (Option Nat) := []
deriving DecidableEq, Repr

/-- The debug port (R511 to R513): the challenge that waits for its response, failures since cold reset, EXTEST, the boundary register's preload,
the DAP operation that runs (op, PortID, address), the result held for the next capture (status, PortID, address, data). -/
structure Debug where
  nonce  : Option (List Byte) := none
  fails  : Nat := 0
  extest : Bool := false
  drive  : List Bool := []
  ir     : Nat := 1
  busy   : Option (Nat × Nat × Nat) := none
  result : Nat × Nat × Nat × Nat := (0, 0, 0, 0)
deriving DecidableEq, Repr

/-! ### The whole state -/

/-- The state of the block. -/
structure State where
  /-- the commands waiting, first in first out (the model's own) -/
  pending : List Instr := []
  /-- every BAR0 register word, and the entries behind indirect windows at offsets from 2^24 upward -/
  regs    : SMap Word := []
  /-- the shadow words that differ from their live words (R9, R80, R521) -/
  shadow  : SMap Word := []
  /-- the `_HI` half latched by the last `_LO` read, by arrival path and offset (R8, R518) -/
  hiLatch : SMap Word := []
  /-- the arrival paths whose `GLB.VIEW.SHADOW` is 1, by path code (R521) -/
  views   : List Nat := []
  /-- the MSI-X tables and pending bits of the partitions' management functions (R468) -/
  msix    : SMap Word := []
  /-- the performance counters: counter k of page q at 512·q + k (R488) -/
  counters : SMap Nat := []
  /-- core cycles since the model started, and elapsed time in FT units whatever steps FT takes (R451) -/
  cycle   : Nat := 0
  adv     : Nat := 0
  /-- how many free values have been drawn (the model's own) -/
  free    : Nat := 0
  /-- what has left the part, oldest first (the model's own) -/
  out     : List Output := []
  ledger  : Ledger := {}
  jrnl    : Journal := {}
  time    : Time := {}
  core    : Core := {}
  /-- configuration space of the switch's own functions: function 33·p + d of partition p (d = 0 the management function, 1 to 31
  the vDSPs, 32 the upstream port), 1,024 words each (R465 to R467) -/
  cfg     : SMap Word := []
  links   : SMap Link := []
  phys    : SMap Phy := []
  ports   : SMap PortAux := []
  flt     : Collector := {}
  twin    : Twin := {}
  brg     : Bridge := {}
  rma     : Rma := {}
  img     : Img := {}
  fuses   : Fuses := {}
  sched   : Sched := {}
  guard   : Guard := {}
  part    : Part := {}
  slots   : SMap SlotAux := []
  mdma    : Mdma := {}
  pwr     : Power := {}
  dbg     : Debug := {}
deriving DecidableEq, Repr

/-- The machine right after a cold reset (R500), before its commands: every register at the reset value of its table, every latch
clear, no packet anywhere, nothing waiting. -/
def State.reset : State := {}

end Sys2Proof.Machine
end

