-- ==== Sys2Proof/Machine/Ops.lean ====
section
/-! DEFINITION. The operations every block of the device shares: reading and writing register words and fields, counters, free
values, outputs, elapsed time, and posting an event to the ledger arbiter (R30 to R34). -/
namespace Sys2Proof.Machine
open Sys2Proof

/-- What a command that completes answers. -/
abbrev Res := Host.Outcome State Fault Refusal

/-! ### Register words -/

/-- The live word at an offset. -/
def State.rd (s : State) (off : Nat) : Word := SMap.get resetWord s.regs off

/-- Set the live word at an offset. -/
def State.wr (s : State) (off : Nat) (w : Word) : State := { s with regs := SMap.set resetWord s.regs off w }

/-- The value of a register field. -/
def State.get (s : State) (f : RF) : Nat := fieldOf (s.rd f.off) f.lo f.n

/-- Set a register field, leaving the register's other bits. -/
def State.set (s : State) (f : RF) (v : Nat) : State := s.wr f.off (withField (s.rd f.off) f.lo f.n v)

/-- A one-bit field as a truth value. -/
def State.flag (s : State) (f : RF) : Bool := s.get f = 1

/-- The number a `_LO`/`_HI` pair holds; `lo` is the offset of the `_LO` register. -/
def State.rd64 (s : State) (lo : Nat) : Nat := (s.rd lo).toNat + 2 ^ 32 * (s.rd (lo + 4)).toNat

/-- Set a `_LO`/`_HI` pair. -/
def State.wr64 (s : State) (lo v : Nat) : State :=
  (s.wr lo (BitVec.ofNat 32 v)).wr (lo + 4) (BitVec.ofNat 32 (v / 2 ^ 32))

/-- Add to a field, saturating at its largest value. -/
def State.addSat (s : State) (f : RF) (k : Nat) : State := s.set f (sat f.n (s.get f + k))

/-- The bits of a word that are SH fields (R9, R521): of a register, those of its table; of an entry behind an indirect window, the
window word's. -/
def shMask (off : Nat) : Word :=
  if off < 2 ^ 24 then
    match regAt off with
    | some (r, _) => r.fields.foldl (fun m f => if f.acc = .sh then m ||| fieldMask f.lo f.n else m) 0
    | none => 0
  else if 0x1070000 ≤ off ∧ off < 0x10A0000 ∧ off % 32 = 0 then 0x1FFF
  else if off < 0x1020000 ∧ off % 32 = 12 then 0
  else if 0x10E0000 ≤ off ∧ off < 0x10F0000 ∧ off % 32 = 28 then 0
  else if 0x10F0000 ≤ off then 0
  else 0xFFFFFFFF

/-- A live word with its SH bits taken from a shadow word. -/
def mergeSh (off : Nat) (live sh : Word) : Word := (live &&& ~~~ shMask off) ||| (sh &&& shMask off)

/-- The word a read shows in the shadow view: RO fields always live (R521). -/
def State.shd (s : State) (off : Nat) : Word :=
  match SMap.find? s.shadow off with
  | some w => mergeSh off (s.rd off) w
  | none => s.rd off

/-- Set a shadow word: its SH bits. A word written is listed until it is applied, one equal to its live word too: a commit rewrites it (R201, R242, R333). -/
def State.wrShd (s : State) (off : Nat) (w : Word) : State :=
  { s with shadow := SMap.put (SMap.drop s.shadow off) off (w &&& shMask off) }

/-! ### Small things -/

/-- The lifecycle (R510): 0 DEV, 1 PROD, 2 RETURN. -/
def lifecycle (s : State) : Nat := if s.fuses.ret then 2 else if s.fuses.prod then 1 else 0

/-- The operating mode: `GLB.MODE.CURRENT` (R3). From the release of the core until the loader has entered a mode the device acts as in BARE, while
CURRENT, held in AON (R523), still shows the mode before the reset or 7 (R4, R72 step 7; log entry 101). -/
def State.mode (s : State) : Nat := if 4 ≤ s.pwr.up ∧ s.pwr.up < 8 then 0 else s.get GLB.MODE_CURRENT

/-- Record something that leaves the part. -/
def State.emit (s : State) (o : Output) : State := { s with out := s.out ++ [o] }

/-- Draw a free value (R-silent points; log entry 2). -/
def State.fresh (s : State) : Nat × State := (Config.freeNat s.free, { s with free := s.free + 1 })

/-- Add to counter `k` of page `q`; 48 bits, wrapping (R488). -/
def State.count (s : State) (q k n : Nat) : State :=
  { s with counters := SMap.set (fun _ => 0) s.counters (512 * q + k) ((SMap.get (fun _ => 0) s.counters (512 * q + k) + n) % 2 ^ 48) }

/-- The value of counter `k` of page `q`. -/
def State.counter (s : State) (q k : Nat) : Nat := SMap.get (fun _ => 0) s.counters (512 * q + k)

/-- Microseconds as FT units, rounded to the nearest (R10). -/
def usFt (us : Nat) : Nat := roundDiv (us * 2 ^ 32) 1000000

/-- Nanoseconds as FT units, rounded to the nearest (R10). -/
def nsFt (ns : Nat) : Nat := roundDiv (ns * 2 ^ 32) 1000000000

/-- Milliseconds as FT units, rounded to the nearest (R10). -/
def msFt (ms : Nat) : Nat := roundDiv (ms * 2 ^ 32) 1000

/-- FT units as whole nanoseconds, truncated. -/
def ftNs (ft : Nat) : Nat := ft * 1000000000 / 2 ^ 32

/-- FT units as whole milliseconds, truncated. -/
def ftMs (ft : Nat) : Nat := ft * 1000 / 2 ^ 32

/-- FT units as whole microseconds, truncated. -/
def ftUs (ft : Nat) : Nat := ft * 1000000 / 2 ^ 32

/-- Whether an elapsed-time deadline has come (none: no timer runs). -/
def State.due (s : State) : Option Nat → Bool
  | some d => d ≤ s.adv
  | none => false

/-- Apply a step for each element of a list, in order. -/
def forEach {α : Type} (l : List α) (f : State → α → State) (s : State) : State := l.foldl f s

/-- Apply a step only when a condition holds. -/
def State.when (s : State) (c : Bool) (f : State → State) : State := if c then f s else s

/-! ### Event sources (R32, R33) -/

/-- The sources: one per block instance. Request-driven: the commit unit, loader and IMG, MSP, management messages, mailbox, MDMA,
RMA commands; all others hardware-driven (R33). -/
def Src.commit : Nat := 0
def Src.image : Nat := 1
def Src.msp : Nat := 2
def Src.mgmt : Nat := 3
def Src.mailbox : Nat := 4
def Src.mdma : Nat := 5
def Src.rmaCmd : Nat := 6
def Src.collector : Nat := 10
def Src.time : Nat := 11
def Src.twin : Nat := 12
def Src.core : Nat := 13
def Src.sched : Nat := 14
def Src.guard : Nat := 15
def Src.brg : Nat := 16
def Src.rma : Nat := 17
def Src.jrnl : Nat := 18
def Src.pwr : Nat := 19
def Src.glb : Nat := 20
def Src.part : Nat := 21
def Src.port (n : Nat) : Nat := 100 + n
def Src.bundle (b : Nat) : Nat := 200 + b
def Src.slot (n : Nat) : Nat := 210 + n

/-- Whether a source is request-driven (R33). -/
def Src.requestDriven (src : Nat) : Bool := src < 10

/-- A source's queues. -/
def State.srcQ (s : State) (src : Nat) : SrcQ := SMap.get (fun _ => {}) s.ledger.srcs src

/-- Replace a source's queues. -/
def State.setSrcQ (s : State) (src : Nat) (q : SrcQ) : State :=
  { s with ledger := { s.ledger with srcs := SMap.set (fun _ => {}) s.ledger.srcs src q } }

/-- Whether a source's queue of 16 and store of 64 are both full (R33). -/
def SrcQ.full (q : SrcQ) : Bool := 16 ≤ q.queue.length && 64 ≤ q.store.length

/-- An event enters the queue, else the store, else the coalescing record (R33). A request-driven source (`req`) has no such record: an event it raises
of its own accord while it is full stands behind its store (log entry 102). -/
def SrcQ.push (q : SrcQ) (e : Ev) (ft : Nat) (req : Bool := false) : SrcQ :=
  if q.queue.length < 16 ∧ q.store = [] ∧ q.coal.isNone then { q with queue := q.queue ++ [e] }
  else if (q.store.length < 64 ∨ req = true) ∧ q.coal.isNone then { q with store := q.store ++ [e] }
  else match q.coal with
    | none => { q with coal := some ⟨1, e.type, e.inst, e.type, e.inst, ft, ft⟩ }
    | some c => { q with coal := some { c with count := c.count + 1, lastTy := e.type, lastInst := e.inst, lastFt := ft } }

/-- Raise an event on a source: it waits for the ledger arbiter (R30, R33). -/
def State.post (s : State) (src : Nat) (e : Ev) : State := s.setSrcQ src ((s.srcQ src).push e s.time.ft (Src.requestDriven src))

/-- The class and number of an entry type: its 16-bit TYPE (R439). -/
def EvType.code : EvType → Nat
  | .imgPointer => 0x0101 | .imgVerify => 0x0102 | .imgCheck => 0x0103 | .imgApply => 0x0104 | .imgStage => 0x0105
  | .imgSwitch => 0x0106 | .imgCancel => 0x0107 | .bootptrWrite => 0x0108 | .arvCommit => 0x0109 | .keyslotRevoke => 0x010A
  | .flashRefused => 0x010B
  | .commitResult => 0x0201 | .genRetired => 0x0202 | .enableResult => 0x0203
  | .modeChange => 0x0301 | .modeRefused => 0x0302 | .coldStart => 0x0303 | .warmReset => 0x0304 | .park => 0x0305 | .wake => 0x0306
  | .faultCapture => 0x0401 | .faultClear => 0x0402 | .faultRepeatShed => 0x0403
  | .shed => 0x0501 | .unshed => 0x0502 | .unshedRefused => 0x0503 | .drainStart => 0x0504 | .drainEnd => 0x0505
  | .drainRefused => 0x0506 | .sweepStart => 0x0507 | .sweepEnd => 0x0508
  | .timeLock => 0x0601 | .timeHold => 0x0602 | .timeHoldLong => 0x0603 | .timeStep => 0x0604 | .timeSource => 0x0605
  | .alarm => 0x0606 | .timeSetRefused => 0x0607
  | .pairState => 0x0701 | .failover => 0x0702 | .roleMsg => 0x0703 | .pairCommit => 0x0704
  | .keyCmd => 0x0801 | .keyRevoked => 0x0802 | .connState => 0x0803
  | .privRefused => 0x0901
  | .debugLockPass => 0x0A01
  | .slotEvent => 0x0B01
  | .mgmtMsg => 0x0C01 | .mailbox => 0x0C02
  | .portLink => 0x0D01 | .bundlePhy => 0x0D02 | .bundleLink => 0x0D03
  | .eventsCoalesced => 0x0E01

end Sys2Proof.Machine
end

