-- ==== Sys2Proof/Machine/Image.lean ====
section
/-! DEFINITION. The flash and the spawn image: boot pointer records (R44 to R47), reading an image and its format tests (R48 to R51,
R52 to R68), key, hashes and signature (R69, R70). -/
namespace Sys2Proof.Machine
open Sys2Proof

/-! ### Flash -/

/-- A byte of flash; a byte nothing has programmed reads 0xFF (log entry 4). -/
def flashByte (s : State) (a : Nat) : Byte := SMap.get (fun _ => 0xFF) s.img.flash a

/-- `n` bytes of flash. -/
def flashBytes (s : State) (a n : Nat) : List Byte := (List.range n).map (fun i => flashByte s (a + i))

/-- A little-endian field of a byte list. -/
def le (bs : List Byte) (off n : Nat) : Nat := ofLe ((bs.drop off).take n)

/-- The flash address and size of slot A, slot B and the recovery image (R44). -/
def slotBase (k : Nat) : Nat × Nat :=
  if k = 0 then (0x400000, 0x800000) else if k = 1 then (0xC00000, 0x800000) else (0x100000, 0x200000)

/-- The 32-byte record of boot pointer copy `c`. -/
def bootRec (s : State) (c : Nat) : List Byte := flashBytes s (0x10000 * c) 32

/-- Whether a boot pointer copy is valid (R45, R46). -/
def bootValid (r : List Byte) : Bool :=
  le r 0 4 = 0x50425856 && le r 8 1 ≤ 1 && le r 0xA 1 ≤ 2 && 1 ≤ le r 0xB 1 && le r 0xB 1 ≤ 8 && le r 0x1C 4 = crc32 (r.take 0x1C)

/-- The boot pointer copy the loader uses (R46). -/
def bootCopy (s : State) : Option Nat :=
  let r0 := bootRec s 0
  let r1 := bootRec s 1
  let d := (le r1 4 4 + 2 ^ 32 - le r0 4 4) % 2 ^ 32
  if bootValid r0 ∧ bootValid r1 then (if 1 ≤ d ∧ d < 2 ^ 31 then some 1 else some 0)
  else if bootValid r0 then some 0
  else if bootValid r1 then some 1
  else none

/-- The candidates in the order of R46 and R72. -/
def bootOrder (s : State) : List Nat :=
  match bootCopy s with
  | some c => if le (bootRec s c) 8 1 = 0 then [0, 1, 2] else [1, 0, 2]
  | none => [0, 1, 2]

/-- Write the boot pointer copy the loader would not use, with SEQ one greater than that in use (R47). With neither copy valid, which is written and with
what is DESIGN CHOICE (log entry 86): copy 0, with SEQ 1, single I/O, 25 MHz. -/
def State.writeBootPtr (s : State) (slot : Nat) : State :=
  let cur := (bootCopy s).getD 0
  let r := bootRec s cur
  let used := (bootCopy s).isSome
  let seq := if used then (le r 4 4 + 1) % 2 ^ 32 else 1
  let io := if used then le r 0xA 1 else 0
  let clk := if used then le r 0xB 1 else 1
  let body := leBytes 4 0x50425856 ++ leBytes 4 seq ++ leBytes 1 slot ++ [0] ++ leBytes 1 io ++ leBytes 1 clk ++ List.replicate 16 0
  let rec_ := body ++ leBytes 4 (crc32 body)
  let base := 0x10000 * (if used then 1 - cur else 0)
  let cleared := SMap.keep (fun a => ¬ (base ≤ a ∧ a < base + 0x10000)) s.img.flash
  { s with img := { s.img with flash := SMap.setAll (fun _ => 0xFF) cleared ((List.range 32).zip rec_ |>.map (fun e => (base + e.1, e.2))) } }

/-! ### Image events -/

/-- An image event: IMAGE_VER in AUX; `IMG.STATUS`, slot, reason and the first 32 bytes of the image hash (R92, R439). -/
def State.imgEvent (s : State) (type : EvType) (ver slot reason : Nat) (hash : List Byte) : State :=
  s.post Src.image { type := type, aux := ver,
                     payload := [(s.rd IMG.STATUS).toNat, slot, reason] ++ (List.range 8).map (fun k => ofLe ((hash.drop (4 * k)).take 4)) }

/-- The hash of the image that runs, and its version. -/
def activeHash (s : State) : List Byte :=
  match s.img.active with
  | some i => i.hash
  | none => []

/-- The slot that STAGE verifies: B while A is active, else A (log entry 40). -/
def inactiveSlot (s : State) : Nat := if s.get IMG.STATUS_ACTIVE_SLOT = 0 then 1 else 0

/-- The hash of the staged image. -/
def stagedHash (s : State) : List Byte :=
  match s.img.staged with
  | some (i, _, _) => i.hash
  | none => []

/-! ### Failures -/

/-- OFFENDER of a register (R554). -/
def offReg (off : Nat) : Nat := off

/-- OFFENDER of a place in an image section (R554). -/
def offSec (sec idx : Nat) : Nat := idx % 2 ^ 24 + 2 ^ 24 * sec + 2 ^ 31

/-- A failure at a place in a section. -/
def failAt (reason sec idx : Nat) : Fail := ⟨reason, offSec sec idx⟩

/-- A format error (R51): IMAGE_SIG. -/
def fmtAt (sec idx : Nat) : Fail := failAt 0x12 sec idx

/-- The first failure of a list of tests, each true where it fails. -/
def firstFail : List (Bool × Fail) → Option Fail
  | [] => none
  | (b, f) :: l => if b then some f else firstFail l

/-- The first answer of a list. -/
def firstSome {α : Type} : List (Option α) → Option α
  | [] => none
  | some a :: _ => some a
  | none :: l => firstSome l

/-! ### Section formats -/

/-- Entries of a section's content, each `size` bytes. -/
def entriesOf (size count : Nat) (c : List Byte) : List (List Byte) := (List.range count).map (fun i => (c.drop (size * i)).take size)

/-- A value in `lo` to `hi`, bounds included. -/
def within (v lo hi : Nat) : Bool := lo ≤ v && v ≤ hi

/-- A PortID that R13 reserves; 128 to 255 is a format error instead. -/
def reservedPort (n : Nat) : Bool := within n 96 111 || within n 116 119 || within n 122 127

/-- Entry size of a section type (R52); 0 for GATE_LIST. -/
def entrySize (ty : Nat) : Nat := ([0, 16, 24, 8, 8, 24, 32, 32, 8, 40, 0, 12, 24, 16, 16, 8, 8][ty]?).getD 0

/-- Largest entry count of a section type (R52). -/
def maxEntries (ty : Nat) : Nat :=
  ([0, 100, 32, 102, 4096, 8192, 4096, 2048, 2047, 4096, 100, 64, 16, 1, 1, 344, 16384][ty]?).getD 0

/-- Whether an entry of a section type is a format error (R51). -/
def entryBad (ty : Nat) (e : List Byte) : Bool :=
  let b := fun (o : Nat) => le e o 1
  let h := fun (o : Nat) => le e o 2
  let w := fun (o : Nat) => le e o 4
  match ty with
  | 1 =>
    let fab := within (b 0) 112 115
    b 0 ≥ 128 || within (b 0) 120 121 || b 1 > 31 || b 2 > 7 || b 3 > 7 || b 4 > 4 || (fab && (b 1 ≠ 0 || b 3 ≠ 0 || b 5 ≠ 0)) || b 5 > 6 ||
      (b 0 < 96 && b 5 = 0) || b 6 > 3 || within (b 7) 16 0xFE || b 8 > 63 || b 9 ≠ 0 || within (h 0xA) 32 0xFFFE || w 0xC ≠ 0
  | 2 => b 0 > 31 || b 1 ≥ 128 || h 2 > 0xFFF || h 0x12 ≠ 0 || w 0x14 ≠ 0
  | 3 => b 0 > 3 || (b 0 ≥ 2 && b 1 ≠ 0) || b 1 ≥ 128 || h 2 ≠ 0 || w 4 ≥ 64
  | 4 => h 0 > 0xFFF || b 2 ≥ 128 || b 3 > 1
  | 5 => h 0x10 ≥ 0x1000 || b 0x13 / 8 % 16 ≠ 0 || w 0x14 ≠ 0
  | 6 => b 0 > 31 || b 1 ≥ 128 || h 6 ≠ 0
  | 7 => b 0 > 31 || b 1 > 1 || h 2 > 0x7FF || b 4 ≥ 128 || b 5 > 7 || h 6 ≠ 0
  | 8 => h 0 > 0x7FF || within (b 2) 4 0xFE || within (b 3) 4 0xFE || b 4 > 7 || le e 5 3 ≠ 0
  | 9 => h 0 > 4095 || b 2 ≥ 128 || b 3 > 7 || h 4 > 0xFFF || b 6 > 1 || b 7 ≠ 0 || le e 0x20 8 ≠ 0
  | 11 => b 0 > 63 || b 1 > 2 || within (b 2) 8 0xFE || b 3 ≠ 0 || h 4 ≥ 128 || h 6 ≥ 128 || h 8 ≥ 128 || h 0xA ≠ 0
  | 12 => b 0xB > 3 || within (b 0xE) 128 0xFE || le e 0xF 9 ≠ 0
  | 13 => b 0 > 1 || b 1 > 3 || b 2 > 1 || b 3 > 1 || le e 4 12 ≠ 0
  | 14 =>
    let d := signedOf 32 (w 4)
    b 0 > 2 || b 1 > 1 || b 2 > 1 || b 3 > 4 || (b 0 ≠ 1 && b 3 ≠ 0) || d > 10000 || d < -10000 || w 8 > 10000 || w 0xC ≠ 0
  | 15 => b 1 ≠ 0 || b 5 ≠ 0
  | 16 => w 0 % 4 ≠ 0
  | _ => false

/-- Number a list from 0. -/
def numbered {α : Type} (l : List α) : List (Nat × α) := (List.range l.length).zip l

/-- The GATE_LIST records of a content of `count` records (R62), each with whether it is a format error (R51), or none where their lengths do
not sum to LENGTH. -/
def gateRecords : Nat → List Byte → Option (List (Bool × GateEnt))
  | 0, c => if c = [] then some [] else none
  | k + 1, c =>
    let n := le c 2 2
    if c.length < 24 + 8 * n then none
    else
      let es := (entriesOf 8 n (c.drop 24)).map (fun e => (le e 7 1, le e 0 7))
      (gateRecords k (c.drop (24 + 8 * n))).map (fun l => (decide (le c 0 1 ≥ 128) || decide (le c 1 1 ≠ 0), ⟨le c 0 1, le c 4 4, le c 8 8, le c 16 8, es⟩) :: l)

/-- A section's content taken into the tables (R53 to R68). -/
def takeSection (t : Tables) (ty count : Nat) (c : List Byte) : Tables :=
  let es := entriesOf (entrySize ty) count (if ty = 9 then c.drop 16 else c)
  match ty with
  | 1 => { t with lanes := numbered (es.map (fun e => ⟨le e 0 1, le e 1 1, le e 2 1, le e 3 1, le e 4 1, le e 5 1, le e 6 1, le e 7 1,
            le e 8 1, le e 0xA 2⟩)) }
  | 2 => { t with parts := numbered (es.map (fun e => ⟨le e 0 1, le e 1 1, le e 2 2, le e 4 12, le e 0x10 1, le e 0x11 1⟩)) }
  | 3 => { t with privs := numbered (es.map (fun e => ⟨le e 0 1, le e 1 1, le e 4 4⟩)) }
  | 4 => { t with colours := numbered (es.map (fun e => ⟨le e 0 2, le e 2 1, le e 3 1, le e 4 2, le e 6 2⟩)) }
  | 5 => { t with regions := numbered (es.map (fun e => ⟨le e 0 8, le e 8 8, le e 0x10 2, le e 0x12 1, le e 0x13 1⟩)) }
  | 6 => { t with binds := numbered (es.map (fun e => ⟨le e 0 1, le e 1 1, le e 2 2, le e 4 2, le e 8 8, le e 0x10 8, le e 0x18 8⟩)) }
  | 7 => { t with windows := numbered (es.map (fun e => ⟨le e 0 1, le e 1 1, le e 2 2, le e 4 1, le e 5 1, le e 8 8, le e 0x10 8,
            le e 0x18 8⟩)) }
  | 8 => { t with routes := numbered (es.map (fun e => ⟨le e 0 2, le e 2 1, le e 3 1, le e 4 1⟩)) }
  | 9 => { t with prefix_ := some (le c 0 1, le c 4 4),
                  subs := numbered (es.map (fun e => ⟨le e 0 2, le e 2 1, le e 3 1, le e 4 2, le e 6 1, le e 8 4, le e 0xC 4, le e 0x10 8,
                    le e 0x18 8⟩)) }
  | 10 => { t with gates := numbered (((gateRecords count c).getD []).map Prod.snd) }
  | 11 => { t with faults := numbered (es.map (fun e => ⟨le e 0 1, le e 1 1, le e 2 1, le e 4 2, le e 6 2, le e 8 2⟩)) }
  | 12 => { t with slots := numbered (es.map (fun e => ⟨le e 0 1, le e 1 1, le e 2 2, le e 4 2, le e 6 2, le e 8 2, le e 0xA 1, le e 0xB 1,
            le e 0xC 2, le e 0xE 1⟩)) }
  | 13 => { t with twin := numbered (es.map (fun e => ⟨le e 0 1, le e 1 1, le e 2 1, le e 3 1⟩)) }
  | 14 => { t with time := numbered (es.map (fun e => ⟨le e 0 1, le e 1 1, le e 2 1, le e 3 1, signedOf 32 (le e 4 4), le e 8 4⟩)) }
  | 15 => { t with owners := numbered (es.map (fun e => ⟨le e 0 1, le e 2 2, le e 4 1, le e 6 2⟩)) }
  | 16 => { t with defaults := numbered (es.map (fun e => (le e 0 4, le e 4 4))) }
  | _ => t

/-- Where the first byte that is not 0 stands. -/
def firstNonzero (bs : List Byte) : Nat := bs.findIdx (· ≠ 0)

/-- The LENGTH of a section that its type and COUNT give (R52); for GATE_LIST the least one, its records being of variable length. -/
def sectionLen (ty count : Nat) : Nat := if ty = 10 then 24 * count else entrySize ty * count + (if ty = 9 then 16 else 0)

/-- The first format error inside a section of `count` entries: the SUBSCRIBER prefix, its entries. `i` is its directory index: a GATE_LIST whose
records do not make up LENGTH is an error of that directory field (R62). -/
def sectionBad (i ty count : Nat) (c : List Byte) : Option Fail :=
  if ty = 10 then
    match gateRecords count c with
    | none => some (fmtAt 0x7E (64 * i + 8))
    | some l => firstFail ((numbered l).map (fun e => (e.2.1, fmtAt 10 e.1)))
  else
    let body := if ty = 9 then c.drop 16 else c
    firstFail ([(decide (ty = 9) && (!within (le c 0 1) 18 26 || le c 1 3 ≠ 0 || !within (le c 4 4) 1 1000000 || le c 8 8 ≠ 0), fmtAt 9 0xFFFFFD)] ++
      (numbered (entriesOf (entrySize ty) count body)).map (fun e => (entryBad ty e.2, fmtAt ty e.1)))

/-! ### The whole image -/

/-- A directory entry (R49). -/
structure DirEnt where
  ty   : Nat
  size : Nat
  off  : Nat
  len  : Nat
  count : Nat
  hash : List Byte

/-- The directory entries of an image. -/
def directory (m : List Byte) : List DirEnt :=
  (List.range (le m 0xF 1)).map (fun i =>
    let e := (m.drop (64 + 64 * i)).take 64
    ⟨le e 0 1, le e 2 2, le e 4 4, le e 8 4, le e 0xC 4, (e.drop 0x10).take 48⟩)

/-- The first format error of the header (R48). -/
def headerBad (m : List Byte) (room : Nat) : Option Fail :=
  firstFail [(decide (le m 0 4 ≠ 0x50535856), fmtAt 0 0), (decide (le m 4 2 ≠ 1), fmtAt 0 4), (decide (le m 6 2 ≠ 0x40), fmtAt 0 6),
    (decide (le m 0xC 1 > 64), fmtAt 0 0xC), (!within (le m 0xE 1) 1 5, fmtAt 0 0xE), (!within (le m 0xF 1) 1 16, fmtAt 0 0xF),
    (decide (room < le m 0x10 4), fmtAt 0 0x10), (decide (le m 0x14 4 > 3), fmtAt 0 0x14),
    (decide (le m 0x18 40 ≠ 0), fmtAt 0 (0x18 + firstNonzero (m.drop 0x18)))]

/-- The first format error of the directory (R49 to R52); `prev` is the last type and `next` where the section must begin. -/
def directoryBad (raw : List Byte) : Nat → Nat → Nat → List DirEnt → Option Fail
  | _, _, _, [] => none
  | i, prev, next, d :: ds =>
    let o := 64 * i
    match firstFail [(!(within d.ty 1 16) || d.ty ≤ prev || (i = 0 && d.ty ≠ 1), fmtAt 0x7E o), (decide (le (raw.drop o) 1 1 ≠ 0), fmtAt 0x7E (o + 1)),
        (decide (d.size ≠ entrySize d.ty), fmtAt 0x7E (o + 2)), (decide (d.off ≠ next), fmtAt 0x7E (o + 4)),
        (if d.ty = 10 then decide (d.len < sectionLen 10 d.count) else decide (d.len ≠ sectionLen d.ty d.count), fmtAt 0x7E (o + 8))] with
    | some f => some f
    | none => directoryBad raw (i + 1) d.ty (roundUp (d.off + d.len) 64) ds

/-- Where the signature block begins: the first 64-byte boundary after the last section. -/
def sigOffset (ds : List DirEnt) (n : Nat) : Nat :=
  match ds.getLast? with
  | some d => roundUp (d.off + d.len) 64
  | none => 64 + 64 * n

/-- The bytes of an image in region `k`: the header, and where its fields are right (R48) the directory and all TOTAL_LEN bytes. -/
def imageBytes (s : State) (k : Nat) : List Byte :=
  let h := flashBytes s (slotBase k).1 64
  match headerBad h (slotBase k).2 with
  | some _ => h
  | none => flashBytes s (slotBase k).1 (max (le h 0x10 4) (64 + 64 * le h 0xF 1))

/-- Format tests of a whole image (R51, step 1 of R78), then its tables. -/
def parseImage (m : List Byte) (room : Nat) : Except Fail Image :=
  match headerBad m room with
  | some f => .error f
  | none =>
    let ds := directory m
    let n := ds.length
    let sig := sigOffset ds n
    let content := fun (d : DirEnt) => (m.drop d.off).take d.len
    let sections := firstSome ((numbered ds).map (fun e =>
      let d := e.2
      firstSome [sectionBad e.1 d.ty d.count (content d),
        firstFail [(((m.drop (d.off + d.len)).take (roundUp (d.off + d.len) 64 - (d.off + d.len))).any (· ≠ 0), fmtAt d.ty 0xFFFFFE)]]))
    let b := m.drop sig
    match firstSome [directoryBad (m.drop 64) 0 0 (64 + 64 * n) ds, firstFail [(decide (le m 0x10 4 ≠ sig + 200), fmtAt 0 0x10)], sections,
        firstFail [(decide (le b 0 4 ≠ 0x47535856), fmtAt 0x7F 0), (decide (le b 4 1 > 1), fmtAt 0x7F 4), (decide (le b 5 3 ≠ 0), fmtAt 0x7F (5 + firstNonzero (b.drop 5)))]] with
    | some f => .error f
    | none =>
      .ok { version := le m 8 4, arv := le m 0xC 1, flags := le m 0x14 4, keySlot := le b 4 1, keyHash := sha384 ((b.drop 8).take 96),
            hash := sha384 m, tables := ds.foldl (fun t d => takeSection t d.ty d.count (content d)) { mode := le m 0xE 1, present := ds.map DirEnt.ty } }

/-- Key, section hashes and signature in the order of R70. -/
def verifyImage (s : State) (m : List Byte) (i : Image) : Option Fail :=
  let ds := directory m
  let sig := sigOffset ds ds.length
  let b := m.drop sig
  let key := SMap.get (fun _ => none) s.fuses.keys i.keySlot
  firstFail ([(key ≠ some i.keyHash && key.isSome, fmtAt 0x7F 0), (key.isNone || s.fuses.revoked.contains i.keySlot, fmtAt 0x7F 0)] ++
    ds.map (fun d => (sha384 ((m.drop d.off).take d.len) != d.hash, fmtAt d.ty 0xFFFFFF)) ++
    [(!ecdsaVerify ((b.drop 8).take 96) ((b.drop 0x68).take 96) (m.take (sig + 0x68)), fmtAt 0x7F 0)])

/-- Stepping and anti-rollback (R72 step 4): IMAGE_STEPPING, IMAGE_ROLLBACK. -/
def steppingArv (s : State) (m : List Byte) : Option Fail :=
  firstFail [(decide (le m 0xD 1 ≠ 0xB0), failAt 0x14 0 0xD), (decide (le m 0xC 1 < s.fuses.arv), failAt 0x13 0 0xC)]

end Sys2Proof.Machine
end

