-- ==== Sys2Proof/Machine/TfpBytes.lean ====
section
/-! DEFINITION. TFP headers and bodies as bytes (R309 to R313, R330, R364). -/
namespace Sys2Proof.Machine
open Sys2Proof

/-- Pack fields given as (width, value), most significant first. -/
def pack (l : List (Nat × Nat)) : Nat := l.foldl (fun a e => a * 2 ^ e.1 + e.2 % 2 ^ e.1) 0

/-- Bits `hi` down to `lo` of a number. -/
def bitsHiLo (v hi lo : Nat) : Nat := v / 2 ^ lo % 2 ^ (hi + 1 - lo)

/-! ### TFP content (R309 to R313) -/

/-- The common header: 16 bytes, most significant first (R309). -/
def hdrBytes (h : TfpHdr) : List Byte :=
  beBytes 16 (pack [(8, h.kind), (3, h.tc), (1, bit h.poison), (4, h.hops), (11, h.dstDev), (11, h.srcDev), (7, h.dstPort), (7, h.srcPort),
    (12, h.colour), (25, h.gen), (14, h.xid), (4, h.xidGen), (11, h.window), (10, 0)])

/-- The request body: 24 bytes (R311). -/
def reqBytes (r : ReqBody) : List Byte :=
  let p := r.pasid.getD ⟨0, false, false⟩
  beBytes 24 (pack [(4, r.op), (3, r.tlpTc), (1, bit r.ido), (1, bit r.ro), (1, bit r.ns), (2, r.at_), (10, r.lenDw), (4, r.firstBe), (4, r.lastBe),
    (1, bit r.pasid.isSome), (20, p.val), (1, bit p.pmr), (1, bit p.er), (8, r.msgCode), (3, r.msgRoute), (64, r.addr), (16, r.rid), (14, r.tag),
    (34, 0)])

/-- The answer body: 8 bytes (R312). -/
def ansBytes (a : AnsBody) : List Byte :=
  beBytes 8 (pack [(3, a.status), (13, a.byteCount), (7, a.lowerAddr), (10, a.lenDw), (16, a.cplRid), (4, a.cause), (11, 0)])

/-- The notice body: 16 bytes (R313). -/
def noticeBytes (n : NoticeBody) : List Byte := beBytes 16 (pack [(11, n.window), (4, n.cause), (16, n.count), (33, 0), (64, n.addr)])

/-- The sideband body: 8 bytes; its STATE is bits [40:12] (R330). -/
def sbBytes (b : SbBody) : List Byte := beBytes 8 (pack [(7, b.port), (16, b.seq), (29, b.state), (12, 0)])

/-- The RMA header: 16 bytes (R364). -/
def rmaHdrBytes (h : RmaHdr) : List Byte :=
  beBytes 16 (pack [(10, h.dstConn), (10, h.srcConn), (1, h.phase), (1, bit h.ro), (2, 0), (24, h.psn), (64, h.counter), (16, 0)])

/-- The TFP content of a packet. -/
def tfpBytes (p : Tfp) : List Byte :=
  hdrBytes p.hdr ++
    (match p.body with
     | .req r d => reqBytes r ++ d
     | .ans a d => ansBytes a ++ d
     | .notice n => noticeBytes n
     | .sideband b => sbBytes b
     | .rma h c t => rmaHdrBytes h ++ c ++ t
     | .msg c => c)

end Sys2Proof.Machine
end

