-- ==== Sys2Proof/Machine/Packets.lean ====
section
/-! DEFINITION. Packets in the core: lengths and cells (R149), crossbar ports (R147, R148), routes (R315), placing a packet in a
queue, and the answers of the bridge (R322, R326). -/
namespace Sys2Proof.Machine
open Sys2Proof

/-! ### Ports and identifiers -/

/-- The crossbar port of a PortID (R147); the even member of a pair (R148). -/
def xbarOf (s : State) (n : Nat) : Nat :=
  if n < 96 then s.get (PORT.CFG_OCTET n)
  else if 112 ≤ n ∧ n ≤ 115 then 32 + 2 * (n - 112)
  else if n = 121 then 41 else 40

/-- The ingress buffer of a PortID, in IBUF order (R174): its octet, or 32 + bundle. -/
def ibufOf (s : State) (n : Nat) : Nat := if n < 96 then s.get (PORT.CFG_OCTET n) else 32 + (n - 112)

/-- The counter page on which the ends of a PortID are counted (R489, R490): port, bundle, or the device page of RMA. -/
def pageOf (n : Nat) : Nat := if n < 96 then n else if 112 ≤ n ∧ n ≤ 115 then 96 + (n - 112) else 136

/-- `PORT[n].STATUS.LINK_UP` for a PCIe port. -/
def linkUp (s : State) (n : Nat) : Bool := s.flag (PORT.STATUS_LINK_UP n)

/-- The device's own DevID. -/
def ownDev (s : State) : Nat := s.get GLB.DEVID_DEVID

/-- A bundle is usable while its link layer is ACTIVE, RESYNC or RETRAIN and it is not DRAINING, DRAINED or shed (R315); the twin link is
not usable to a side in DEGRADED (R408). -/
def bundleUsable (s : State) (b : Nat) : Bool :=
  let st := s.get (FBL.LL_STATUS_STATE b)
  (st = 2 || st = 3 || st = 4) && s.get (BRG.BUNDLE_DRAIN_STATUS_STATE b) = 0 && !s.flag (BRG.BUNDLE_DRAIN_STATUS_SHED b) &&
    !(s.mode = 6 && s.twin.enable && s.twin.bundle = b)

/-- The bundle a packet for DevID `d` takes: PRIMARY if usable, else ALTERNATE if usable, else none (R315); a route lost to an ECC
error acts as no route (R333). -/
def routeBundle (s : State) (d : Nat) : Option Nat :=
  let pr := s.get (BRG.ROUTE_PRIMARY d)
  let al := s.get (BRG.ROUTE_ALTERNATE d)
  if s.brg.deadRoute.contains d then none
  else if pr < 4 ∧ bundleUsable s pr then some pr
  else if al < 4 ∧ bundleUsable s al then some al
  else none

/-- The current generation of table `t` (guard, binding, window, route, schedule are 0, 2, 1, 3, 4 in `GLB.GEN`'s order of fields:
guard, window, binding, route, schedule). -/
def genCur (s : State) (t : Nat) : Nat := fieldOf (s.rd GLB.GEN) (4 * t) 4

/-- A generation stamp for the tables a packet consults (R22), in the order guard, window, binding, route, schedule of `GLB.GEN`. -/
def stamp (s : State) (guard window binding route sched : Bool) : List (Option Nat) :=
  [(guard, 0), (window, 1), (binding, 2), (route, 3), (sched, 4)].map (fun e => if e.1 then some (genCur s e.2) else none)

/-- Whether the binding, and whether the window table is consulted in the present mode (R22). -/
def bindMode (s : State) : Bool := decide (2 ≤ s.mode ∧ s.mode ≤ 6)
def winMode (s : State) : Bool := decide (3 ≤ s.mode ∧ s.mode ≤ 6)

/-- The generations a request stamped here holds (R22): the guard's; the bindings' in modes 2 to 6; the windows' in modes 3 to 6; the route's when it
leaves as a TFP packet; the schedule's. -/
def reqStamp (s : State) (route : Bool) : List (Option Nat) := stamp s true (winMode s) (bindMode s) route true

/-- The generations a completion holds (R22): the bindings' in modes 2 to 6, and the schedule's. -/
def cplStamp (s : State) : List (Option Nat) := stamp s false false (bindMode s) false true

/-- The generations a TFP packet holds by its channel (R22): a request's, a completion's, or those of a management message; with the route's. -/
def tfpStamp (s : State) (c : Chan) : List (Option Nat) :=
  match c with
  | .req => reqStamp s true
  | .rsp => stamp s false false (bindMode s) true true
  | .mgt => stamp s false false false true true

/-- The 25-bit GEN field of R149 and R309 (guard, binding, window, route, schedule from the most significant five bits down). -/
def genField (g : List (Option Nat)) : Nat :=
  let f := fun (i : Nat) => match (g[i]?).getD none with
    | some v => 16 + v % 16
    | none => 0
  f 0 * 2 ^ 20 + f 2 * 2 ^ 15 + f 1 * 2 ^ 10 + f 3 * 2 ^ 5 + f 4

/-! ### Lengths -/

/-- Whether a TLP's header is 4 DW: a memory address above 4 GiB, or a message. -/
def tlpFourDw (t : Tlp) : Bool :=
  match t.kind with
  | .msg => true
  | .cfgRd | .cfgWr | .cpl | .ioRd | .ioWr => false
  | _ => 2 ^ 32 ≤ t.addr

/-- L of a TLP: header, prefixes, payload and ECRC (R149). -/
def tlpBytes (t : Tlp) : Nat :=
  (if tlpFourDw t then 16 else 12) + (if t.pasid.isSome then 4 else 0) + t.prefixes.length + t.extra + t.data.length

/-- The cells of `l` bytes (R149). -/
def cellsOf (l : Nat) : Nat := ceilDiv l 64

/-- The KIND of a TLP: 0 posted, 1 non-posted, 2 completion (R149). -/
def tlpCls (t : Tlp) : Nat :=
  match t.kind with
  | .memWr | .msg => 0
  | .cpl => 2
  | _ => 1

/-- Bytes of a TFP body: R311 to R313, R330, R364. -/
def tfpBodyBytes : TfpBody → Nat
  | .req _ d => 24 + d.length
  | .ans _ d => 8 + d.length
  | .notice _ => 16
  | .sideband _ => 8
  | .rma _ c t => 16 + c.length + t.length
  | .msg c => c.length

/-- The flits of a packet whose TFP content is 16 + body bytes long (R275): 8 bytes of link header and 4 of CRC go with it. -/
def tfpFlits (p : Tfp) : Nat := ceilDiv (16 + tfpBodyBytes p.body + 12) 32

/-- The channel and NP flag of a TFP packet by its KIND (R310, R363). -/
def tfpChan (kind : Nat) : Chan × Bool :=
  if kind = 0x01 then (.req, false)
  else if kind = 0x02 ∨ kind = 0x03 ∨ kind = 0x20 ∨ kind = 0x21 then (.req, true)
  else if kind = 0x04 ∨ kind = 0x05 ∨ kind = 0x06 ∨ kind = 0x07 ∨ kind = 0x22 ∨ kind = 0x23 ∨ kind = 0x24 then (.rsp, false)
  else (.mgt, false)

/-- The descriptor KIND of a TFP packet: posted, non-posted, completion or management (R149). -/
def tfpCls (c : Chan) (np : Bool) : Nat :=
  match c with
  | .req => if np then 1 else 0
  | .rsp => 2
  | .mgt => 3

/-! ### Placing packets -/

/-- The crossbar port whose VOQs hold a packet: its ingress, or 41 for multicast and mirror copies (R164). -/
def inXbar (s : State) (p : Pkt) : Nat := if p.copy = 1 ∨ p.copy = 2 then 41 else xbarOf s p.ingress

/-- The sampler of the queue a packet stands in: its subscriber's pre-queue or its VOQ (R196). -/
def samplerOf (s : State) (p : Pkt) : Option Nat :=
  match p.place, p.sub with
  | .pre, some i => some (14112 + i)
  | .voq, _ | .tagWait, _ => some (336 * inXbar s p + 8 * p.dest + p.tc)
  | _, _ => none

/-- The depth of the queue of sampler `k`, in cells. -/
def depthOf (s : State) (k : Nat) : Nat :=
  (s.core.pkts.filter (fun q => samplerOf s q = some k)).foldl (fun n q => n + q.cells) 0

/-- Change one sampler's record. -/
def State.onSampler (s : State) (k : Nat) (f : Sampler → Sampler) : State :=
  { s with sched := { s.sched with samplers := SMap.modify (fun _ => {}) s.sched.samplers k f } }

/-- The cells in use in ingress buffer `i`, in IBUF order (R176); the copies of a broadcast message share theirs (R166). -/
def ibufUsed (s : State) (i : Nat) : Nat :=
  (s.core.pkts.filter (fun q => q.place ≠ .egress ∧ q.place ≠ .stage ∧ q.copy = 0 ∧ (q.ingress < 96 ∨ (112 ≤ q.ingress ∧ q.ingress ≤ 115)) ∧
    ibufOf s q.ingress = i)).foldl (fun n q => n + q.cells) 0 +
  (((s.core.pkts.filter (fun q => q.place = .voq ∧ q.copy = 3 ∧ ibufOf s q.ingress = i)).map (fun q => (q.parent, q.cells))).dedup).foldl
    (fun n e => n + e.2) 0

/-- The ports placed in octet `k` (R150); an x16 port stands in the even one of its two. -/
def octetPorts (s : State) (k : Nat) : List Nat := (List.range 96).filter (fun n => s.get (PORT.CFG_ROLE n) < 3 && s.get (PORT.CFG_OCTET n) = k)

/-- How many octets the buffer of octet `k` spans. -/
def octetSpan (s : State) (k : Nat) : Nat := if (octetPorts s k).any (fun n => s.get (PORT.CFG_WIDTH n) = 4) then 2 else 1

/-- The guaranteed share of port `n` as MIN_CELLS gives it (R150). -/
def shareFrom (s : State) (n : Nat) : Nat :=
  let k := s.get (PORT.CFG_OCTET n)
  let m := s.get (CORE.PORTBUF_MIN_CELLS n)
  if m ≠ 0 then m else 16256 * octetSpan s k / (2 * (octetPorts s k).length)

/-- The share in effect: that sampled at flow-control initialisation; before it, the one MIN_CELLS gives (log entry 52). -/
def shareOf (s : State) (n : Nat) : Nat := if s.get (CORE.PORTBUF_SHARE n) ≠ 0 then s.get (CORE.PORTBUF_SHARE n) else shareFrom s n

/-- The free cells of the shared pool of ingress buffer `i`: 0 for a bundle and for an octet without ports (R151, R176). -/
def poolFree (s : State) (i : Nat) : Nat :=
  let ports := octetPorts s i
  if 32 ≤ i ∨ ports = [] then 0
  else
    let here := s.core.pkts.filter (fun q => q.pooled && decide (q.place ≠ .egress) && decide (q.place ≠ .stage) && ibufOf s q.ingress = i)
    let used := (here.filter (fun q => q.copy ≠ 3)).foldl (fun n q => n + q.cells) 0 +
      (((here.filter (fun q => q.copy = 3)).map (fun q => (q.parent, q.cells))).dedup).foldl (fun n e => n + e.2) 0
    16256 * octetSpan s i - (ports.map (shareOf s)).sum - used

/-- What a packet's entry into a queue records: PEAK_DEPTH of its sampler (R197), the peak of its ingress buffer (R176). -/
def State.noteEnter (s : State) (p : Pkt) : State :=
  let s := match samplerOf s p with
    | some k => s.onSampler k (fun r => { r with peakDepth := max r.peakDepth (depthOf s k) })
    | none => s
  if p.ingress < 96 ∨ (112 ≤ p.ingress ∧ p.ingress ≤ 115) then
    let i := ibufOf s p.ingress
    if s.get (CORE.IBUF_PEAK_PEAK i) < ibufUsed s i then s.set (CORE.IBUF_PEAK_PEAK i) (ibufUsed s i) else s
  else s

/-- What a packet's leaving a queue records: PEAK_SOJ of its sampler (R197). -/
def State.noteLeave (s : State) (p : Pkt) : State :=
  match samplerOf s p with
  | some k => s.onSampler k (fun r => { r with peakSoj := sat 32 (max r.peakSoj (s.time.ft - p.since)) })
  | none => s

/-- Whether a packet is accounted to its octet's shared pool: it entered at a PCIe port, the pool has room (R151), and it draws on no reserved cells, as one in a
management queue does (R154). The copies of a broadcast Message share the cells of their original (R166). -/
def poolTakes (s : State) (p : Pkt) : Bool :=
  if p.copy = 3 then p.pooled else
  decide (p.ingress < 96) && p.copy = 0 && decide (p.place ≠ .mgmtq) && decide (p.place ≠ .egress) && decide (p.place ≠ .stage) && decide (p.cells ≤ poolFree s (ibufOf s p.ingress))

/-- Data credits of a packet: one for each 16 bytes of its payload. -/
def dataCredits (p : Body) : Nat :=
  match p with
  | .tlp t => ceilDiv t.data.length 16
  | .tfp q _ _ => match q.body with
    | .req _ d => ceilDiv d.length 16
    | _ => 0

/-- The credits that port `n` advertises for posted (0), non-posted (1) or completion (2) TLPs, header and data: half, a quarter and a quarter of its share, one
header per two cells and four data per cell, capped at what the scale can express (R151). The scale is PRESUMED to be that of the Base Specification (log entry 114). -/
def creditsOf (s : State) (n cls : Nat) : Nat × Nat :=
  let cells := shareOf s n / (if cls = 0 then 2 else 4)
  let scale := if s.flag (PORT.STATUS_FLIT n) ∨ 4 ≤ s.get (PORT.STATUS_CUR_RATE n) then 16 else 1
  (min (127 * scale) (cells / 2), min (2047 * scale) (4 * cells))

/-- Whether a packet holds credits of port `n`: its cells are in the ingress buffer and accounted neither to the shared pool (R151) nor to the reserved
cells of the management queues (R154). -/
def holdsCredit (n : Nat) (q : Pkt) : Bool :=
  q.ingress = n && (q.copy = 0 || q.copy = 3) && !q.pooled && decide (q.place ≠ .egress) && decide (q.place ≠ .stage) && decide (q.place ≠ .mgmtq)

/-- Whether the partner of port `n` has credits for a TLP: those advertised less those that packets hold (R151, R152). -/
def creditFor (s : State) (n : Nat) (t : Tlp) : Bool :=
  let held := s.core.pkts.filter (fun q => holdsCredit n q && q.kind = tlpCls t)
  let heads := (held.filter (fun q => q.copy = 0)).length + (((held.filter (fun q => q.copy = 3)).map (fun q => q.parent)).dedup).length
  let data := (held.filter (fun q => q.copy = 0)).foldl (fun a q => a + dataCredits q.body) 0 +
    (((held.filter (fun q => q.copy = 3)).map (fun q => (q.parent, dataCredits q.body))).dedup).foldl (fun a e => a + e.2) 0
  decide (heads < (creditsOf s n (tlpCls t)).1) && decide (data + dataCredits (.tlp t) ≤ (creditsOf s n (tlpCls t)).2)

/-- Add a packet to the core, giving it the next identity. -/
def State.addPkt (s : State) (p : Pkt) : State :=
  let q := { p with id := s.core.nextId, since := s.time.ft, pooled := poolTakes s p }
  ({ s with core := { s.core with pkts := s.core.pkts ++ [q], nextId := s.core.nextId + 1 } }).noteEnter q

/-- Remove a packet. -/
def State.dropPkt (s : State) (id : Nat) : State :=
  let s := match s.core.pkts.find? (fun p => p.id = id) with
    | some p => s.noteLeave p
    | none => s
  { s with core := { s.core with pkts := s.core.pkts.filter (fun p => p.id ≠ id) } }

/-- The packets that came to their places before a packet did: the list is in the order of arrival at a place. -/
def ahead (s : State) (p : Pkt) : List Pkt := s.core.pkts.takeWhile (fun q => q.id ≠ p.id)

/-- Move a packet to another place, behind what is there. -/
def State.movePkt (s : State) (p : Pkt) (place : Place) : State :=
  let s := s.noteLeave p
  let q := { p with place := place, since := s.time.ft }
  ({ s with core := { s.core with pkts := s.core.pkts.filter (fun (x : Pkt) => x.id ≠ p.id) ++ [q] } }).noteEnter q

/-- Replace a packet's record. -/
def State.setPkt (s : State) (q : Pkt) : State :=
  { s with core := { s.core with pkts := s.core.pkts.map (fun p => if p.id = q.id then q else p) } }

/-- The packet with an identity. -/
def State.pkt? (s : State) (id : Nat) : Option Pkt := s.core.pkts.find? (fun p => p.id = id)

/-- The insertion serial of a port (R18). -/
def serialOf (s : State) (n : Nat) : Nat := if n < 96 then s.get (PORT.INSERTION_SERIAL n) else 0

/-- The generations a TLP that the switch itself makes holds (R22): it meets no guard. -/
def ownStamp (s : State) (t : Tlp) : List (Option Nat) := stamp s false (winMode s && tlpCls t ≠ 2) (bindMode s) false true

/-- A TLP as a packet bound for a PortID, from an ingress PortID, at a place. -/
def mkTlpPkt (s : State) (t : Tlp) (ingress egress : Nat) (origin : Origin) (place : Place) : Pkt :=
  { id := 0, body := .tlp t, dest := xbarOf s egress, egress := egress, tc := t.tc, kind := tlpCls t, ro := t.ro, colour := 0xFFF,
    gens := ownStamp s t, sub := none, ingress := ingress, cells := cellsOf (tlpBytes t),
    serial := serialOf s egress, place := place, origin := origin }

/-- The page on which drops on the fabric side are counted: the BRG device page (R489); index 0 counts them. -/
def brgPage : Nat := 135

/-- The generations of a TFP packet that begins here beside the bridged requests (R22): an RMA packet's content is no TLP. -/
def beginStamp (s : State) (kind : Nat) : List (Option Nat) :=
  if 0x20 ≤ kind then stamp s false false false true true else tfpStamp s (tfpChan kind).1

/-- The Relaxed Ordering bit of a TFP packet's descriptor: that of the TLP, or the hint of the RMA descriptor (R149, R344). -/
def tfpRo (p : Tfp) : Bool :=
  match p.body with
  | .req r _ => r.ro
  | .rma r _ _ => r.ro
  | _ => false

/-- Send a TFP packet toward its DST_DEVID on the bundle of its route (R315), with the generations stamped here in its header (R26); with no usable
bundle it is counted as NO_ROUTE and sent nowhere: answers and notices that end so produce nothing further (R327). -/
def State.sendTfp (s : State) (p : Tfp) (ingress : Nat) (origin : Origin) : State :=
  match routeBundle s p.hdr.dstDev with
  | some b =>
    let c := tfpChan p.hdr.kind
    let g := beginStamp s p.hdr.kind
    s.addPkt { id := 0, body := .tfp { p with hdr := { p.hdr with gen := genField g } } c.1 c.2, dest := 32 + 2 * b, egress := 112 + b, tc := p.hdr.tc,
               kind := tfpCls c.1 c.2, ro := tfpRo p, colour := p.hdr.colour, gens := g, sub := none, ingress := ingress,
               cells := cellsOf (32 * tfpFlits p), place := if c.1 = .mgt then .mgmtq else .voq, origin := origin }
  | none =>
    let s := s.addSat BRG.DROP_NO_ROUTE 1
    if p.hdr.kind = 0x06 ∨ p.hdr.kind = 0x07 then s.addSat BRG.LATE_NOTICE_LOST 1 else s

/-! ### Partition hierarchy -/

/-- The upstream port of a partition (R208). -/
def upstreamOf (s : State) (p : Nat) : Nat := s.get (PART.TABLE_CTRL_UPSTREAM p)

/-- A word of a switch function's configuration space; function 33·p + d. -/
def State.cfgRd (s : State) (fn dw : Nat) : Word := SMap.get (fun _ => 0) s.cfg (1024 * fn + dw)

/-- Set a word of a switch function's configuration space. -/
def State.cfgWr (s : State) (fn dw : Nat) (w : Word) : State := { s with cfg := SMap.set (fun _ => 0) s.cfg (1024 * fn + dw) w }

/-- The function number of partition p's upstream switch port. -/
def upFn (p : Nat) : Nat := 33 * p + 32

/-- The bus numbers the host gave partition p's upstream port: primary, secondary, subordinate (register 0x18 of a type 1 header). -/
def upBuses (s : State) (p : Nat) : Nat × Nat × Nat :=
  let w := s.cfgRd (upFn p) 6
  (fieldOf w 0 8, fieldOf w 8 8, fieldOf w 16 8)

/-- The Routing ID of partition p's upstream switch-port function. -/
def upRid (s : State) (p : Nat) : Nat := 256 * (upBuses s p).1

/-- The Routing ID of partition p's management function: device 0, function 0 of its internal bus (R465). -/
def mgmtRid (s : State) (p : Nat) : Nat := 256 * (upBuses s p).2.1

/-- The vDSP device number of port or bundle `n` in partition p (R209). -/
def vdspOf (s : State) (p n : Nat) : Option Nat :=
  (List.range 32).find? (fun d => s.get (PART.VDSP_KIND p d) ≠ 0 && s.get (PART.VDSP_PORTID p d) = n)

/-- The function number of a port's own switch-port function: its partition's upstream function, the vDSP of a member port, or, for a
shared port, one that only the mailbox reaches. -/
def portFn (s : State) (n : Nat) : Nat :=
  let p := s.get (PORT.CFG_PART n)
  if s.get (PORT.CFG_ROLE n) = 1 then upFn p
  else match (if s.flag (PORT.CFG_SHARED n) then none else vdspOf s p n) with
    | some d => 33 * p + d
    | none => 1056 + n

/-- The Requester ID of a port's own switch-port function: its device on the internal bus; device 0 of its primary bus for an upstream or shared port. -/
def portRid (s : State) (n : Nat) : Nat :=
  let p := s.get (PORT.CFG_PART n)
  if s.get (PORT.CFG_ROLE n) = 1 then upRid s p
  else match vdspOf s p n with
    | some d => 256 * (upBuses s p).2.1 + 8 * d
    | none => 256 * fieldOf (s.cfgRd (portFn s n) 6) 0 8

/-! ### Answers of the bridge -/

/-- The tag entry of an XID. -/
def State.tag? (s : State) (x : Nat) : Option TagEntry := SMap.get (fun _ => none) s.brg.tags x

/-- Set or free a tag entry. -/
def State.setTag (s : State) (x : Nat) (e : Option TagEntry) : State :=
  { s with brg := { s.brg with tags := SMap.set (fun _ => none) s.brg.tags x e } }

/-- Free a tag entry: its answer reservation and its place in `TAG_STATUS` go with it (R324). -/
def State.freeTag (s : State) (x : Nat) : State :=
  match s.tag? x with
  | none => s
  | some e =>
    let s := s.setTag x none
    let s := s.set BRG.RSP_BUDGET_USED (s.get BRG.RSP_BUDGET_USED - e.cells)
    if e.isOut then s.set BRG.TAG_STATUS_OUT_USED (s.get BRG.TAG_STATUS_OUT_USED - 1)
    else s.set BRG.TAG_STATUS_IN_USED (s.get BRG.TAG_STATUS_IN_USED - 1)

/-- A completion TLP. -/
def cplTlp (rid tag status tc cplRid byteCount lowerAddr : Nat) (data : List Byte) : Tlp :=
  { kind := .cpl, dest := rid, tag := tag, status := status, tc := tc, cplRid := cplRid, byteCount := byteCount,
    lowerAddr := lowerAddr, lenDw := data.length / 4, data := data }

/-- A BR_CPL, BR_WACK or BR_END answering the packet with header `h`: to its SRC_DEVID, with its XID and TFP TC (R326, R327). -/
def answerTfp (s : State) (kind : Nat) (h : TfpHdr) (a : AnsBody) (data : List Byte) (poison : Bool) : Tfp :=
  ⟨{ kind := kind, tc := h.tc, poison := poison, dstDev := h.srcDev, srcDev := ownDev s, dstPort := h.srcPort, srcPort := h.dstPort,
     colour := h.colour, gen := 0, xid := h.xid, xidGen := h.xidGen, window := h.window }, .ans a data⟩

/-- A BR_RWF notice of `count` failures toward the SRC_DEVID of `h` (R313, R322). -/
def noticeTfp (s : State) (h : TfpHdr) (cause count addr : Nat) : Tfp :=
  ⟨{ kind := 0x06, tc := h.tc, dstDev := h.srcDev, srcDev := ownDev s, dstPort := h.srcPort, srcPort := h.dstPort,
     colour := h.colour, window := h.window }, .notice ⟨h.window, cause, count, addr⟩⟩

/-- R322: a posted bridged write ended: add to the accumulator of its (SRC_DEVID, WINDOW), open one, or count the notice as lost when
all 64 are in use. The first failure of a window's 10 µs sends its notice at once. -/
def State.noticeFor (s : State) (h : TfpHdr) (cause addr : Nat) : State :=
  match s.brg.notices.find? (fun a => a.dev = h.srcDev ∧ a.window = h.window) with
  | some a =>
    { s with brg := { s.brg with notices := s.brg.notices.map (fun c =>
        if c.dev = h.srcDev ∧ c.window = h.window then
          (if a.count = 0 then { c with count := 1, cause := cause, addr := addr } else { c with count := sat 16 (c.count + 1) })
        else c) } }
  | none =>
    if 64 ≤ s.brg.notices.length then s.addSat BRG.LATE_NOTICE_LOST 1
    else
      let s := { s with brg := { s.brg with notices := s.brg.notices ++ [NoticeAcc.mk h.srcDev h.window 0 0 0 (s.adv + usFt 10)] } }
      s.sendTfp (noticeTfp s h cause 1 addr) 120 .none_

end Sys2Proof.Machine
end

