-- ==== Sys2Proof/Machine/Mirror.lean ====
section
/-! DEFINITION. TLP headers as bytes, mirror sessions (R167 to R169), and the TLPs the switch itself sends. -/
namespace Sys2Proof.Machine
open Sys2Proof

/-! ### TLP headers as bytes -/

/-- Fmt and Type of a TLP in the non-Flit header of the PCI Express Base Specification (PRESUMED; log entry 5). -/
def fmtType (t : Tlp) : Nat :=
  let four := if tlpFourDw t then 0x20 else 0
  let data := if t.data = [] then 0 else 0x40
  match t.kind with
  | .memRd => four
  | .memRdLk => four + 1
  | .memWr => four + 0x40
  | .dmWr => four + 0x5B
  | .ioRd => 2
  | .ioWr => 0x42
  | .cfgRd => if t.cfgType1 then 5 else 4
  | .cfgWr => if t.cfgType1 then 0x45 else 0x44
  | .fetchAdd => four + 0x4C
  | .swap => four + 0x4D
  | .cas => four + 0x4E
  | .msg => 0x30 + data + t.msgRoute % 8
  | .cpl => 0x0A + data

/-- The header of a TLP as bytes in transmission order: 12 or 16 of them (PRESUMED layout; log entry 5). -/
def tlpHeader (t : Tlp) : List Byte :=
  let b := fun (n : Nat) => BitVec.ofNat 8 n
  let dw0 := [b (fmtType t), b (bit (t.tag.testBit 9) * 128 + t.tc % 8 * 16 + bit (t.tag.testBit 8) * 8 + bit t.ido * 4),
    b (bit t.ep * 64 + bit t.ro * 32 + bit t.ns * 16 + t.at_ % 4 * 4 + t.lenDw / 256 % 4), b (t.lenDw % 256)]
  let be := b (t.lastBe % 16 * 16 + t.firstBe % 16)
  let addr := if tlpFourDw t then beBytes 8 t.addr else beBytes 4 t.addr
  match t.kind with
  | .cpl => dw0 ++ beBytes 2 t.cplRid ++ [b (t.status % 8 * 32 + t.byteCount / 256 % 16), b t.byteCount] ++ beBytes 2 t.dest ++
      [b t.tag, b (t.lowerAddr % 128)]
  | .msg => dw0 ++ beBytes 2 t.rid ++ [b t.tag, b t.msgCode] ++ (if t.msgRoute = 2 then beBytes 2 t.dest ++ List.replicate 6 0 else beBytes 8 t.addr)
  | .cfgRd | .cfgWr => dw0 ++ beBytes 2 t.rid ++ [b t.tag, be] ++ beBytes 2 t.dest ++ [b (t.dword / 64 % 16), b (t.dword % 64 * 4)]
  | _ => dw0 ++ beBytes 2 t.rid ++ [b t.tag, be] ++ addr

/-- A PASID prefix as bytes. -/
def pasidBytes (p : Option Pasid) : List Byte :=
  match p with
  | some q => [0x91, BitVec.ofNat 8 (bit q.pmr * 128 + bit q.er * 64 + q.val / 65536 % 16), BitVec.ofNat 8 (q.val / 256), BitVec.ofNat 8 q.val]
  | none => []

/-- The header of a TLP as four words for a log or record: the first 16 bytes, most significant byte first. -/
def tlpHeaderWords (t : Tlp) : List Nat := (List.range 4).map (fun i => ofBe (((tlpHeader t).drop (4 * i)).take 4))

/-- The address of a packet, where it has one, with which ranges are compared (R167, R182). -/
def pktAddr (p : Body) : Option Nat :=
  match p with
  | .tlp t => match t.kind with
    | .cpl | .cfgRd | .cfgWr => none
    | .msg => if t.msgRoute = 1 then some t.addr else none
    | _ => some t.addr
  | .tfp q _ _ => match q.body with
    | .req r _ => some r.addr
    | _ => none

/-! ### Mirror sessions (R167 to R169) -/

/-- A mirror session's state. -/
def State.mirror (s : State) (m : Nat) : MirrorSess := SMap.get (fun _ => {}) s.core.mirrors m

/-- Replace a mirror session's state; BUSY shows copies staged (R170). -/
def State.setMirror (s : State) (m : Nat) (v : MirrorSess) : State :=
  let s := { s with core := { s.core with mirrors := SMap.set (fun _ => {}) s.core.mirrors m v } }
  s.set (CORE.MIRROR_STATUS_BUSY m) (bit (v.staged ≠ []))

/-- Whether session `m` copies a TLP, in the direction entering or leaving: by PortID, or by colour and address range (R167). -/
def mirrorTakes (s : State) (m : Nat) (p : Pkt) (t : Tlp) (leaving : Bool) : Bool :=
  let dir := s.get (CORE.MIRROR_CTRL_DIR m)
  s.flag (CORE.MIRROR_CTRL_ENABLE m) &&
    (if s.flag (CORE.MIRROR_CTRL_FLOW m) then
      !leaving && p.colour = s.get (CORE.MIRROR_CTRL_COLOUR m) && (match pktAddr (.tlp t) with
        | some a => s.rd64 (CORE.MIRROR_ADDR_LO m) ≤ a && a < s.rd64 (CORE.MIRROR_ADDR_END_LO m)
        | none => false)
     else
      let src := s.get (CORE.MIRROR_CTRL_SRC m)
      if leaving then (dir = 1 || dir = 2) && (p.egress = src || p.members.contains src)
      else (dir = 0 || dir = 2) && p.ingress = src)

/-- The copy slots that session `m` owns (R170). -/
def mirrorSlots (s : State) (m : Nat) : List Nat :=
  (List.range 32).filter (fun c => s.get (CORE.COPY_SLOT_OWNER c) = 6 && s.get (CORE.COPY_SLOT_OWNER_INST c) = m)

/-- Whether a copy slot is busy: what it has put into the engine's VOQs, the copies of a multicast packet or the writes of a mirror record, has not all
crossed the crossbar (R164, R169; log entry 76). -/
def slotBusy (s : State) (c : Nat) : Bool :=
  s.core.pkts.any (fun q => (q.copy = 1 || q.copy = 2) && q.place = .voq && q.slot = some c)

/-- A port takes no mirror copy: DRAINING, DRAINED, shed or its link down (R169). -/
def analysisClosed (s : State) (n : Nat) : Bool :=
  s.get (PORT.STATUS_DRAIN_STATE n) ≠ 0 || s.flag (PORT.STATUS_SHED n) || !linkUp s n

/-- A copy is dropped: counted in DROPPED and in the next record (R169). -/
def State.mirrorDrop (s : State) (m : Nat) : State :=
  let v := s.mirror m
  (s.setMirror m { v with dropped := sat 32 (v.dropped + 1) }).addSat (CORE.MIRROR_DROPPED_COUNT m) 1

/-- Stage one copy for session `m`, or drop it: a LOCK verdict outside DEV, staging full, every copy slot of the session busy, the analysis port closed
(R169). The record holds the original's prefixes, header and payload (R168). -/
def State.mirrorCopy (s : State) (m : Nat) (p : Pkt) (t : Tlp) (leaving : Bool) : State :=
  let v := s.mirror m
  let room := 262144 * ((s.part.owners.filter (fun e => e.cls = 5 ∧ e.owner = 6 ∧ e.ownerInst = m)).length)
  let used := v.staged.foldl (fun n c => n + 64 * cellsOf c.len) 0
  if (p.lockPass && lifecycle s ≠ 0) || room < used + 64 * cellsOf (tlpBytes t) || (mirrorSlots s m).all (slotBusy s) ||
      analysisClosed s (s.get (CORE.MIRROR_CTRL_DEST m)) then s.mirrorDrop m
  else s.setMirror m { v with staged := v.staged ++ [MirrorCopy.mk s.time.ft (tlpBytes t) p.colour leaving p.ingress
    (if p.members = [] then p.egress else 0xFF) (pasidBytes t.pasid ++ t.prefixes ++ tlpHeader t ++ t.data)] }

/-- The TLP of a packet that a mirror copies: the one that entered the switch, where the packet carries it on in another form (R168). -/
def mirrorTlp (p : Pkt) : Option Tlp :=
  match p.orig, p.body with
  | some t, _ => some t
  | none, .tlp t => some t
  | none, .tfp _ _ _ => none

/-- The copies the sessions take of a packet in one direction (R167). -/
def State.mirrorHalf (s : State) (p : Pkt) (leaving : Bool) : State :=
  match mirrorTlp p with
  | none => s
  | some t =>
    if p.copy ≠ 0 then s
    else (List.range 8).foldl (fun s m => if mirrorTakes s m p t leaving then s.mirrorCopy m p t leaving else s) s

/-- The copies every session takes of a packet when it is released into its VOQ, a management queue or to replication (R167). -/
def State.mirrorAll (s : State) (p : Pkt) : State := (s.mirrorHalf p false).mirrorHalf p true

/-- A TLP the switch itself sends toward a port: it waits in a VOQ of crossbar port 40 or of the ingress named. One that answers no request of
the switch is discarded and counted at a port that is shed or whose link is down (R136, R425). Mirror sessions copy it as it
leaves (R167). -/
def State.sendTlp (s : State) (t : Tlp) (ingress egress : Nat) (origin : Origin) : State :=
  if origin = .none_ ∧ s.flag (PORT.STATUS_SHED egress) then s.count egress 15 1
  else if origin = .none_ ∧ ¬ linkUp s egress then s.count egress 18 1
  else (s.mirrorHalf (mkTlpPkt s t ingress egress origin .voq) true).addPkt (mkTlpPkt s t ingress egress origin .voq)

end Sys2Proof.Machine
end

