-- ==== Sys2Proof/Machine/Presence.lean ====
section
/-! DEFINITION. What stands behind a switch port: presence and link as its Slot Status and Link Status show them (R135, R218), and the host's hot-plug
notice. -/
namespace Sys2Proof.Machine
open Sys2Proof

/-- Dword `k` of a function's PCI Express capability, at 0x70 of its configuration space (R466; for switch ports log entry 6). -/
def pcieCap (k : Nat) : Nat := 28 + k

/-- Whether a binding of partition p names port or bundle `n`. -/
def bindsTo (s : State) (p n : Nat) : Bool :=
  (List.range 4096).any (fun i => s.flag (Bind.VALID i) && s.get (Bind.PART i) = p && s.get (Bind.TARGET i) = n)

/-- Whether what is behind a vDSP is up: the port's link, or the bundle's (R218). -/
def behindUp (s : State) (n : Nat) : Bool :=
  if n < 96 then linkUp s n else let st := s.get (FBL.LL_STATUS_STATE (n - 112)); st = 2 || st = 3 || st = 4

/-- Debounced presence on the slot channel of port `n`, for a hot-plug port (R135). -/
def slotPresent (s : State) (n : Nat) : Bool :=
  let c := s.get (PORT.CFG_SLOT n)
  n < 96 && s.flag (PORT.CFG_HOTPLUG n) && c < 16 && s.flag (SLOT.STATUS_PRESENT c)

/-- The presence behind a vDSP: of a shared port or bundle by R218; of a member port its slot channel's or in-band presence (R135). -/
def behindPresent (s : State) (p d : Nat) : Bool :=
  let n := s.get (PART.VDSP_PORTID p d)
  match s.get (PART.VDSP_KIND p d) with
  | 0 => false
  | 1 => slotPresent s n || behindUp s n
  | _ => bindsTo s p n && behindUp s n

/-- The presence a vDSP shows: that behind it, from the moment the partition's upstream link is in DL_Active (R224); once shown, it does not go with that
link (R134; log entry 121). -/
def vdspPresent (s : State) (p d : Nat) : Bool := behindPresent s p d && (linkUp s (upstreamOf s p) || s.flag (PART.VDSP_PRESENT p d))

/-- The Data Link Layer Link Active bit a vDSP shows: with its presence for a shared port or bundle (R218), its link for a member port. -/
def vdspLink (s : State) (p d : Nat) : Bool :=
  if s.get (PART.VDSP_KIND p d) = 1 then behindUp s (s.get (PART.VDSP_PORTID p d)) else vdspPresent s p d

/-- The interrupt of switch-port function `fn` of partition p, with Requester ID `rid`: its MSI when the host has enabled it, else, unless Interrupt
Disable is set, an INTA assert message; toward the upstream port (R218; capability of the Base Specification, log entry 6). -/
def State.portMsi (s : State) (p fn rid : Nat) : State :=
  if (s.cfgRd fn 20).toNat.testBit 16 then
    s.sendTlp { kind := .memWr, addr := (s.cfgRd fn 21).toNat + 2 ^ 32 * (s.cfgRd fn 22).toNat, rid := rid,
                data := leBytes 4 ((s.cfgRd fn 23).toNat % 65536) } 120 (upstreamOf s p) .none_
  else if (s.cfgRd fn 1).toNat.testBit 10 then s
  else s.sendTlp { kind := .msg, rid := rid, msgCode := 0x20, msgRoute := 4, lenDw := 0 } 120 (upstreamOf s p) .none_

/-- The hot-plug interrupt of a vDSP, when the host has enabled it for presence or link changes in its Slot Control (R218). -/
def State.hotplugIrq (s : State) (p d : Nat) : State :=
  let ctl := s.cfgRd (33 * p + d) (pcieCap 6)
  if ctl.toNat.testBit 5 ∧ (ctl.toNat.testBit 3 ∨ ctl.toNat.testBit 12) then
    s.portMsi p (33 * p + d) ((upBuses s p).2.1 * 256 + d * 8)
  else s

/-- A switch-port function's Presence Detect State and Data Link Layer Link Active take their values. `tell`: a change of the one sets Presence Detect
Changed, of the other Data Link Layer State Changed (R135, R218). -/
def State.slotShows (s : State) (fn : Nat) (present link tell : Bool) : State :=
  let w := s.cfgRd fn (pcieCap 6)
  let k := s.cfgRd fn (pcieCap 4)
  let v := if tell ∧ w.toNat.testBit 22 ≠ present then withField w 19 1 1 else w
  let v := if tell ∧ k.toNat.testBit 29 ≠ link then withField v 24 1 1 else v
  (s.cfgWr fn (pcieCap 6) (withField v 22 1 (bit present))).cfgWr fn (pcieCap 4) (withField k 29 1 (bit link))

/-- Bring one vDSP's presence up to date, with the host's notice of a change; a shared one's change is one of both bits (R218). -/
def State.updatePresence (s : State) (p d : Nat) : State :=
  let v := vdspPresent s p d
  let l := vdspLink s p d
  let fn := 33 * p + d
  if s.flag (PART.VDSP_PRESENT p d) = v ∧ (s.cfgRd fn (pcieCap 4)).toNat.testBit 29 = l then s
  else ((s.set (PART.VDSP_PRESENT p d) (bit v)).slotShows fn v l true).hotplugIrq p d

/-- Bring every vDSP of partition p up to date. -/
def State.presenceIn (s : State) (p : Nat) : State := (List.range 32).foldl (fun s d => s.updatePresence p d) s

/-- Bring every switch-port function that stands before port or bundle `n` up to date: the vDSPs (R218, R223) and a shared port's own function (R135). -/
def State.presenceOf (s : State) (n : Nat) : State :=
  let s := if n < 96 ∧ s.flag (PORT.CFG_SHARED n) ∧ s.get (PORT.CFG_ROLE n) = 0 then
      s.slotShows (1056 + n) (slotPresent s n || linkUp s n) (linkUp s n) true
    else s
  (List.range 32).foldl (fun s p => (List.range 32).foldl (fun s d =>
    if s.get (PART.VDSP_KIND p d) ≠ 0 ∧ s.get (PART.VDSP_PORTID p d) = n then s.updatePresence p d else s) s) s

end Sys2Proof.Machine
end

