-- ==== Sys2Proof/Machine/Gcm.lean ====
section
/-! DEFINITION. AES-256 in Galois/Counter Mode (R353, R366, R401), as FIPS 197 and NIST SP 800-38D give it (PRESUMED: the manual names
the cipher and not its definition; log entry 3). Only encryption of blocks is needed; a 96-bit IV, a 128-bit tag. -/
namespace Sys2Proof

/-- Multiplication by x in the AES field. -/
def aesXtime (a : Nat) : Nat := if a < 128 then 2 * a else (2 * a - 256) ^^^ 0x1B

/-- Multiplication in the AES field. -/
def aesMul (a b : Nat) : Nat :=
  ((List.range 8).foldl (fun (r : Nat × Nat) i => (if b.testBit i then r.1 ^^^ r.2 else r.1, aesXtime r.2)) (0, a)).1

/-- The inverse in the AES field, 0 for 0: the 254th power. -/
def aesInv (a : Nat) : Nat := (List.range 7).foldl (fun r i => aesMul (aesMul r r) (if i < 6 then a else 1)) a

/-- The S-box. -/
def aesSub (a : Nat) : Nat :=
  let b := aesInv a
  let rot := fun (k : Nat) => (b * 2 ^ k) % 256 + b / 2 ^ (8 - k)
  b ^^^ rot 1 ^^^ rot 2 ^^^ rot 3 ^^^ rot 4 ^^^ 0x63

/-- One more word of the AES-256 key schedule; words as lists of four numbers, newest first. -/
def aesNextWord (ws : List (List Nat)) (i : Nat) : List (List Nat) :=
  let prev := (ws[0]?).getD []
  let old := (ws[7]?).getD []
  let rcon := (List.range (i / 8 - 1)).foldl (fun r _ => aesXtime r) 1
  let t := if i % 8 = 0 then
      match (prev.drop 1 ++ prev.take 1).map aesSub with
      | x :: xs => (x ^^^ rcon) :: xs
      | [] => []
    else if i % 8 = 4 then prev.map aesSub else prev
  List.zipWith (· ^^^ ·) old t :: ws

/-- Cut a list in fours. -/
def fours : Nat → List Nat → List (List Nat)
  | 0, _ => []
  | k + 1, l => l.take 4 :: fours k (l.drop 4)

/-- The fifteen round keys of a 32-byte key, each of 16 numbers. -/
def aesKeys (key : List Byte) : List (List Nat) :=
  let w0 := (fours 8 (key.map BitVec.toNat)).reverse
  let ws := ((List.range 52).foldl (fun ws i => aesNextWord ws (i + 8)) w0).reverse
  (List.range 15).map (fun r => ((ws.drop (4 * r)).take 4).flatten)

/-- ShiftRows on a state held column by column. -/
def aesShift (st : List Nat) : List Nat := (List.range 16).map (fun i => (st[(i + 4 * (i % 4)) % 16]?).getD 0)

/-- MixColumns of one column. -/
def aesMixCol (c : List Nat) : List Nat :=
  match c with
  | [a, b, d, e] =>
    [aesXtime a ^^^ aesXtime b ^^^ b ^^^ d ^^^ e, a ^^^ aesXtime b ^^^ aesXtime d ^^^ d ^^^ e,
     a ^^^ b ^^^ aesXtime d ^^^ aesXtime e ^^^ e, aesXtime a ^^^ a ^^^ b ^^^ d ^^^ aesXtime e]
  | _ => c

/-- AES-256 on one block. -/
def aesBlock (keys : List (List Nat)) (blk : List Nat) : List Nat :=
  let addKey := fun (st : List Nat) (r : Nat) => List.zipWith (· ^^^ ·) st ((keys[r]?).getD [])
  let st := addKey blk 0
  let st := (List.range 13).foldl (fun st i => addKey ((fours 4 (aesShift (st.map aesSub))).flatMap aesMixCol) (i + 1)) st
  addKey (aesShift (st.map aesSub)) 14

/-- Multiplication in the GCM field; bit 127 is the coefficient of 1. -/
def gcmMul (x y : Nat) : Nat :=
  ((List.range 128).foldl (fun (r : Nat × Nat) i =>
    (if x.testBit (127 - i) then r.1 ^^^ r.2 else r.1, if r.2 % 2 = 1 then r.2 / 2 ^^^ (0xE1 * 2 ^ 120) else r.2 / 2)) (0, y)).1

/-- Bytes in blocks of 16, the last padded with zeros. -/
def blocks16 : Nat → List Byte → List (List Byte)
  | 0, _ => []
  | k + 1, m => (m.take 16 ++ List.replicate (16 - (m.take 16).length) 0) :: blocks16 k (m.drop 16)

/-- The number of 16-byte blocks of a message. -/
def nBlocks (m : List Byte) : Nat := ceilDiv m.length 16

/-- GHASH of additional data and ciphertext. -/
def ghash (h : Nat) (aad c : List Byte) : Nat :=
  let bs := blocks16 (nBlocks aad) aad ++ blocks16 (nBlocks c) c ++ [beBytes 8 (8 * aad.length) ++ beBytes 8 (8 * c.length)]
  bs.foldl (fun y b => gcmMul (y ^^^ ofBe b) h) 0

/-- The key stream block for counter `ctr` under a 12-byte IV. -/
def gcmStream (keys : List (List Nat)) (iv : List Byte) (ctr : Nat) : List Byte :=
  (aesBlock keys ((iv ++ beBytes 4 ctr).map BitVec.toNat)).map (BitVec.ofNat 8)

/-- The message XORed with the key stream from counter 2. -/
def gcmCrypt (keys : List (List Nat)) (iv m : List Byte) : List Byte :=
  List.zipWith (· ^^^ ·) m ((List.range (nBlocks m)).flatMap (fun i => gcmStream keys iv (i + 2)))

/-- The 16-byte tag of a ciphertext. -/
def gcmTag (keys : List (List Nat)) (iv aad c : List Byte) : List Byte :=
  let h := ofBe ((aesBlock keys (List.replicate 16 0)).map (BitVec.ofNat 8))
  List.zipWith (· ^^^ ·) (beBytes 16 (ghash h aad c)) (gcmStream keys iv 1)

/-- Encrypt: the ciphertext and its tag. -/
def gcmSeal (key iv aad m : List Byte) : List Byte × List Byte :=
  let ks := aesKeys key
  let c := gcmCrypt ks iv m
  (c, gcmTag ks iv aad c)

/-- Decrypt: the plaintext, or none where the tag does not match. -/
def gcmOpen (key iv aad c tag : List Byte) : Option (List Byte) :=
  let ks := aesKeys key
  if gcmTag ks iv aad c = tag then some (gcmCrypt ks iv c) else none

end Sys2Proof
end

