-- ==== Sys2Proof/Machine/RmaSend.lean ====
section
/-! DEFINITION. What the RMA engine sends, and what happens when one of its accesses ends: the encryption of a packet (R353, R364 to R366),
acknowledgements and NAKs (R352, R357), connections and rings (R342, R351), in-flight counts of memory keys (R346, R349). -/
namespace Sys2Proof.Machine
open Sys2Proof

/-! ### Connections, keys and rings -/

/-- A connection's record. -/
def State.conn (s : State) (c : Nat) : Conn := SMap.get (fun _ => {}) s.rma.conns c

/-- Replace a connection's record; word 3 of the connection shows its state (R374). -/
def State.setConn (s : State) (c : Nat) (k : Conn) : State :=
  let s := { s with rma := { s.rma with conns := SMap.set (fun _ => {}) s.rma.conns c k } }
  s.wr (ConnW.word c 3) (BitVec.ofNat 32 (k.state % 8 + 8 * (k.phase % 2) + 256 * (k.unacked.length % 2048)))

/-- Change a connection's record. -/
def State.onConn (s : State) (c : Nat) (f : Conn → Conn) : State := s.setConn c (f (s.conn c))

/-- A ring's state beside its registers. -/
def State.ring (s : State) (r : Nat) : Ring := SMap.get (fun _ => {}) s.rma.rings r

/-- Replace it. -/
def State.setRing (s : State) (r : Nat) (g : Ring) : State := { s with rma := { s.rma with rings := SMap.set (fun _ => {}) s.rma.rings r g } }

/-- Put an event on a ring: it takes a completion slot when one is free (R342). -/
def State.ringEvent (s : State) (r status index : Nat) : State :=
  let g := s.ring r
  s.setRing r { g with events := g.events ++ [⟨status, index⟩] }

/-- A memory key. -/
def State.memKey (s : State) (i : Nat) : Key := SMap.get (fun _ => {}) s.rma.keys i

/-- Replace a memory key. -/
def State.setMemKey (s : State) (i : Nat) (k : Key) : State := { s with rma := { s.rma with keys := SMap.set (fun _ => {}) s.rma.keys i k } }

/-- Change every descriptor in progress that satisfies a condition. -/
def State.mapWorks (s : State) (sel : Work → Bool) (f : Work → Work) : State :=
  { s with rma := { s.rma with works := s.rma.works.map (fun w => if sel w then f w else w) } }

/-- End descriptors in progress with a completion status. -/
def State.failWorks (s : State) (sel : Work → Bool) (status : Nat) : State :=
  s.mapWorks (fun w => sel w && w.status = none) (fun w => { w with status := some status })

/-- The connection's state changes: journaled with the state before and after (R351, R439). -/
def State.connTo (s : State) (c st : Nat) : State :=
  (s.onConn c (fun k => { k with state := st })).post Src.rma { type := .connState, inst := c, payload := [(s.conn c).state, st, 0] }

/-- Drop the unacknowledged PSNs of a connection: their answer cells are free (R324). -/
def State.dropUnacked (s : State) (c : Nat) : State :=
  let n := (s.conn c).unacked.foldl (fun n u => n + u.cells) 0
  (s.set BRG.RSP_BUDGET_USED (s.get BRG.RSP_BUDGET_USED - n)).onConn c (fun k => { k with unacked := [] })

/-- A connection becomes BROKEN (R351): descriptors in progress complete CONN_BROKEN, and its ring gets a CONN_BROKEN event. -/
def State.connBroken (s : State) (c : Nat) : State :=
  let s := (s.dropUnacked c).failWorks (fun w => w.conn = c && w.started) 5
  (s.ringEvent (s.get (ConnW.RING c)) 2 c).connTo c 4

/-! ### Sending (R353, R364, R366) -/

/-- The key in a crypto slot. -/
def cryptoKey (s : State) (c : Nat) (rx : Bool) (phase : Nat) : Option (List Byte) :=
  SMap.get (fun _ => none) s.rma.crypto (4 * c + 2 * bit rx + phase % 2)

/-- The 96-bit IV of a packet (R353). -/
def rmaIv (srcDev srcConn counter : Nat) : List Byte := beBytes 12 (pack [(11, srcDev), (10, srcConn), (11, 0), (64, counter)])

/-- The additional data: the common header, HOPS and POISON taken as 0, and the RMA header (R366). -/
def rmaAad (h : TfpHdr) (r : RmaHdr) : List Byte := hdrBytes { h with hops := 0, poison := false } ++ rmaHdrBytes r

/-- The counter advances; REKEY_DUE, and at 2⁴⁰ LIMIT with its event (R351, R355). -/
def State.advanceCounter (s : State) (c : Nat) : State :=
  let k := s.conn c
  let n := k.counter + 1
  let due := 2 ^ 40 - 2 ^ 32 ≤ n ∧ ¬ k.rekeyPosted
  let s := s.setConn c { k with counter := n, rekeyPosted := k.rekeyPosted || due }
  let s := if due then s.ringEvent (s.get (ConnW.RING c)) 4 c else s
  if 2 ^ 40 ≤ n ∧ k.state = 2 then (s.ringEvent (s.get (ConnW.RING c)) 5 c).connTo c 3 else s

/-- Encrypt and send a packet on connection `c` under its TX key; nothing is sent without one, or once the counter is used up. -/
def State.sendRma (s : State) (c kind psn : Nat) (ro : Bool) (body : Nat) (data : List Byte) : State :=
  let k := s.conn c
  match cryptoKey s c false k.phase with
  | none => s
  | some key =>
    if 2 ^ 40 ≤ k.counter then s
    else
      let src := k.srcDev.getD (ownDev s)
      let h : TfpHdr := { kind := kind, tc := s.get (ConnW.TC c), dstDev := s.get (ConnW.REMOTE_DEVID c), srcDev := src, dstPort := 120, srcPort := 120,
                          colour := 0xFFF, gen := genField (stamp s false false false true true), window := 0x7FF }
      let r : RmaHdr := { dstConn := s.get (ConnW.REMOTE_CONN c), srcConn := c, phase := k.phase, ro := ro, psn := psn, counter := k.counter }
      let sealed := gcmSeal key (rmaIv src c k.counter) (rmaAad h r) (beBytes 16 body ++ data)
      (s.sendTfp ⟨h, .rma r sealed.1 sealed.2⟩ 120 .none_).advanceCounter c

/-! ### Acknowledgements (R352, R357, R365, R368) -/

/-- Distance from `a` to `b` in 24-bit serial numbers. -/
def psnSub (b a : Nat) : Nat := (b + 2 ^ 24 - a % 2 ^ 24) % 2 ^ 24

/-- PSNs that have arrived and whose outcome is not yet decided: in staging, reads being served, and with FO_DEFER writes being placed or held
for a checkpoint. -/
def pendingPsns (s : State) (c : Nat) : List Nat :=
  ((s.rma.staging.filter (fun x => x.conn = c)).map RmaRx.psn) ++
    ((s.rma.serving.filter (fun x => x.conn = c ∧ (x.isRead ∨ s.flag (ConnW.FO_DEFER c)))).map RmaRx.psn) ++
    ((s.conn c).held.filter (fun e => (s.rd TWIN.CKPT_SENT).toNat < e.2)).map Prod.fst

/-- CUM_PSN and SACK of the next acknowledgement (R357). -/
def ackOf (s : State) (c : Nat) : Nat × Nat :=
  let k := s.conn c
  let pend := pendingPsns s c
  let back := pend.foldl (fun m p => let d := psnSub k.rxNext p; if d ≤ 2 ^ 23 then max m d else m) 0
  let cum := psnSub k.rxNext (back + 1)
  let have_ := fun (p : Nat) => !pend.contains p && (k.rxMap.contains p || (let d := psnSub k.rxNext p; 1 ≤ d && d ≤ 2 ^ 23))
  (cum, (List.range 64).foldl (fun m i => if have_ ((cum + 1 + i) % 2 ^ 24) then m + 2 ^ i else m) 0)

/-- CREDIT_LIMIT as the receiver advertises it (R352). -/
def creditLimit (s : State) (c : Nat) : Nat := ((s.conn c).consumed + s.get (ConnW.CREDIT_BLOCKS c)) % 2 ^ 24

/-- Whether the connection may send answers: OPENING, ACTIVE, BROKEN (a NAK) or RESUMING. -/
def connAnswers (s : State) (c : Nat) : Bool := [1, 2, 4, 6].contains (s.conn c).state

/-- Send an ACK. -/
def State.sendAck (s : State) (c : Nat) : State :=
  if connAnswers s c then
    let a := ackOf s c
    let l := creditLimit s c
    (s.onConn c (fun k => { k with ackDue := false, lastLimit := l })).sendRma c 0x23 0 false (pack [(24, a.1), (64, a.2), (24, l), (16, 0)]) []
  else s

/-- Send a NAK for a PSN. -/
def State.sendNak (s : State) (c psn code : Nat) : State :=
  if connAnswers s c then
    s.sendRma c 0x24 0 false (pack [(24, psn), (8, code), (24, (s.conn c).rxNext), (24, creditLimit s c), (48, 0)]) []
  else s

/-- Arrivals to acknowledge: the ACK is due within 1 µs (R357). -/
def State.ackSoon (s : State) (c : Nat) : State :=
  s.onConn c (fun k => if k.ackDue then k else { k with ackDue := true, ackAt := s.adv })

/-- The checkpoint that will cover what has just happened: the next one sent (R368). -/
def nextCkpt (s : State) : Nat := s.twin.ckptSeq + 1

/-! ### When an access ends (R343, R346, R349) -/

/-- A key enters REVOKED: its event and the journal (R346). -/
def State.keyRevoked (s : State) (i : Nat) : State :=
  let k := s.memKey i
  ((s.setMemKey i { k with state := 3 }).ringEvent k.ring 1 i).post Src.rma { type := .keyRevoked, inst := i, aux := k.gen, payload := [k.state, 3, 0] }

/-- A validated packet leaves the in-flight count of its key (R349). -/
def State.keyLeaves (s : State) (i : Nat) : State :=
  let k := s.memKey i
  let s := s.setMemKey i { k with inflight := k.inflight - 1 }
  if k.inflight ≤ 1 ∧ k.state = 2 then s.keyRevoked i else s

/-- Parts of data put together in the order of their offsets. -/
def joinParts (l : List (Nat × List Byte)) : List Byte := ((l.mergeSort (fun a b => a.1 ≤ b.1)).map Prod.snd).flatten

/-- Every access of validated packet `x` has ended: its key's count falls, and a read is answered; a write is, where FO_DEFER has held its
acknowledgement back. -/
def State.serveDone (s : State) (x : RmaRx) : State :=
  let s := { s with rma := { s.rma with serving := s.rma.serving.filter (fun y => y.id ≠ x.id) } }
  let s := s.keyLeaves x.key
  if x.isRead then
    (if x.failed ≠ 0 then (s.sendNak x.conn x.psn x.failed).ackSoon x.conn
     else if connAnswers s x.conn then
       s.sendRma x.conn 0x22 0 x.ro (pack [(24, x.psn), (8, 0), (13, x.len), (83, 0)]) ((joinParts x.parts).take x.len)
     else s)
  else if s.flag (ConnW.FO_DEFER x.conn) then
    (if x.failed ≠ 0 then (s.sendNak x.conn x.psn x.failed).ackSoon x.conn
     else (s.onConn x.conn (fun k => { k with held := k.held ++ [(x.psn, nextCkpt s)] })).ackSoon x.conn)
  else s

/-- A placement write or service read of validated RMA packet `v` has ended (R349); `code` is the NAK code of a failure, 0 none. -/
def State.serveEnded (s : State) (v code : Nat) : State :=
  match s.rma.serving.find? (fun x => x.id = v) with
  | none => s
  | some x =>
    let y := { x with todo := x.todo - 1, failed := if x.failed = 0 then code else x.failed }
    let s := { s with rma := { s.rma with serving := s.rma.serving.map (fun z => if z.id = v then y else z) } }
    if y.todo = 0 then s.serveDone y else s

/-- A read of the RMA engine is over: its tag is free. -/
def State.rmaReadFree (s : State) (tag : Nat) : State :=
  let s := { s with rma := { s.rma with reads := s.rma.reads.filter (fun x => x.tag ≠ tag) } }
  s.set RMA.STATUS_READS_OUT s.rma.reads.length

/-- A wanted or outstanding read cannot give its data: a fetch makes a descriptor that completes with the status, a source read fails its
descriptor, read service is answered with a NAK (R338, R343). -/
def State.readLost (s : State) (r : RmaRead) (status code : Nat) : State :=
  if r.what = 2 then s.serveEnded r.work code
  else if r.what = 1 then s.failWorks (fun w => w.id = r.work) status
  else
    let g := s.ring r.ring
    let w : Work := { id := s.rma.nextWork, ring := r.ring, index := g.fetch, started := true, status := some status }
    let s := { s with rma := { s.rma with works := s.rma.works ++ [w], nextWork := s.rma.nextWork + 1 } }
    (s.setRing r.ring { g with fetch := (g.fetch + 1) % 2 ^ 32 }).set (RMA.RING_SQ_HEAD_COUNT r.ring) ((g.fetch + 1) % 65536)

/-- A read of the RMA engine has failed: the tag is free, and its descriptor or service fails (R343: LOCAL_PCIE; R365: TARGET_PCIE). -/
def State.rmaReadFailed (s : State) (tag : Nat) (status : Nat) : State :=
  match s.rma.reads.find? (fun r => r.tag = tag) with
  | none => s
  | some r => (s.rmaReadFree tag).readLost r status 0x07

/-- A local write of READ data, of descriptor `w`, has ended. -/
def State.localWriteEnded (s : State) (w : Nat) : State := s.mapWorks (fun x => x.id = w) (fun x => { x with writes := x.writes - 1 })

end Sys2Proof.Machine
end

