-- ==== Sys2Proof/Machine/Ends.lean ====
section
/-! DEFINITION. Every way a packet ends, with the answer it owes (R172, R327, R362, R553, R490), vectors and notices, and the sheds (R425 to
R427). -/
namespace Sys2Proof.Machine
open Sys2Proof

/-! ### How a packet ends -/

/-- The paths of R172 and the ingress refusals of R553. -/
inductive EndPath where
  | guard | drainIngress | shedIngress | shed | linkDown | deadline | bareImage | egressMps | mcRange | ide | shadow | strict
  | upstream | ecc | tagWidth | routeDrain | routeShed | routeDown | unbound | noDest | serial | noRoute | bundleDown | mode | mcGroup | opUnsupported | noBinding | hopLimit
deriving DecidableEq, Repr

/-- The completion status a non-posted request receives, or none: 1 Unsupported Request, 4 Completer Abort (R172). -/
def EndPath.status : EndPath → Option Nat
  | .shed | .deadline | .bareImage | .strict => some 4
  | .ecc | .hopLimit => none
  | _ => some 1

/-- The bridge cause code (R313). -/
def EndPath.cause : EndPath → Nat
  | .guard => 1
  | .drainIngress => 2
  | .deadline | .bareImage => 3
  | .shed | .shedIngress => 4
  | .linkDown | .upstream => 5
  | .noRoute | .routeDrain | .routeShed | .routeDown => 6
  | .hopLimit => 7
  | .bundleDown => 8
  | .noBinding => 9
  | .mode | .shadow => 10
  | .opUnsupported => 11
  | .serial => 12
  | _ => 0

/-- The port-page counter of an end, for a non-posted request and for anything else (R490). -/
def EndPath.counters : EndPath → Nat × Nat
  | .guard => (10, 11)
  | .drainIngress | .routeDrain => (12, 13)
  | .shedIngress | .routeShed => (14, 15)
  | .shed => (16, 15)
  | .linkDown | .bundleDown | .routeDown => (17, 18)
  | .deadline | .bareImage => (19, 20)
  | .egressMps => (23, 23)
  | .serial => (24, 24)
  | .mcRange | .mcGroup => (25, 25)
  | .ide => (26, 26)
  | .shadow | .mode => (27, 27)
  | .strict => (28, 29)
  | .upstream => (17, 30)
  | .ecc => (31, 31)
  | .unbound | .noBinding => (33, 33)
  | .noDest | .noRoute | .opUnsupported | .hopLimit | .tagWidth => (39, 39)

/-- End the request of an OUT entry with an error status: the requester gets the completion, or the answer goes back over the fabric for a
request that came from there (R307). -/
def State.failEntry (s : State) (e : TagEntry) (byteCount status cause : Nat) : State :=
  match e.rem with
  | some h => s.sendTfp (answerTfp s 0x04 h { status := status, byteCount := byteCount, cause := cause } [] false) 120 .none_
  | none => s.sendTlp (cplTlp e.rid e.tag status e.tc (upRid s e.part) byteCount 0 []) e.ingress e.ingress .none_

/-! ### Reads of the other internal masters (R225, R486, R513) -/

/-- An engine of the management DMA beside its registers. -/
def State.eng (s : State) (e : Nat) : MdmaEng := SMap.get (fun _ => {}) s.mdma.engs e

/-- Replace it. -/
def State.setEng (s : State) (e : Nat) (g : MdmaEng) : State := { s with mdma := { s.mdma with engs := SMap.set (fun _ => {}) s.mdma.engs e g } }

/-- Change the descriptors in progress that satisfy a condition. -/
def State.mapJobs (s : State) (sel : MdmaJob → Bool) (f : MdmaJob → MdmaJob) : State :=
  { s with mdma := { s.mdma with jobs := s.mdma.jobs.map (fun j => if sel j then f j else j) } }

/-- A descriptor is fetched, or its fetch failed: it joins the jobs of its engine, and SQ_HEAD counts it (R340, R484). -/
def State.addJob (s : State) (e : Nat) (j : MdmaJob) : State :=
  let g := s.eng e
  let s := { s with mdma := { s.mdma with jobs := s.mdma.jobs ++ [{ j with id := s.mdma.nextJob, eng := e, index := g.fetch }],
                                          nextJob := s.mdma.nextJob + 1 } }
  (s.setEng e { g with fetch := (g.fetch + 1) % 2 ^ 32 }).set (MDMA.ENG_SQ_HEAD_COUNT e) ((g.fetch + 1) % 65536)

/-- A wanted or outstanding read of an engine cannot give its data: its descriptor takes the status (R486). -/
def State.mdmaReadLost (s : State) (r : MdmaRead) (status : Nat) : State :=
  if r.what = 0 then s.addJob r.eng { id := 0, eng := r.eng, index := 0, started := true, status := some status }
  else s.mapJobs (fun j => j.id = r.job && j.status = none) (fun j => { j with status := some status })

/-- An outstanding read of the management DMA is over: its tag is free. -/
def State.mdmaReadFree (s : State) (tag : Nat) : State :=
  let s := { s with mdma := { s.mdma with reads := s.mdma.reads.filter (fun r => r.tag ≠ tag) } }
  s.set MDMA.STATUS_READS_OUT s.mdma.reads.length

/-- A read of the management DMA ends without data (R486). -/
def State.mdmaReadFailed (s : State) (tag status : Nat) : State :=
  match s.mdma.reads.find? (fun r => r.tag = tag) with
  | some r => (s.mdmaReadFree tag).mdmaReadLost r status
  | none => s

/-- The debug access that runs ends: its result waits for the next capture (R513). -/
def State.debugEnds (s : State) (status : Nat) (data : Nat) : State :=
  match s.dbg.busy with
  | some (_, n, a) => { s with dbg := { s.dbg with busy := none, result := (status, n, a, data) } }
  | none => s

/-- The configuration mailbox's request ends (R225, R226): RESULT, and the data of a successful read. -/
def State.mailboxEnds (s : State) (result : Nat) (data : Word) : State :=
  if s.flag PART.CFG_CTRL_BUSY then
    let s := (s.set PART.CFG_CTRL_BUSY 0).set PART.CFG_CTRL_RESULT result
    let s := { s with part := { s.part with mailDl := none } }
    if result = 0 ∧ ¬ s.flag PART.CFG_CTRL_WRITE then s.wr PART.CFG_DATA data else s
  else s

/-- Complete a non-posted request to whoever sent it, with an error status (R172, R327). `t` is the request as it stood. -/
def State.failNp (s : State) (o : Origin) (rid tag tc : Nat) (byteCount : Nat) (status cause : Nat) : State :=
  match o with
  | .port n => s.sendTlp (cplTlp rid tag status tc (portRid s n) byteCount 0 []) n n .none_
  | .func n r => s.sendTlp (cplTlp r tag status tc (portRid s n) byteCount 0 []) n n .none_
  | .tagged x =>
    match s.tag? x with
    | some e => (s.freeTag x).failEntry e byteCount status cause
    | none => s
  | .bridged h acked x _ =>
    let s := match x with
      | some i => s.freeTag i
      | none => s
    s.sendTfp (answerTfp s (if acked then 0x05 else 0x04) h { status := status, byteCount := byteCount, cause := cause } [] false)
      120 .none_
  | .rmaServe v => s.serveEnded v 0x07
  | .rmaRead k => s.rmaReadFailed k 3
  | .mdmaRead k => s.mdmaReadFailed k 3
  | .debug => s.debugEnds 5 0
  | .mailbox => s.mailboxEnds (if status = 4 then 2 else 1) 0
  | _ => s

/-- Add a failure of an ACKED write to its window's fence: up to 8 requesters, a ninth sets ALL; also its STATS (R321). The journal's entry ends with
the GEN that the answer carried, 0 without one (R26). -/
def State.fenceFail (s : State) (w rid gen : Nat) : State :=
  let l := SMap.get (fun _ => []) s.brg.fences w
  let s := (s.set (BRG.FENCE_FAILED w) 1).addSat (BRG.FENCE_FAILS w) 1
  let s := s.addSat (BRG.FENCE_STATS_V w) 1
  let s := s.post Src.brg { type := .mgmtMsg, inst := w, payload := [1, rid, gen] }
  if l.contains rid then s
  else if l.length < 8 then
    let s := { s with brg := { s.brg with fences := SMap.set (fun _ => []) s.brg.fences w (l ++ [rid]) } }
    s.set (BRG.FENCE_RIDS w) (l.length + 1)
  else s.set (BRG.FENCE_ALL w) 1

/-- A packet of this device's own bridge ends before it is delivered: an NP packet's OUT entry ends with the status; a failed ACKED
write marks its fence (R321, R324, R327); a posted one is reported as a notice to itself: counted in `RWF[p].COUNT` (R322). -/
def State.failOut (s : State) (p : Tfp) (status : Nat) : State :=
  match s.tag? p.hdr.xid with
  | none => s
  | some e =>
    if e.acked then
      let s := s.fenceFail p.hdr.window e.rid 0
      let s := s.set (Win.ACKED_OUT p.hdr.window) (s.get (Win.ACKED_OUT p.hdr.window) - 1)
      s.freeTag p.hdr.xid
    else (s.freeTag p.hdr.xid).failEntry e 0 status 0

/-! ### Vectors and notices received -/

/-- Raise MSI-X vector `v` of partition p's management function: a posted write with the function's Requester ID, TC 0, RO clear; if
MSI-X is off or the vector masked, its pending bit is set instead (R468). Table words of partition p lie at 4096·p of `msix`, its
pending words at 4096·p + 2048. -/
def State.raiseVector (s : State) (p v : Nat) : State :=
  let w := fun (o : Nat) => SMap.get (fun _ => 0) s.msix (4096 * p + o)
  let ctl := s.cfgRd (33 * p) 0x14
  if fieldOf ctl 31 1 = 1 ∧ fieldOf ctl 30 1 = 0 ∧ fieldOf (w (16 * v + 12)) 0 1 = 0 then
    let addr := (w (16 * v)).toNat + 2 ^ 32 * (w (16 * v + 4)).toNat
    s.sendTlp { kind := .memWr, addr := addr, rid := mgmtRid s p, lenDw := 1, data := leBytes 4 (w (16 * v + 8)).toNat } 120
      (upstreamOf s p) .none_
  else
    let k := 4096 * p + 2048 + 4 * (v / 32)
    { s with msix := SMap.set (fun _ => 0) s.msix k (withField (SMap.get (fun _ => 0) s.msix k) (v % 32) 1 1) }

/-- A BR_RWF notice at the origin (R322): add to `RWF[p].COUNT`, fill the record if free, raise its vector, journal it with the GEN it carried (R26). -/
def State.rwfRecord (s : State) (w cause count dev addr gen : Nat) : State :=
  let p := s.get (Win.PART w)
  let s := s.addSat (BRG.RWF_COUNT_V p) count
  let s := if s.flag (BRG.RWF_INFO_VALID p) then s
    else
      let s := s.set (BRG.RWF_INFO_WINDOW p) w
      let s := s.set (BRG.RWF_INFO_CAUSE p) cause
      let s := s.set (BRG.RWF_INFO_DEVID p) dev
      let s := s.set (BRG.RWF_INFO_VALID p) 1
      (s.wr64 (BRG.RWF_ADDR_LO p) addr).wr64 (BRG.RWF_FT_LO p) s.time.ft
  let s := if s.flag (BRG.RWF_CTRL_MSI_EN p) then s.raiseVector p (s.get (BRG.RWF_CTRL_VECTOR p)) else s
  s.post Src.brg { type := .mgmtMsg, inst := w, aux := dev, payload := [cause, count, gen] }

/-- A write of record `seq` of session `m` ended at the analysis port: the copy is dropped, once (R169). -/
def State.mirrorLost (s : State) (m seq : Nat) : State :=
  if (s.mirror m).lost = some seq then s else ((s.mirrorDrop m).setMirror m { (s.mirrorDrop m).mirror m with lost := some seq })

/-- Whether a packet is one of the switch's own masters'. -/
def Origin.own : Origin → Bool
  | .rmaServe _ | .rmaRead _ | .rmaWrite _ | .mdmaRead _ | .mdmaWrite _ | .debug | .mailbox | .mirror _ => true
  | _ => false

/-- The device page on which an end of an internal master's request counts, that of its group; none for another request (R490; log entry 21). -/
def Origin.devPage : Origin → Option Nat
  | .rmaServe _ | .rmaRead _ | .rmaWrite _ => some 136
  | .mdmaRead _ | .mdmaWrite _ | .debug => some 138
  | .mailbox | .mirror _ => some 132
  | _ => none

/-- The Requester ID and tag its requester gave a TLP: those that the OUT entry it still waits for would hold, else its own (R214, R237). -/
def askedBy (p : Pkt) (t : Tlp) : Nat × Nat :=
  match p.need with
  | some e => if e.isOut then (e.rid, e.tag) else (t.rid, t.tag)
  | none => (t.rid, t.tag)

/-- A packet ends by a path (R172, R553): it leaves the core, its end is counted once on a page (R490), and its end is answered;
nothing answers for one whose header was lost, whose requester cannot be trusted (R174). -/
def State.endPkt (s : State) (p : Pkt) (path : EndPath) (page : Nat) : State :=
  let s := s.dropPkt p.id
  let page := p.origin.devPage.getD page
  match p.body with
  | .tlp t =>
    if tlpCls t = 1 then
      let s := s.count page path.counters.1 1
      let who := askedBy p t
      match path.status with
      | some st => s.failNp p.origin who.1 who.2 t.tc 4 st path.cause
      | none => if p.origin.own then s.failNp p.origin who.1 who.2 t.tc 4 1 path.cause else s
    else if tlpCls t = 0 then
      let s := s.count page path.counters.2 1
      if path = .ecc ∧ ¬ p.origin.own then s else
      match p.origin with
      | .bridged h acked _ a =>
        if acked then s.sendTfp (answerTfp s 0x05 h { status := path.status.getD 1, cause := path.cause } [] false) 120 .none_
        else s.noticeFor h path.cause a
      | .rmaServe v => s.serveEnded v 8
      | .rmaWrite (some w) => s.localWriteEnded w
      | .mirror m => s.mirrorLost m p.parent
      | .debug => s.debugEnds 5 0
      | _ => s
    else
      let s := s.count page path.counters.2 1
      match p.origin with
      | .tagged x => s.freeTag x
      | _ => s
  | .tfp q _ np =>
    let s := s.count page (if np then path.counters.1 else path.counters.2) 1
    let own := q.hdr.srcDev = ownDev s
    let st := path.status.getD 1
    if path = .ecc then s
    else if q.hdr.kind = 0x01 then
      if own then s.rwfRecord q.hdr.window path.cause 1 (ownDev s) (match q.body with | .req r _ => r.addr | _ => 0) q.hdr.gen
      else s.noticeFor q.hdr path.cause (match q.body with | .req r _ => r.addr | _ => 0)
    else if q.hdr.kind = 0x02 ∨ q.hdr.kind = 0x03 then
      if own then (match p.need with
        | some e =>
          if e.acked then s.fenceFail q.hdr.window e.rid 0
          else s.failEntry e 0 st path.cause
        | none => s.failOut q st)
      else s.sendTfp (answerTfp s (if q.hdr.kind = 0x02 then 0x05 else 0x04) q.hdr { status := st, cause := path.cause } [] false) 120 .none_
    else if q.hdr.kind = 0x04 ∨ q.hdr.kind = 0x05 then
      s.sendTfp { hdr := { q.hdr with kind := 0x07, srcDev := ownDev s, hops := 0 }, body := .ans { status := 4, cause := path.cause } [] }
        120 .none_
    else if q.hdr.kind = 0x06 ∨ q.hdr.kind = 0x07 then s.addSat BRG.LATE_NOTICE_LOST 1
    else s

/-- End every packet of the core that satisfies a condition, in order of arrival. -/
def State.endAll (s : State) (sel : Pkt → Bool) (path : EndPath) (page : Nat) : State :=
  (s.core.pkts.filter sel).foldl (fun s p => s.endPkt p path page) s

/-- A non-posted request already sent through a port is ended by the switch: its requester is answered; while the link stays up the
switch remembers it so that its late completion can be discarded (R136, R138). -/
def State.endOut (s : State) (r : NpRec) (path : EndPath) (page : Nat) (linkStays : Bool) : State :=
  let s := { s with core := { s.core with
      out := s.core.out.filter (fun x => ¬ (x.port = r.port ∧ x.rid = r.rid ∧ x.tag = r.tag)),
      ended := if linkStays then s.core.ended ++ [EndedRec.mk r.port r.rid r.tag] else s.core.ended } }
  let s := s.count (r.origin.devPage.getD page) path.counters.1 1
  match path.status with
  | some st => s.failNp r.origin r.rid r.tag r.tc 4 st path.cause
  | none => s

/-- End every request sent through port `n` and not completed. -/
def State.endOuts (s : State) (n : Nat) (path : EndPath) (linkStays : Bool) : State :=
  (s.core.out.filter (fun r => r.port = n)).foldl (fun s r => s.endOut r path n linkStays) s

/-- What is queued for port `n`: packets in the core whose egress it is. -/
def queuedFor (n : Nat) (p : Pkt) : Bool := p.egress = n

/-- The numbers a drain or sweep reports: non-posted requests and everything else, among packets that satisfy a condition. -/
def countNp (s : State) (sel : Pkt → Bool) : Nat × Nat :=
  (((s.core.pkts.filter sel).filter (fun p => p.kind = 1)).length, ((s.core.pkts.filter sel).filter (fun p => p.kind ≠ 1)).length)

/-- Forget the late-completion records of a port: its link went down (R138). -/
def State.forgetEnded (s : State) (n : Nat) : State :=
  { s with core := { s.core with ended := s.core.ended.filter (fun e => e.port ≠ n) } }

/-- A port's auxiliary state. -/
def State.paux (s : State) (n : Nat) : PortAux := SMap.get (fun _ => {}) s.ports n

/-- Replace a port's auxiliary state. -/
def State.setPaux (s : State) (n : Nat) (a : PortAux) : State := { s with ports := SMap.set (fun _ => {}) s.ports n a }

/-- The link of a port leaves DL_Active: STATUS shows it down in LTSSM state `st` (R144); without a line rate the guard band is the running gate
list's (R192, R207); a PTM dialog ends (R106). -/
def State.linkOff (s : State) (n st : Nat) : State :=
  let s := ((s.set (PORT.STATUS_LINK_UP n) 0).set (PORT.STATUS_FLIT n) 0).set (PORT.STATUS_L0P n) 0
  let s := (s.set (PORT.STATUS_CUR_RATE n) 0).set (PORT.STATUS_LTSSM n) st
  let guard := match (SMap.get (fun _ => ({} : Gate)) s.sched.gates n).run with
    | some g => g.guard
    | none => 0
  let s := (s.set (SCHED.PORT_LINE_RATE_V n) 0).set (SCHED.PORT_EFF_GUARD_V n) guard
  let s := { s with time := { s.time with ptm := s.time.ptm.filter (· ≠ n) } }
  s.forgetEnded n

/-- A drain ends: DRAINED, journaled with the way it ended (0 early, 1 deadline, 2 link down, 4 shed) and the counts ended (R138 to R140). -/
def State.drainEnds (s : State) (n how np other : Nat) : State :=
  let s := s.set (PORT.STATUS_DRAIN_STATE n) 2
  let s := s.setPaux n { s.paux n with drainDl := none }
  s.post (Src.port n) { type := .drainEnd, inst := n, aux := np * 65536 + other, payload := [how, s.get (PORT.DRAIN_DEADLINE_DEADLINE_US n)] }

/-- The link-down flush of R136: queued and outstanding non-posted requests receive Unsupported Request, the rest is discarded. -/
def State.linkFlush (s : State) (n : Nat) (path : EndPath) : State :=
  (s.endAll (queuedFor n) path n).endOuts n path false

/-- A packet that entered from a shed port is discarded with no completion, and the tag entry it holds is freed (R425 step 5). -/
def State.dropEntered (s : State) (p : Pkt) (page : Nat) : State :=
  let s := (s.dropPkt p.id).count page 15 1
  match p.body, p.origin with
  | .tfp q _ _, _ =>
    if (q.hdr.kind = 0x02 ∨ q.hdr.kind = 0x03) ∧ q.hdr.srcDev = ownDev s ∧ p.need.isNone then
      let w := q.hdr.window
      (s.when (((s.tag? q.hdr.xid).map TagEntry.acked).getD false) (fun s => s.set (Win.ACKED_OUT w) (s.get (Win.ACKED_OUT w) - 1))).freeTag q.hdr.xid
    else s
  | .tlp _, .tagged x => s.freeTag x
  | .tlp _, _ => s

/-- Ends of a shed port's traffic (R425 steps 3 to 5). Completions that entered from it go on (step 6). -/
def State.shedTraffic (s : State) (n : Nat) : State :=
  let s := (s.endAll (queuedFor n) .shed n).endOuts n .shed false
  (s.core.pkts.filter (fun p => p.ingress = n ∧ p.place ≠ .egress ∧ p.kind ≠ 2)).foldl (fun s p => s.dropEntered p n) s

/-- The copies staged toward analysis port `n` are discarded and counted in DROPPED (R173). -/
def State.mirrorShed (s : State) (n : Nat) : State :=
  (List.range 8).foldl (fun (s : State) m =>
    let v := s.mirror m
    if v.staged ≠ [] ∧ s.get (CORE.MIRROR_CTRL_DEST m) = n then
      (s.setMirror m { v with staged := [], dropped := sat 32 (v.dropped + v.staged.length) }).addSat (CORE.MIRROR_DROPPED_COUNT m) v.staged.length
    else s) s

/-- Shed a port (R141, R425): its link goes to Disabled and its traffic ends; a port shed while DRAINING becomes DRAINED (R140).
A cause on a port already shed does nothing further to traffic. -/
def State.shedPort (s : State) (n : Nat) (dpc : Bool) (cause : Nat) : State :=
  let already := s.flag (PORT.STATUS_SHED n)
  let s := if dpc then s.set (PORT.STATUS_DPC n) 1 else s.setPaux n { s.paux n with collector := true }
  let s := if already then s
    else
      let s := s.set (PORT.STATUS_SHED n) 1
      let s := (s.shedTraffic n).mirrorShed n
      let s := (s.linkOff n 7).presenceOf n
      if s.get (PORT.STATUS_DRAIN_STATE n) = 1 then s.drainEnds n 4 0 0 else s
  s.post (Src.port n) { type := .shed, inst := n, payload := [cause, if dpc then 1 else 0, if already then 1 else 0] }

/-- Shed a bundle (R426): it is not usable; packets queued for it end with cause SHED. Its drain state stays: R384 gives a shed no row. -/
def State.shedBundle (s : State) (b cause : Nat) : State :=
  let s := s.set (BRG.BUNDLE_DRAIN_STATUS_SHED b) 1
  let s := s.set FLT.SHED_BUNDLE_MAP (s.get FLT.SHED_BUNDLE_MAP ||| 2 ^ b)
  let s := s.endAll (queuedFor (112 + b)) .shed (96 + b)
  s.post (Src.bundle b) { type := .shed, inst := 112 + b, payload := [cause] }

/-- The PCIe ports of a partition: its upstream port and its members (R208). -/
def partPorts (s : State) (p : Nat) : List Nat :=
  (List.range 96).filter (fun n => s.get (PORT.CFG_PART n) = p ∧ s.get (PORT.CFG_ROLE n) < 2 ∧ ¬ s.flag (PORT.CFG_SHARED n))

/-- Whether a packet is queued toward a shared port or a bundle. -/
def towardShared (s : State) (p : Pkt) : Bool := if p.egress < 96 then s.flag (PORT.CFG_SHARED p.egress) else 112 ≤ p.egress && p.egress < 116

/-- Shed a partition (R427): every port of it, its packets queued toward shared ports or bundles, its RMA rings and connections; its
management DMA engines stop with ERR (R487). -/
def State.shedPart (s : State) (p cause : Nat) : State :=
  let s := s.wr FLT.SHED_PART (s.rd FLT.SHED_PART ||| (1 <<< p))
  let s := (partPorts s p).foldl (fun s n => s.shedPort n false cause) s
  let ps := partPorts s p
  let s := (s.core.pkts.filter (fun q => ps.contains q.ingress && towardShared s q)).foldl (fun s q => s.dropEntered q (100 + p)) s
  let s := ((List.range 64).filter (fun r => s.flag (RMA.RING_OWNER_VALID r) ∧ s.get (RMA.RING_OWNER_PART r) = p)).foldl
    (fun s r => if s.flag (RMA.RING_STATUS_RUNNING r) then (s.set (RMA.RING_STATUS_RUNNING r) 0).set (RMA.RING_STATUS_ERR r) 1 else s) s
  let s := ((List.range 1024).filter (fun c => (s.conn c).state ≠ 0 ∧ (s.conn c).state ≠ 5 ∧ s.get (ConnW.PART c) = p)).foldl
    (fun s c => s.connBroken c) s
  let s := ((List.range 8).filter (fun e => s.flag (MDMA.ENG_OWNER_VALID e) ∧ s.get (MDMA.ENG_OWNER_PART e) = p)).foldl
    (fun s e => if s.flag (MDMA.ENG_STATUS_RUNNING e) then (s.set (MDMA.ENG_STATUS_RUNNING e) 0).set (MDMA.ENG_STATUS_ERR e) 1 else s) s
  s.post Src.collector { type := .shed, inst := p, payload := [cause, 2] }

end Sys2Proof.Machine
end

