-- ==== Sys2Proof/Machine/Modes.lean ====
section
/-! DEFINITION. Entering a mode (R37, R42, R552) and what a twin failover does in its cycle: YIELD and the failover reaction (R407),
entry to DEGRADED (R408) and the treatment of RMA connections (R367). -/
namespace Sys2Proof.Machine
open Sys2Proof

/-- Set `GLB.DEVID` as R552 states for a mode entered. `image` marks an entry by an image. -/
def State.devidFor (s : State) (m : Nat) (image : Bool) : State :=
  let put := fun (s : State) (d v r : Nat) => ((s.set GLB.DEVID_DEVID d).set GLB.DEVID_VALID v).set GLB.DEVID_ROLE r
  if m ≤ 2 then s.wr GLB.DEVID 0
  else if m = 4 then put s 0 1 2
  else if m = 3 then (if image then put s 0 0 1 else s.set GLB.DEVID_ROLE 1)
  else if m = 5 then
    (if image ∨ s.get GLB.DEVID_ROLE = 2 then put s 0 0 1 else s.set GLB.DEVID_ROLE 1)
  else if m = 6 then
    (if s.get GLB.DEVID_ROLE = 2 then s
     else if s.get TWIN.PEER_MODE = 4 then s.set GLB.DEVID_ROLE 3 else s)
  else s

/-- The DDT is rewritten: SEQ counts it (R473). -/
def State.bumpDdt (s : State) : State := { s with part := { s.part with ddtSeq := (s.part.ddtSeq + 1) % 65536 } }

/-- Enter a mode: CURRENT changes, PREVIOUS takes the mode left when it differs (R523), CHANGING clears, `GLB.DEVID` follows R552, and MODE_CHANGE passes the ledger with the
previous mode in AUX (R37). Reservations of the change end (R37); an image in a mode other than MANAGER ends manager conflicts (R41). The DDT follows (R473). -/
def State.enterMode (s : State) (m trigger : Nat) (image : Bool) : State :=
  let old := s.get GLB.MODE_CURRENT
  let s := s.devidFor m image
  let s := if m = old then s else s.set GLB.MODE_PREVIOUS old
  let s := s.set GLB.MODE_CURRENT m
  let s := s.set GLB.MODE_CHANGING 0
  let s := if image ∧ m ≠ 4 then { s with mdma := { s.mdma with conflicts := [] } } else s
  s.bumpDdt.post Src.glb { type := .modeChange, aux := old, payload := [trigger, m] }

/-- The data ports of this side: PCIe ports with ROLE 0 or 1 (R407, R412). -/
def dataPorts (s : State) : List Nat := (List.range 96).filter (fun n => s.get (PORT.CFG_ROLE n) < 2)

/-- A twin message on the twin link: DST_DEVID 0x7FF, MGT channel (R396). -/
def State.sendTwin (s : State) (kind : Nat) (body : List Byte) : State :=
  let b := s.twin.bundle
  s.addPkt { id := 0, body := .tfp { hdr := { kind := kind, dstDev := 0x7FF, srcDev := ownDev s, dstPort := 120, srcPort := 120,
                                              colour := 0xFFF, gen := genField (tfpStamp s .mgt) }, body := .msg body } .mgt false,
             dest := 32 + 2 * b, egress := 112 + b, tc := 0, kind := 3, ro := false, colour := 0xFFF,
             gens := tfpStamp s .mgt, sub := none, ingress := 120,
             cells := cellsOf (32 * ceilDiv (16 + body.length + 12) 32), place := .mgmtq, origin := .none_ }

/-- The 16-byte TW_ROLE body (R397). -/
def roleBody (action cause epoch : Nat) : List Byte :=
  [BitVec.ofNat 8 action, BitVec.ofNat 8 cause] ++ List.replicate 6 0 ++ leBytes 8 epoch

/-- Change the pair state (R394): it passes the ledger as a twin event, AUX the partner's last ledger number. -/
def State.pairTo (s : State) (st cause : Nat) : State :=
  let s := s.set TWIN.STATUS_PAIR st
  let s := if cause = 0 then s else s.set TWIN.STATUS_CAUSE cause
  s.post Src.twin { type := .pairState, aux := s.rd64 TWIN.PEER_LEDGER_LO, payload := [(s.rd TWIN.STATUS).toNat] }

/-- A good flit on the twin link: it is not silent; a SUSPECT side whose croak is present returns to its state (R394, R404). -/
def State.twinHeard (s : State) (b : Nat) : State :=
  if s.twin.enable ∧ s.twin.bundle = b ∧ (s.twin.silent ∨ ¬ s.flag TWIN.STATUS_LINK_OK) then
    let s := ({ s with twin := { s.twin with silent := false } }).set TWIN.STATUS_LINK_OK 1
    if s.get TWIN.STATUS_PAIR = 5 ∧ ¬ s.twin.croakLost then s.pairTo s.twin.before 0 else s
  else s

/-- Stop both croak outputs at their present level (R403). -/
def State.stopCroak (s : State) : State :=
  ((s.set TWIN.STATUS_CROAK_STOPPED 1).set FLT.PINS_CROAK_STOPPED 1)

/-- A connection that resumes without its keys, the TX key of its phase or any RX key, becomes BROKEN (R351, R401). -/
def State.resumeKeys (s : State) (c : Nat) : State :=
  let rx := fun (ph : Nat) => (cryptoKey s c true ph).isSome
  if (s.conn c).state = 6 ∧ ¬ ((cryptoKey s c false (s.conn c).phase).isSome ∧ (rx 0 ∨ rx 1)) then s.connBroken c else s

/-- R367: one connection at a failover. Go-back-N becomes BROKEN; selective repeat resumes from its mirrored checkpoint (table 0x20)
with its counter advanced by 2^24. -/
def State.resumeConn (s : State) (c : Nat) : State :=
  let k := s.conn c
  match SMap.find? s.twin.mirror (65536 * 0x20 + c) with
  | some r =>
    let f := fun (o n : Nat) => ofLe ((r.drop o).take n)
    let s := ((s.wr (ConnW.word c 0) (BitVec.ofNat 32 (f 0 4))).wr (ConnW.word c 1) (BitVec.ofNat 32 (f 4 4))).wr (ConnW.word c 2)
      (BitVec.ofNat 32 (f 8 4))
    let st := f 12 4 % 8
    if st = 0 ∨ st = 5 then s
    else if s.get (ConnW.MODE c) = 0 then (s.setConn c { k with state := 2 }).connBroken c
    else
      let psn := f 0x18 4 % 2 ^ 24
      let map := f 0xA0 128
      let un := ((List.range 1024).filter (fun i => ¬ map.testBit i ∧ 1024 ≤ psn + i)).map
        (fun i => ({ psn := psn + i - 1024, kind := 0, work := 0, seg := 0, due := s.adv } : Unacked))
      let rxn := f 0x1C 4 % 2 ^ 24
      let rmap := ((List.range 1024).filter (fun i => (f 0x20 128).testBit i)).map (fun i => (rxn + i) % 2 ^ 24)
      let s := s.setConn c { k with state := 6, phase := f 12 4 / 8 % 2, counter := f 0x10 8 + 2 ^ 24, psn := psn, unacked := un,
                                    sentBlocks := f 0x120 4 % 2 ^ 24, peerLimit := f 0x124 4 % 2 ^ 24, rxNext := rxn, rxMap := rmap,
                                    consumed := f 0x128 4 % 2 ^ 24, resumes := 0, timerDl := some s.adv,
                                    srcDev := some (s.get TWIN.PEER_DEVID) }
      s.post Src.rma { type := .connState, inst := c, payload := [k.state, 6, 0] }
  | none =>
    if k.state = 0 ∨ k.state = 5 ∨ k.state = 4 then s
    else if s.get (ConnW.MODE c) = 0 then s.connBroken c
    else s.setConn c { k with state := 6, counter := k.counter + 2 ^ 24, resumes := 0, timerDl := some s.adv }

/-- The partner's memory keys, rings and crypto keys, taken over from the mirror (tables 0x21 to 0x23; R398, R408). A ring starts again at its
last completion record, since the descriptors in progress were the partner's (log entry 31). -/
def State.adoptMirror (s : State) : State :=
  s.twin.mirror.foldl (fun (s : State) e =>
    let i := e.1 % 65536
    let w := fun (k : Nat) => BitVec.ofNat 32 (ofLe ((e.2.drop (4 * k)).take 4))
    if e.1 / 65536 = 0x21 then
      let part := ((List.range 32).find? (fun p => s.get (RMA.KEY_POOL_BASE p) ≤ i ∧ i < s.get (RMA.KEY_POOL_BASE p) + s.get (RMA.KEY_POOL_COUNT p))).getD 0
      s.setMemKey i { state := fieldOf (w 3) 0 2, gen := fieldOf (w 3) 2 12, part := part, pasid := fieldOf (w 1) 0 20,
                      read := bitOf (w 1).toNat 20, write := bitOf (w 1).toNat 21, ring := fieldOf (w 1) 22 6, inflight := 0 }
    else if e.1 / 65536 = 0x22 ∧ i < 64 then
      let s := (List.range 13).foldl (fun (s : State) k => s.wr (RMA.RING_OWNER i + 4 * k) (w k)) s
      let t := s.get (RMA.RING_CQ_TAIL_COUNT i)
      (s.setRing i { fetch := t, done := t }).set (RMA.RING_SQ_HEAD_COUNT i) t
    else if e.1 / 65536 = 0x23 then
      { s with rma := { s.rma with crypto := SMap.set (fun _ => none) s.rma.crypto i (some ((e.2.drop 4).take 32)) } }
    else s) s

/-- The reservation of a port ends; a drain that the change reserving it started ends with it, and the port is ACTIVE again, journaled (R39, R92, R390). -/
def State.unreserve (s : State) (n : Nat) : State :=
  let own : Bool := (s.paux n).ownDrain && (s.get (PORT.STATUS_DRAIN_STATE n) = 1 || s.get (PORT.STATUS_DRAIN_STATE n) = 2)
  let s := s.setPaux n { s.paux n with reserved := false, drainAt := none, ownDrain := false, drainDl := if own then none else (s.paux n).drainDl }
  if own then (s.set (PORT.STATUS_DRAIN_STATE n) 0).post (Src.port n) { type := .drainEnd, inst := n, payload := [3] } else s

/-- The same of a bundle. -/
def State.unreserveBundle (s : State) (b : Nat) : State :=
  let own : Bool := s.brg.ownDrains.contains b && s.get (BRG.BUNDLE_DRAIN_STATUS_STATE b) ≠ 0
  let s := s.set (BRG.BUNDLE_DRAIN_STATUS_RESERVED_SW b) 0
  let s := { s with brg := { s.brg with drainAt := SMap.set (fun _ => none) s.brg.drainAt b none, ownDrains := s.brg.ownDrains.filter (· ≠ b) } }
  if own then
    (State.set { s with brg := { s.brg with drainDl := SMap.set (fun _ => none) s.brg.drainDl b none } } (BRG.BUNDLE_DRAIN_STATUS_STATE b) 0).post
      (Src.bundle b) { type := .drainEnd, inst := 112 + b, payload := [3] }
  else s

/-- Every reservation ends (R39, R92, R388). -/
def State.releaseAll (s : State) : State :=
  let s := (List.range 96).foldl (fun s n => if (s.paux n).reserved then s.unreserve n else s) s
  (List.range 4).foldl (fun (s : State) b => if s.flag (BRG.BUNDLE_DRAIN_STATUS_RESERVED_SW b) then s.unreserveBundle b else s) s

/-- The ports and bundles a switch-over reserved are released (R92, R388). -/
def State.releaseSwitch (s : State) : State :=
  let s := s.releaseAll
  { s with img := { s.img with switchAt := none, switchAfter := none } }

/-- Whether a mode change is in progress (R39): one announced or begun, or a switch-over of class RESET, which enters a mode (R37). -/
def changeRuns (s : State) : Bool :=
  let st := s.get IMG.STATUS_STAGE_STATE
  let reset : Bool := match s.img.staged with
    | some (_, cls, _) => (st = 4 || st = 5) && cls = 2
    | none => false
  s.flag GLB.MODE_CHANGING || s.twin.cmd.isSome || reset

/-- Withdraw a switch-over: the stage returns to VERIFIED (R91, R92). The boot pointer that a RESET-class switch-over has written stays as it is, DESIGN
CHOICE: R88 and R92 do not say that it is written back (log entry 86). -/
def State.withdrawSwitch (s : State) (reason : Nat) : State :=
  let s := ((s.releaseSwitch).set IMG.STATUS_STAGE_STATE 2).set IMG.STATUS_REASON reason
  s.imgEvent .imgCancel (s.rd IMG.STAGED_VERSION).toNat (inactiveSlot s) reason (stagedHash s)

/-- R92, R390: a failover during SWITCH_PENDING or SWITCHING returns the stage to VERIFIED, ends the drains it started and journals. -/
def State.cancelSwitchover (s : State) : State :=
  let st := s.get IMG.STATUS_STAGE_STATE
  if st = 4 ∨ st = 5 then s.withdrawSwitch 0 else s

/-- Abandon the drains of a demote or park in progress (R39): the ports and bundles it reserved return to ACTIVE, a park that has not yet taken the links
down ends, and the aborted transition is journaled. -/
def State.abandonDrains (s : State) : State :=
  let park := s.get PWR.STATUS_PARK_STEP
  if (s.flag GLB.MODE_CHANGING ∨ s.twin.cmd.isSome) ∧ park ≤ 3 then
    let s := s.releaseAll.set PWR.STATUS_PARK_STEP 0
    let s := { s with twin := { s.twin with cmd := none }, pwr := { s.pwr with parkDl := none, wakeReq := false } }
    s.post Src.glb { type := .modeRefused, aux := s.mode, payload := [if park = 0 then 5 else 7, 0x1A, 0] }
  else s

/-- Fail over: entry to DEGRADED and what R408 does in the entry cycle. `cause` is a code of `TWIN.STATUS`.CAUSE. -/
def State.failover (s : State) (cause : Nat) : State :=
  let syncing := s.get TWIN.STATUS_PAIR = 3
  let s := s.cancelSwitchover
  let s := s.abandonDrains
  let s := { s with twin := { s.twin with part := none, sent := none, former := if s.mode = 5 then (if s.get TWIN.PEER_MODE = 4 then 4 else 3) else s.mode } }
  let s := s.pairTo 6 cause
  let s := if syncing then s.set TWIN.STATUS_SYNC_STALE 1 else s
  let s := s.enterMode 6 1 false
  let s := s.set TWIN.PEER_ALIAS_DEVID (s.get TWIN.PEER_DEVID)
  let s := s.set TWIN.PEER_ALIAS_ACTIVE 1
  let s := (List.range 32).foldl (fun s p => if s.flag (TWIN.NOTIFY_EN p) then s.raiseVector p (s.get (TWIN.NOTIFY_VECTOR p)) else s) s
  let s := s.adoptMirror
  let s := (List.range 1024).foldl (fun s c => (s.resumeConn c).resumeKeys c) s
  s.post Src.twin { type := .failover, aux := s.rd64 TWIN.PEER_LEDGER_LO,
                    payload := [(s.rd TWIN.STATUS).toNat, if syncing then 1 else 0] }

/-- The failover reaction of a fault on a paired side (R407): YIELD, both croak outputs stop, every data port is shed, and an active
side enters SHADOW. On an unpaired device it is journaled as not applicable (R434). -/
def State.failoverReaction (s : State) (src : Nat) : State :=
  if s.twin.enable ∧ s.get TWIN.STATUS_PAIR ≠ 0 then
    let s := s.sendTwin 0x65 (roleBody 1 src 0)
    let s := { s with twin := { s.twin with croakRun := false } }
    let s := (dataPorts s).foldl (fun s n => s.shedPort n false 4) s
    if s.mode = 3 ∨ s.mode = 4 then s.enterMode 5 2 false else s
  else s.post Src.twin { type := .failover, payload := [0xFFFF] }

end Sys2Proof.Machine
end

