-- ==== Sys2Proof/Machine/Flags.lean ====
section
/-! DEFINITION. Status and flag computations every block shares: the fault collector (R419 to R435) with its latches, first-fault
record, reactions and pins, and the privilege refusals every block reports the same way (R476). -/
namespace Sys2Proof.Machine
open Sys2Proof

/-- Fault classes as a block reports them: 0 CE, 1 UC, 2 FATAL (R420). -/
def CE : Nat := 0
def UC : Nat := 1
def FATAL : Nat := 2

/-- The status bit of source `src` (R421). -/
def statusBit (src : Nat) : RF := if src < 32 then ⟨FLT.STATUS_LO, src, 1⟩ else ⟨FLT.STATUS_HI, src - 32, 1⟩

/-- The effective class of an event (R420): the higher of the reported class and the source's CLASS (3 is treated as 2); sources 37
and 52 are FATAL. -/
def effClass (s : State) (src cls : Nat) : Nat :=
  if src = 37 ∨ src = 52 then 2 else max cls (min 2 (s.get (FLT.SRC_CFG_CLASS src)))

/-- The actions of a class at a source (R63, R411, R420): its ACT field, with stop croak added for sources 37 and 52 and the FATAL
class of source 36, and DEGRADED_ACT ORed into ACT_UC of sources 0 to 35 and 39 to 41 in DEGRADED. Bit 6 is always set. -/
def actionsOf (s : State) (src eff : Nat) : Nat :=
  let a := if eff = 0 then s.get (FLT.SRC_ACT_ACT_CE src) else if eff = 1 then s.get (FLT.SRC_ACT_ACT_UC src)
    else s.get (FLT.SRC_ACT_FATAL_ACT_FATAL src)
  let a := if (src = 37 ∨ src = 52 ∨ (src = 36 ∧ eff = 2)) then a ||| 32 else a
  let a := if s.mode = 6 ∧ eff = 1 ∧ (src < 36 ∨ (39 ≤ src ∧ src ≤ 41)) then a ||| s.get TWIN.DEGRADED_ACT_ACT else a
  a ||| 64

/-- The ports and bundles that "shed port" names for an event (R424). -/
def shedPortScope (s : State) (src inst : Nat) : List ShedTarget :=
  let ofId := fun (n : Nat) => if n < 96 then [ShedTarget.port n] else if 112 ≤ n ∧ n ≤ 115 then [ShedTarget.bundle (n - 112)] else []
  if src < 32 then
    (if inst = 0xFFFF then
      ((List.range 96).filter (fun n => s.get (PORT.CFG_ROLE n) < 2 ∧ s.get (PORT.CFG_OCTET n) = src)).map ShedTarget.port
     else ofId inst)
  else if src < 36 then [ShedTarget.bundle (src - 32)]
  else if src = 39 then (if inst < 96 then [ShedTarget.port inst] else if inst < 100 then [ShedTarget.bundle (inst - 96)] else [])
  else if src = 40 ∨ src = 63 then ofId inst
  else if src = 45 then (if inst < 16 ∧ s.get (SLOT.CFG2_PORTID inst) < 96 then [ShedTarget.port (s.get (SLOT.CFG2_PORTID inst))] else [])
  else []

/-- The partition of a member or upstream port; a shared port has none (R424). -/
def portPart (s : State) (n : Nat) : Option Nat :=
  if s.get (PORT.CFG_ROLE n) < 2 ∧ ¬ s.flag (PORT.CFG_SHARED n) then some (s.get (PORT.CFG_PART n)) else none

/-- The partitions that "shed partition" names for an event; `own` is the partition that owns the ring, connection or injection
reported (R424). -/
def shedPartScope (s : State) (src inst : Nat) (own : Option Nat) : List ShedTarget :=
  let ofPorts := (shedPortScope s src inst).filterMap (fun t => match t with
    | .port n => (portPart s n).map ShedTarget.part
    | _ => none)
  if src < 32 ∨ src = 39 ∨ src = 40 ∨ src = 45 then ofPorts.dedup
  else if src = 41 ∨ src = 42 ∨ src = 63 then own.toList.map ShedTarget.part
  else if src = 49 then (if inst < 32 then [ShedTarget.part inst] else [])
  else []

/-- Whether a target is shed already. -/
def isShed (s : State) : ShedTarget → Bool
  | .port n => s.flag (PORT.STATUS_SHED n)
  | .part p => bitOf (s.rd FLT.SHED_PART).toNat p
  | .bundle b => s.flag (BRG.BUNDLE_DRAIN_STATUS_SHED b)

/-- Shed a target for a capture of source `src`, remembering that the capture shed it (R428). -/
def State.shedFor (s : State) (src : Nat) (t : ShedTarget) : State :=
  let s := { s with flt := { s.flt with sheds := if s.flt.sheds.contains (src, t) then s.flt.sheds else s.flt.sheds ++ [(src, t)] } }
  match t with
  | .port n => s.shedPort n false 1
  | .part p => s.shedPart p 1
  | .bundle b => s.shedBundle b 1

/-- Latch an event (R421): the status bit, LATCHED raised to the effective class, and FIRST filled or OVERFLOW set. -/
def State.latchFault (s : State) (src eff inst : Nat) : State :=
  let s := s.set (statusBit src) 1
  let s := if s.get (FLT.SRC_STAT_LATCHED src) < eff + 1 then s.set (FLT.SRC_STAT_LATCHED src) (eff + 1) else s
  if s.flag FLT.FIRST_VALID then s.set FLT.OVERFLOW_OVERFLOW 1
  else
    let s := s.set FLT.FIRST_CLASS (eff + 1)
    let s := s.set FLT.FIRST_SOURCE src
    let s := s.set FLT.FIRST_INSTANCE inst
    let s := s.set FLT.FIRST_VALID 1
    (s.wr64 FLT.FIRST_FT_LO s.time.ft).wr64 FLT.FIRST_LEDGER_LO 0

/-- The actions of a capture that have something to act on (R424, R434): a shed without a target and a failover on an unpaired device are
journaled as not run. -/
def actionsRun (s : State) (src inst act : Nat) (own : Option Nat) : Nat :=
  withField (withField (withField (BitVec.ofNat 32 act) 2 1 (bit (bitOf act 2 && shedPortScope s src inst ≠ []))) 3 1
    (bit (bitOf act 3 && shedPartScope s src inst own ≠ []))) 4 1 (bit (bitOf act 4 && s.twin.enable && s.get TWIN.STATUS_PAIR ≠ 0)) |>.toNat

/-- Run the actions of a capture (R423). -/
def State.runActions (s : State) (src inst act : Nat) (own : Option Nat) : State :=
  let s := if bitOf act 0 then
      (List.range 32).foldl (fun s p => if s.flag (FLT.IRQ_VEC_EN p) then s.raiseVector p (s.get (FLT.IRQ_VEC_VECTOR p)) else s) s
    else s
  let s := if bitOf act 2 then (shedPortScope s src inst).foldl (fun s t => s.shedFor src t) s else s
  let s := if bitOf act 3 then (shedPartScope s src inst own).foldl (fun s t => s.shedFor src t) s else s
  let s := if bitOf act 5 then s.stopCroak else s
  if bitOf act 4 then s.failoverReaction src else s

/-- The block record of a fault entry (R439): the status and record registers of the block that reports, log entry 129. -/
def blockRecord (s : State) (src inst : Nat) : List Nat :=
  let words := if src < 32 then (if inst < 96 then [PORT.STATUS inst] else [])
    else if src < 36 then [FBL.PHY_STATUS (src - 32), FBL.LL_STATUS (src - 32)]
    else match src with
      | 36 => [CORE.ECC_STATUS]
      | 37 | 55 => [CORE.STATUS]
      | 38 => [SCHED.STATUS]
      | 39 => GUARD.STATUS :: (if inst ≤ 102 then [GUARD.UNIT_REC_INFO inst, GUARD.UNIT_REC_ADDR_LO inst, GUARD.UNIT_REC_ADDR_HI inst, GUARD.UNIT_REC_REQ inst] else [])
      | 40 => [BRG.STATUS, BRG.DROP]
      | 41 => [RMA.STATUS]
      | 42 => [RMA.STATUS, RMA.AUTH_REC]
      | 43 => [TIME.STATUS]
      | 44 => if inst < 4 then [PWR.RAIL_STATUS inst] else []
      | 45 => if inst < 16 then [SLOT.STATUS inst] else [PWR.DOMAIN_MISC]
      | 46 => [TWIN.STATUS]
      | 47 => [IMG.STATUS, GLB.COMMIT_STATUS]
      | 49 => [PART.STATUS]
      | 50 => [JRNL.STATUS]
      | 51 => [PWR.FUSE_STATUS]
      | 52 | 53 => [PWR.STATUS]
      | _ => []
  words.map (fun off => (s.rd off).toNat)

/-- A repeat (R422): COUNT, and a shed of a target its instance names that is not yet shed, journaled only then. -/
def State.repeatFault (s : State) (src inst act : Nat) (own : Option Nat) : State :=
  let s := s.addSat (FLT.SRC_STAT_COUNT src) 1
  let ts := ((if bitOf act 2 then shedPortScope s src inst else []) ++ (if bitOf act 3 then shedPartScope s src inst own else [])).filter
    (fun t => ¬ isShed s t)
  if ts = [] then s
  else
    (ts.foldl (fun s t => s.shedFor src t) s).post Src.collector
      { type := .faultRepeatShed, src := src, inst := inst, aux := (s.rd (FLT.SRC_STAT src)).toNat,
        payload := [s.get (FLT.SRC_STAT_LATCHED src), act &&& 12] ++ blockRecord s src inst }

/-- A block raises a fault event with its own class and instance (R421, R422). `own` is the partition concerned where R424 names the
owner of a ring, connection or injection. -/
def State.raiseFaultFor (s : State) (src cls inst : Nat) (own : Option Nat) : State :=
  let eff := effClass s src cls
  let act := actionsOf s src eff
  let capture := ¬ s.flag (statusBit src) ∨ s.get (FLT.SRC_STAT_LATCHED src) < eff + 1
  let fills := ¬ s.flag FLT.FIRST_VALID
  let s := s.latchFault src eff inst
  if capture then
    let s := s.post Src.collector { type := .faultCapture, src := src, inst := inst, aux := (s.rd (FLT.SRC_STAT src)).toNat,
                                    payload := [eff, actionsRun s src inst act own] ++ blockRecord s src inst, first := fills }
    s.runActions src inst act own
  else s.repeatFault src inst act own

/-- A block raises a fault event (R421). -/
def State.raiseFault (s : State) (src cls inst : Nat) : State := s.raiseFaultFor src cls inst none

/-! ### Pins (R429, R430) -/

/-- Whether a source's set status bit has an action among those of its latched class. -/
def latchedAction (s : State) (src bit : Nat) : Bool :=
  s.flag (statusBit src) && s.get (FLT.SRC_STAT_LATCHED src) ≠ 0 && bitOf (actionsOf s src (s.get (FLT.SRC_STAT_LATCHED src) - 1)) bit

/-- `FAULT_N[g]` driven low, as a bit map: in BARE group 0 is held low; otherwise while a set status bit of group `g` has FAULT pin among
its latched class's actions; floating in PARKED and while VDD_IO is off (R429). -/
def faultPins (s : State) : Nat :=
  if s.mode = 7 ∨ ¬ s.flag PWR.DOMAIN_MISC_VDD_IO_GOOD then 0
  else
    let m := (List.range 64).foldl (fun (m : Nat) src =>
      if s.flag (FLT.SRC_CFG_GROUP_EN src) ∧ latchedAction s src 1 then m ||| 2 ^ s.get (FLT.SRC_CFG_GROUP src) else m) 0
    if s.mode = 0 then m ||| 1 else m

/-- `MSP_IRQ_N` driven low (R430), or in PARKED after a wake that was abandoned (R504). -/
def mspIrq (s : State) : Bool :=
  if s.mode = 7 then s.flag PWR.WAKE_STATUS_FAIL else s.flag FLT.IRQ_CTRL_MSP_EN && (List.range 64).any (fun src => latchedAction s src 0)

/-! ### Refusals every block reports the same way -/

/-- The arrival path as the number the journal holds (R476): the PortID, 112 + bundle, 124 the MSP, 125 JTAG. -/
def pathCode : Path → Nat
  | .pcie n _ => n.val
  | .bundle b => 112 + b.val
  | .msp => 124
  | .jtag => 125

/-- The page on which a path's refusals are counted: the arrival port's page, or the device page of MDMA, MSP and JTAG for other
paths (R476, R489). -/
def pathPage : Path → Nat
  | .pcie n _ => n.val
  | _ => 138

/-- A write is discarded for want of view or class: counted in counter 34 and journaled with the BAR0 offset in AUX (R476). -/
def State.privRefused (s : State) (path : Path) (off : Nat) (val : Nat) : State :=
  (s.count (pathPage path) 34 1).post (Src.glb) { type := .privRefused, aux := off, payload := [pathCode path, val] }

/-- The result of an enable request (R77, R84, R439, R554), accepted when there is no failure: OFFENDER names what failed, and it passes the ledger with the
commit registers, the block's status register and REASON. -/
def State.enableResult (s : State) (src inst statusOff : Nat) (f : Option Fail) : State :=
  let s := s.wr GLB.COMMIT_OFFENDER (BitVec.ofNat 32 ((f.map Fail.offender).getD 0))
  s.post src { type := .enableResult, inst := inst,
               payload := [GLB.COMMIT_STATUS, GLB.COMMIT_OFFENDER, GLB.GEN, GLB.GEN_PREV, statusOff].map (fun o => (s.rd o).toNat) ++
                 [(f.map Fail.reason).getD 0] }

/-- An enable request is served (R77): refused, its reason in the block's status register; else carried out. Both pass the ledger (R84). `r` is the
REASON field, `statusOff` its register. -/
def State.enableServed (s : State) (src inst : Nat) (r : RF) (f : Option Fail) (act : State → State) : State :=
  match f with
  | some x => (s.set r x.reason).enableResult src inst r.off f
  | none => ((act s).set r 0).enableResult src inst r.off none

end Sys2Proof.Machine
end

