-- ==== Sys2Proof/Machine/Operands.lean ====
section
/-! DEFINITION. The operand forms of the register interface: the classes a path holds (R55, R477, R478), the partition view (R475), where
an indirect window's word lies (R521), and how each access type takes a written value (R9, R519, R520). -/
namespace Sys2Proof.Machine
open Sys2Proof

/-! ### Classes -/

/-- Whether the debug port acts as in DEV: lifecycle DEV, or RETURN after the unlock (R241, R478). -/
def debugOpen (s : State) : Bool := lifecycle s = 0 || (lifecycle s = 2 && s.flag GUARD.DEBUG_UNLOCKED)

/-- KIND and INDEX of a path in the PRIVILEGE section (R55). -/
def pathKey : Path → Nat × Nat
  | .pcie n _ => (0, n.val)
  | .bundle b => (1, 112 + b.val)
  | .msp => (2, 0)
  | .jtag => (3, 0)

/-- The classes a path holds: in BARE the fixed map of R478, else its PRIVILEGE entry's, none without one; JTAG has none in RETURN before the
unlock (R510). -/
def classesOf (s : State) (path : Path) : Nat :=
  if path = .jtag ∧ lifecycle s = 2 ∧ ¬ debugOpen s then 0
  else if s.mode = 0 then
    match path with
    | .pcie n _ => if n.val = 0 then 0b101101 else 0
    | .msp => 0b1101
    | .jtag => if debugOpen s then 0b101 else 0
    | .bundle _ => 0
  else
    match s.part.privs.find? (fun e => (e.kind, e.index) = pathKey path) with
    | some e => e.classes
    | none => 0

/-- Whether a path holds a class: 0 privileged register writes, 1 management messages, 2 flash writes, 3 mode changes, 4 key
installation, 5 counter pages (R477). -/
def hasClass (s : State) (path : Path) (c : Nat) : Bool := (classesOf s path).testBit c

/-! ### The partition view -/

/-- Index of an offset in an array of `n` instances of `size` bytes at `base`, `stride` apart. -/
def inArray (off base stride size n : Nat) : Option Nat :=
  if base ≤ off ∧ off < base + stride * n ∧ (off - base) % stride < size then some ((off - base) / stride) else none

/-- Whether port `n` is partition p's upstream port or one of its members. -/
def portOfPart (s : State) (p n : Nat) : Bool := s.get (PORT.CFG_ROLE n) < 2 && s.get (PORT.CFG_PART n) = p && !s.flag (PORT.CFG_SHARED n)

/-- The alarm owner code and instance (R68): owner and OWNER_INST of alarm `n`. -/
def alarmOwner (s : State) (n : Nat) : Option (Nat × Nat) :=
  (s.part.owners.find? (fun e => e.cls = 2 ∧ e.inst = n)).map (fun e => (e.owner, e.ownerInst))

/-- The alarm whose registers hold an offset. -/
def alarmAt (off : Nat) : Option Nat := inArray off (TIME.ALARM_CTRL 0) 0x20 0x18 16

/-- Whether a condition holds of the instance an offset falls in. -/
def atIdx (i : Option Nat) (p : Nat → Bool) : Bool :=
  match i with
  | some k => p k
  | none => false

/-- Readable in partition p's view (R475, R491), for a path whose port holds classes `cl`. -/
def partReadable (s : State) (p cl off : Nat) : Bool :=
  if off < 0x20000 then true
  else if off < 0x40000 then false
  else if off < 0x80000 then off = IMG.STATUS || off = IMG.ACTIVE_VERSION || off = IMG.STAGED_VERSION || (IMG.ACTIVE_HASH 0 ≤ off && off < IMG.ACTIVE_HASH 12)
  else if off < 0xE0000 then portOfPart s p ((off - 0x80000) / 0x1000)
  else if off < 0xF0000 then
    let k := (off - 0xE0000) / 0x800
    (List.range 96).any (fun n => portOfPart s p n && (s.get (PORT.CFG_OCTET n) = k || (s.get (PORT.CFG_WIDTH n) = 4 && s.get (PORT.CFG_OCTET n) + 1 = k)))
  else if off < 0x180000 then false
  else if off < 0x1C0000 then
    atIdx (inArray off (BRG.RWF_INFO 0) 0x20 0x20 32) (· = p) || atIdx (inArray off (BRG.FENCE_SNAP_INFO 0) 0x20 0x20 32) (· = p) ||
      atIdx (inArray off (BRG.FENCE 0) 0x10 0x10 2048) (fun w => s.get (Win.PART w) = p)
  else if off < 0x200000 then
    atIdx (inArray off (RMA.RING_OWNER 0) 0x40 0x40 64) (fun r => s.flag (RMA.RING_OWNER_VALID r) && s.get (RMA.RING_OWNER_PART r) = p) ||
      atIdx (inArray off (RMA.KEY_POOL 0) 4 4 32) (· = p) || atIdx (inArray off (RMA.KEYCMD_INDEX 0) 0x20 0x20 32) (· = p)
  else if off < 0x210000 then
    let n := s.get (SLOT.CFG2_PORTID ((off - 0x200000) / 0x1000))
    n < 96 && portOfPart s p n
  else if off < 0x220000 then off = TWIN.STATUS || off = TWIN.PEER || off = TWIN.NOTIFY p
  else if off < 0x300000 then
    let q := (off - 0x220000) / 0x1000
    cl.testBit 5 && ((q < 96 && portOfPart s p q) || q = 100 + p)
  else if off < 0x400000 then false
  else if off < 0x410000 then
    off = MDMA.STATUS || atIdx (inArray off (MDMA.ENG_OWNER 0) 0x40 0x40 8) (fun e => s.flag (MDMA.ENG_OWNER_VALID e) && s.get (MDMA.ENG_OWNER_PART e) = p)
  else
    off = PART.STATUS || atIdx (inArray off (PART.TABLE_CTRL 0) 0x20 0x20 32) (· = p) || atIdx (inArray off (PART.VDSP 0 0) 0x80 0x80 32) (· = p)

/-- Writable in partition p's view (R109, R339, R374, R475): its alarms, its rings but for OWNER, its key commands, its NOTIFY, its
engines but for OWNER, and its own MSI-X table, whose addresses only the host writes (R468). -/
def partWritable (s : State) (p off : Nat) : Bool :=
  (0xE000 ≤ off && off < 0xE400) ||
  atIdx (alarmAt off) (fun n => alarmOwner s n = some (0xA, p)) ||
  (atIdx (inArray off (RMA.RING_OWNER 0) 0x40 0x40 64) (fun r => off ≠ RMA.RING_OWNER r && s.flag (RMA.RING_OWNER_VALID r) && s.get (RMA.RING_OWNER_PART r) = p)) ||
  atIdx (inArray off (RMA.KEYCMD_INDEX 0) 0x20 0x20 32) (· = p) || off = TWIN.NOTIFY p ||
  (atIdx (inArray off (MDMA.ENG_OWNER 0) 0x40 0x40 8) (fun e => off ≠ MDMA.ENG_OWNER e && s.flag (MDMA.ENG_OWNER_VALID e) && s.get (MDMA.ENG_OWNER_PART e) = p))

/-- Whether a path may read an offset (R475): class 0 and the MSP read all of BAR0; another path its partition's view; a bundle or JTAG
path without class 0 reaches no partition. -/
def readAllowed (s : State) (path : Path) (off : Nat) : Bool :=
  if hasClass s path 0 then true
  else match path with
    | .msp => true
    | .pcie _ p => partReadable s p.val (classesOf s path) off
    | _ => false

/-- Whether an offset holds a crypto or pair-key register, which only key installation governs (R354, R374, R401). -/
def keyReg (off : Nat) : Bool :=
  off = RMA.CRYPTO_SEL || (RMA.CRYPTO_KEY 0 ≤ off && off ≤ RMA.CRYPTO_KEY 7) || off = TWIN.PAIR_KEY_CTRL || (TWIN.PAIR_KEY 0 ≤ off && off ≤ TWIN.PAIR_KEY 7)

/-- The registers the MSP reaches in PARKED (R502). -/
def parkedOk (off : Nat) : Bool :=
  off = TIME.WAKE_CTRL || off = TIME.WAKE_AT_LO || off = TIME.WAKE_AT_HI || off = PWR.CTRL || off = PWR.WAKE_CFG || off = PWR.WAKE_STATUS ||
    (PWR.RAIL_CFG 0 ≤ off && off < PWR.RAIL_CFG 0 + 0x10 * 4)

/-- Whether a path may write an offset: key registers need class 4; IMG and the flash window class 2; TWIN.CTRL class 3 (R418,
R477); TWIN.DECIDE is the MSP's (R406), FLT also open to it (R446); PWR.CTRL takes class 3 too (R501), PWR.FUSE_CMD classes 2 and 3 (R510); an alarm is its owner's alone (R109); the rest needs class 0 or the partition's
exception. In PARKED the MSP reaches the registers of R502, whatever its classes. -/
def writeAllowed (s : State) (path : Path) (off : Nat) : Bool :=
  if s.mode = 7 then path = .msp && parkedOk off
  else if keyReg off then hasClass s path 4 && (match path with | .pcie _ _ | .bundle _ => true | _ => false)
  else if off = IMG.CTRL ∨ off = IMG.FLASH_CTRL ∨ (0x60000 ≤ off ∧ off < 0x80000) then hasClass s path 2
  else if off = TWIN.CTRL then hasClass s path 3
  else if off = TWIN.DECIDE then path = .msp
  else if off = PWR.FUSE_CMD then hasClass s path 2 && hasClass s path 3
  else if off = PWR.CTRL then hasClass s path 0 || hasClass s path 3
  else if path = .msp ∧ 0x30000 ≤ off ∧ off < 0x40000 then true
  else if (alarmAt off).isSome then
    match path with
    | .pcie _ p => atIdx (alarmAt off) (fun n => alarmOwner s n = some (0xA, p.val))
    | _ => false
  else if hasClass s path 0 then true
  else match path with
    | .pcie _ p => partWritable s p.val off
    | _ => false

/-! ### Where a word lies -/

/-- The offset at which the word of a register access is kept: for a word of an indirect window, the entry its `_SEL` register
selects (R521); none where the selection names nothing (R205). -/
def realOff (s : State) (off : Nat) : Option Nat :=
  if 0x120020 ≤ off ∧ off < 0x120040 then some (Sub.word (s.get SCHED.SUB_SEL_INDEX) ((off - 0x120020) / 4))
  else if off = SCHED.GATE_ENTRY_LO ∨ off = SCHED.GATE_ENTRY_HI then
    let n := s.get SCHED.GATE_SEL_PORTID
    if n < 96 ∨ (112 ≤ n ∧ n ≤ 115) then some (Gate.word (if n < 96 then n else n - 16) (s.get SCHED.GATE_SEL_ENTRY) + (off - SCHED.GATE_ENTRY_LO)) else none
  else if 0x140020 ≤ off ∧ off < 0x140034 then some (Region.word (s.get GUARD.REG_SEL_INDEX) ((off - 0x140020) / 4))
  else if off = PART.COLOUR_DATA0 ∨ off = PART.COLOUR_DATA1 then some (Colour.word (s.get PART.COLOUR_SEL_INDEX) ((off - PART.COLOUR_DATA0) / 4))
  else if 0x410820 ≤ off ∧ off < 0x410840 then some (Bind.word (s.get PART.BIND_SEL_INDEX) ((off - 0x410820) / 4))
  else if 0x183420 ≤ off ∧ off < 0x183440 then some (Win.word (s.get BRG.WIN_SEL_INDEX) ((off - 0x183420) / 4))
  else if 0x1C3010 ≤ off ∧ off < 0x1C3020 then some (ConnW.word (s.get RMA.CONN_SEL_INDEX) ((off - 0x1C3010) / 4))
  else some off

/-! ### Access types -/

/-- The live word after a write by the rules of R9: RW and RWS fields take the value, RWK fields until the seal, RW1C fields clear where
1 is written; RO, RC, SH and W1S fields keep theirs. -/
def takeWrite (sealed : Bool) (fs : List FieldDef) (old val : Word) : Word :=
  fs.foldl (fun w f =>
    let m := fieldMask f.lo f.n
    match f.acc with
    | .rw | .rws => (w &&& ~~~m) ||| (val &&& m)
    | .rwk => if sealed then w else (w &&& ~~~m) ||| (val &&& m)
    | .rw1c => w &&& ~~~(val &&& m)
    | _ => w) old

/-- The SH bits of a register definition. -/
def shBits (fs : List FieldDef) : Word := fs.foldl (fun m f => if f.acc = .sh then m ||| fieldMask f.lo f.n else m) 0

/-- The shadow word after a write: SH fields take the value (R9). -/
def takeShadow (fs : List FieldDef) (old val : Word) : Word := (old &&& ~~~shBits fs) ||| (val &&& shBits fs)

/-- The word left by a read: RC fields clear (R9). -/
def afterRead (fs : List FieldDef) (old : Word) : Word :=
  fs.foldl (fun w f => if f.acc = .rc then w &&& ~~~fieldMask f.lo f.n else w) old

/-- The bits of a value that start actions: its W1S fields (R9). -/
def w1sBits (fs : List FieldDef) (val : Word) : Word :=
  fs.foldl (fun m f => if f.acc = .w1s then m ||| (val &&& fieldMask f.lo f.n) else m) 0

/-- Write a register by its access types (R9): its live fields, and its SH fields in the shadow. -/
def State.storeReg (s : State) (off : Nat) (fs : List FieldDef) (val : Word) : State :=
  let sh := s.shd off
  let s := s.wr off (takeWrite s.img.sealed fs (s.rd off) val)
  if shBits fs = 0 then s else s.wrShd off (takeShadow fs sh val)

/-- Write the register at an offset by its access types. -/
def State.plainWrite (s : State) (off : Nat) (val : Word) : State :=
  match regAt off with
  | some (r, _) => s.storeReg off r.fields val
  | none => s

/-! ### Performing a write -/

/-- The request-driven source whose request a write to an offset may be (R33); of RMA only the key and connection commands are requests. -/
def requestSrc (off : Nat) : Option Nat :=
  if off = GLB.COMMIT then some Src.commit
  else if off = IMG.CTRL ∨ off = IMG.FLASH_CTRL ∨ (0x60000 ≤ off ∧ off < 0x80000) then some Src.image
  else if off = PART.CFG_CTRL ∨ off = PART.CFG_ADDR ∨ off = PART.CFG_DATA then some Src.mailbox
  else if 0x400000 ≤ off ∧ off < 0x410000 then some Src.mdma
  else if (inArray off (RMA.KEYCMD_CMD 0) 0x20 4 32).isSome ∨ off = RMA.CONN_CMD then some Src.rmaCmd
  else none

/-- Whether a held entry is an access of a path. -/
def heldOf (path : Path) : Held → Bool
  | .regWrite p _ _ | .regRead p _ | .barRequest p _ _ _ => p = path
  | .mspWrite _ _ | .mspRead _ => path = .msp
  | .dapRead _ => path = .jtag
  | .msg _ _ => false

/-- The source at which an access of a path already waits, behind which the path's later accesses wait (R33). -/
def waitingAt (s : State) (path : Path) : Option Nat := (List.range 10).find? (fun k => (s.srcQ k).waiting.any (heldOf path))

/-- Hold an access at a source. -/
def State.hold (s : State) (k : Nat) (h : Held) : State := s.setSrcQ k { s.srcQ k with waiting := (s.srcQ k).waiting ++ [h] }

/-- The source behind which a write from a path must wait (R33, R479): the one that already holds a write of the path, else its own source
when that is full or holds requests. -/
def waitsAt (s : State) (path : Path) (off : Nat) : Option Nat :=
  match waitingAt s path with
  | some k => some k
  | none => match requestSrc off with
    | some k => if (s.srcQ k).full ∨ (s.srcQ k).waiting ≠ [] then some k else none
    | none => none

/-- A write reaches its register when the domain is on, start-up has initialised it (R509 step 6) and the path may write there; else it is
discarded (R476, R502). -/
def State.guarded (s : State) (path : Path) (off : Nat) (val : Word) (f : State → State) : State :=
  if s.pwr.up < 6 ∨ (s.mode = 7 ∧ ¬ (path = .msp ∧ parkedOk off)) then s
  else if writeAllowed s path off then f s
  else s.privRefused path off val.toNat

/-- Whether the register interface accepts no write: 32 enable-bit writes wait for the checker (R79). -/
def stalls (s : State) : Bool := 33 ≤ s.img.checks.length || s.img.stalled ≠ []

/-- A register write that arrives: it waits in the register interface (R33, R79), or is carried out by `f` when `guarded` lets it. -/
def State.writing (s : State) (path : Path) (off : Nat) (val : Word) (f : State → State) : State :=
  if stalls s then { s with img := { s.img with stalled := s.img.stalled ++ [EnableReq.mk path off val] } }
  else match waitsAt s path off with
  | some k => s.hold k (.regWrite path off val)
  | none => s.guarded path off val f

/-- Whether a fuse command of one kind runs: 1 to 3 those of `PWR.FUSE_CMD`, 4 ARV_COMMIT, 5 REVOKE_OTHER. -/
def fuseRuns (s : State) (kind : Nat) : Bool := s.img.fuseOp.any (fun e => e.1 = kind)

/-- Whether a CLEAR of a rail waits or runs: the bit reads 1 (R9, R519). -/
def clearPending (s : State) (r : Nat) : Bool := s.pwr.reqs.any (fun q => q.kind = 3 && q.rail = r)

/-- A write for the checker joins its queue (R79). -/
def State.enqueueCheck (s : State) (path : Path) (off : Nat) (val : Word) : State :=
  { s with img := { s.img with checks := s.img.checks ++ [CheckReq.enable ⟨path, off, val⟩] } }

/-- Whether a write of register `off` waits for the checker, so that later writes to it wait behind it (R140). -/
def checkPending (s : State) (off : Nat) : Bool :=
  s.img.checks.any (fun c => match c with
    | .enable e => decide (e.off = off)
    | .commit _ _ _ _ _ | .partner _ _ _ => false)

/-- A write of a control register whose bit 0 enables its block (R77, R79): one that sets it, or that follows one of the same register still waiting,
joins the checker's queue; any other is carried out. `on` is the bit as it stands. -/
def State.enableWrite (s : State) (path : Path) (off : Nat) (val : Word) (on : Bool) (act : State → State) : State :=
  if checkPending s off ∨ (bitOf val.toNat 0 ∧ ¬ on) then s.enqueueCheck path off val else act s

/-- The word a write presents that sets the field `f`, leaves the bits `keep` that the register stores and starts no other action. -/
def strobe (s : State) (f : RF) (keep : Word) : Word := withField (s.rd f.off &&& keep) f.lo f.n 1

/-- The word a write presents that clears the one-bit field `f`, leaves the bits `keep` that the register stores and starts no action. -/
def unset (s : State) (f : RF) (keep : Word) : Word := withField (s.rd f.off &&& keep) f.lo f.n 0

end Sys2Proof.Machine
end

