-- ==== Sys2Proof/Machine/Tables.lean ====
section
/-! DEFINITION. The tables of the running device, read from its register words (shadow applied or not), the line rates of R180, and
the colours assigned (R16). The checker tests them as it tests an image's tables. -/
namespace Sys2Proof.Machine
open Sys2Proof

/-- A field under a reader of register words. -/
def gf (rd : Nat → Word) (f : RF) : Nat := fieldOf (rd f.off) f.lo f.n

/-- A 64-bit value whose low bits a window word holds from bit `sh`. -/
def gf2 (rd : Nat → Word) (lo hi : RF) : Nat := gf rd lo * 2 ^ lo.lo + 2 ^ 32 * gf rd hi

/-- The device reads its live words. -/
def liveRd (s : State) : Nat → Word := fun o => s.rd o

/-- A reader of the live words with a set of staged words applied (R77). -/
def appliedRd (s : State) (snap : SMap Word) : Nat → Word := fun o =>
  match SMap.find? snap o with
  | some w => mergeSh o (s.rd o) w
  | none => s.rd o

/-- COLOUR entries in force. -/
def rdColours (rd : Nat → Word) : List (Nat × ColourEnt) :=
  ((List.range 4096).filter (fun i => gf rd (Colour.VALID i) = 1)).map (fun i =>
    (i, ⟨gf rd (Colour.COLOUR i), gf rd (Colour.PORTID i), gf rd (Colour.SELECT i), gf rd (Colour.RID_LO i), gf rd (Colour.RID_HI i)⟩))

/-- One guard region, whatever its VALID. -/
def rdRegion (rd : Nat → Word) (i : Nat) : RegionEnt :=
  ⟨gf2 rd (Region.START i) (Region.START_HI i), gf2 rd (Region.END i) (Region.END_HI i), gf rd (Region.TAG i), gf rd (Region.MATCH i),
   gf rd (Region.READ i) + 2 * gf rd (Region.WRITE i) + 4 * gf rd (Region.ATOMIC i) + 128 * gf rd (Region.LOCK i)⟩

/-- Guard regions in force. -/
def rdRegions (rd : Nat → Word) : List (Nat × RegionEnt) :=
  ((List.range 8192).filter (fun i => gf rd (Region.VALID i) = 1)).map (fun i => (i, rdRegion rd i))

/-- One binding. -/
def rdBind (rd : Nat → Word) (i : Nat) : BindEnt :=
  ⟨gf rd (Bind.PART i), gf rd (Bind.TARGET i), gf rd (Bind.HOST_RID i), gf rd (Bind.DEV_RID i),
   gf2 rd (Bind.HOST_BASE i) (Bind.HOST_BASE_HI i), gf2 rd (Bind.DEV_BASE i) (Bind.DEV_BASE_HI i),
   gf2 rd (Bind.LENGTH i) (Bind.LENGTH_HI i)⟩

/-- Bindings in force. -/
def rdBinds (rd : Nat → Word) : List (Nat × BindEnt) :=
  ((List.range 4096).filter (fun i => gf rd (Bind.VALID i) = 1)).map (fun i => (i, rdBind rd i))

/-- One window. -/
def rdWin (rd : Nat → Word) (i : Nat) : WinEnt :=
  ⟨gf rd (Win.PART i), gf rd (Win.MODE i), gf rd (Win.DEVID i), gf rd (Win.PORTID i), gf rd (Win.TC i),
   gf2 rd (Win.LOCAL_BASE i) (Win.LOCAL_BASE_HI i), gf2 rd (Win.LENGTH i) (Win.LENGTH_HI i),
   gf2 rd (Win.REMOTE_BASE i) (Win.REMOTE_BASE_HI i)⟩

/-- Windows in force. -/
def rdWins (rd : Nat → Word) : List (Nat × WinEnt) :=
  ((List.range 2048).filter (fun i => gf rd (Win.VALID i) = 1)).map (fun i => (i, rdWin rd i))

/-- The routes of the device: those that name a bundle or a transit class. -/
def rdRoutes (rd : Nat → Word) : List (Nat × RouteEnt) :=
  ((List.range 2047).filter (fun d => gf rd (BRG.ROUTE_PRIMARY d) ≠ 7 ∨ gf rd (BRG.ROUTE_ALTERNATE d) ≠ 7 ∨ gf rd (BRG.ROUTE_TRANSIT d) ≠ 0)).map
    (fun d => (d, ⟨d, gf rd (BRG.ROUTE_PRIMARY d), gf rd (BRG.ROUTE_ALTERNATE d), gf rd (BRG.ROUTE_TRANSIT d)⟩))

/-- One subscriber. -/
def rdSub (rd : Nat → Word) (i : Nat) : SubEnt :=
  ⟨i, gf rd (Sub.PORTID i), gf rd (Sub.TC i), gf rd (Sub.COLOUR i), gf rd (Sub.SELECT i), gf rd (Sub.RATE i), gf rd (Sub.BURST i),
   gf2 rd (Sub.ADDR_LO i) (Sub.ADDR_LO_HI i), gf2 rd (Sub.ADDR_HI i) (Sub.ADDR_HI_HI i)⟩

/-- Subscribers enabled. -/
def rdSubs (rd : Nat → Word) : List (Nat × SubEnt) :=
  ((List.range 4096).filter (fun i => gf rd (Sub.ENABLE i) = 1)).map (fun i => (i, rdSub rd i))

/-- The PortID of SCHED index `i`: 0 to 95, then 112 to 115 (R205). -/
def egressId (i : Nat) : Nat := if i < 96 then i else 112 + (i - 96)

/-- The SCHED index of a PortID. -/
def schedIdx (n : Nat) : Nat := if n < 96 then n else 96 + (n - 112)

/-- The gate list installed for SCHED index `i`. -/
def rdGate (rd : Nat → Word) (i : Nat) : GateEnt :=
  let w := fun (o : Nat) => (rd o).toNat
  ⟨egressId i, w (SCHED.PORT_GATE_GUARD i), w (SCHED.PORT_GATE_CYCLE_LO i) + 2 ^ 32 * w (SCHED.PORT_GATE_CYCLE_HI i),
   w (SCHED.PORT_GATE_BASE_LO i) + 2 ^ 32 * w (SCHED.PORT_GATE_BASE_HI i),
   (List.range (gf rd (SCHED.PORT_GATE_CTRL_ENTRIES i))).map (fun e =>
     (w (Gate.word i e + 4) / 2 ^ 24, w (Gate.word i e) + 2 ^ 32 * (w (Gate.word i e + 4) % 2 ^ 24)))⟩

/-- Gate lists installed. -/
def rdGates (rd : Nat → Word) : List (Nat × GateEnt) :=
  ((List.range 100).filter (fun i => gf rd (SCHED.PORT_GATE_CTRL_ENABLE i) = 1)).map (fun i => (egressId i, rdGate rd i))

/-- One slot channel's settings. -/
def rdSlot (rd : Nat → Word) (n : Nat) : SlotEnt :=
  ⟨n, gf rd (SLOT.CFG0_SHUNT n), gf rd (SLOT.CFG0_LIMIT n), gf rd (SLOT.CFG1_SLEW n), gf rd (SLOT.CFG1_TIMER n), gf rd (SLOT.CFG1_OFF_MULT n),
   if gf rd (SLOT.CFG1_UNLIMITED n) = 1 then 0xFF else gf rd (SLOT.CFG1_RETRIES n),
   gf rd (SLOT.CFG2_AUTO_ON n) + 2 * gf rd (SLOT.CFG2_ATTN n), gf rd (SLOT.CFG2_INSERT_MS n),
   if gf rd (SLOT.CFG2_PORTID n) = 127 then 0xFF else gf rd (SLOT.CFG2_PORTID n)⟩

/-- Partitions in force. -/
def rdParts (rd : Nat → Word) : List (Nat × PartEnt) :=
  ((List.range 32).filter (fun p => gf rd (PART.TABLE_CTRL_VALID p) = 1)).map (fun p =>
    (p, ⟨p, gf rd (PART.TABLE_CTRL_UPSTREAM p), gf rd (PART.TABLE_CTRL_COLOUR p),
      (rd (PART.TABLE_MEMBERS p 0)).toNat + 2 ^ 32 * (rd (PART.TABLE_MEMBERS p 1)).toNat + 2 ^ 64 * (rd (PART.TABLE_MEMBERS p 2)).toNat,
      gf rd (PART.TABLE_BUS_BUS_FIRST p), gf rd (PART.TABLE_BUS_BUS_LAST p)⟩))

/-- The tables the image in force gives and no register changes. -/
def imageTables (s : State) : Tables :=
  match s.img.active with
  | some i => i.tables
  | none => {}

/-- The tables of the running device under a reader of its words (R77); the sections that only an image sets come from the active
image. A slot channel counts while the image defines it. -/
def rdTables (s : State) (rd : Nat → Word) : Tables :=
  let t := imageTables s
  { mode := s.mode, lanes := t.lanes, parts := rdParts rd, privs := t.privs, colours := rdColours rd, regions := rdRegions rd,
    binds := rdBinds rd, windows := rdWins rd, routes := rdRoutes rd,
    prefix_ := some (gf rd SCHED.WHEEL_SLOT_EXP, gf rd SCHED.SAMPLE_PERIOD_US), subs := rdSubs rd, gates := rdGates rd,
    slots := t.slots.map (fun e => (e.2.channel, rdSlot rd e.2.channel)), owners := numbered s.part.owners }

/-! ### Line rates (R180) -/

/-- Lanes of a PCIe width code. -/
def lanesOf (w : Nat) : Nat := if w ≤ 4 then 2 ^ w else 0

/-- Signalling rate in Mb/s per lane of a RATE code. -/
def rateMbps (r : Nat) : Nat := ([0, 2500, 5000, 8000, 16000, 32000, 64000][r]?).getD 0

/-- The line rate of a PCIe link in bytes/s. -/
def pcieLineRate (rate lanes : Nat) (flit : Bool) : Rat :=
  let raw : Rat := (lanes * rateMbps rate * 1000000 : Nat)
  let enc : Rat := if rate ≤ 2 then 4 / 5 else if rate ≤ 5 then 128 / 130 else 1
  raw * enc * (if flit ∨ rate = 6 then 236 / 256 else 1) / 8

/-- The line rate of a bundle in bytes/s with worst-case stuffing (R256, R279): packet flits per superblock period of 2,424 UI at
56 Gb/s. -/
def bundleLineRate (sixteen : Bool) : Rat := (if sixteen then 124 else 60) * 32 * 56000000000 / 2424

/-- The LANE_PORT entry of a PortID. -/
def laneOf (t : Tables) (n : Nat) : Option LanePort := (t.lanes.find? (fun e => e.2.portid = n)).map Prod.snd

/-- The configured line rate of a LANE_PORT entry, as the checker uses it: Flit Mode for RATE 1 to 5. -/
def configRate (e : LanePort) : Rat :=
  if e.portid < 96 then pcieLineRate e.rate (lanesOf e.width) true else bundleLineRate (e.width = 5)

/-- LMAX of a LANE_PORT entry (R181, R276). -/
def lmaxOf (e : LanePort) : Nat := (if e.portid < 96 then 4160 else 4352) + e.overhead

/-! ### Colours (R15, R16) -/

/-- Whether a colour value may be assigned. -/
def colourOk (c : Nat) : Bool := 1 ≤ c && c ≤ 0xFEF

/-- Whether a colour has an assignment in the tables under check. -/
def assigned (t : Tables) (c : Nat) : Bool :=
  c = 0xFFE || c = 0xFFF || t.parts.any (fun e => e.2.colour = c) || t.colours.any (fun e => e.2.colour = c)

/-- Whether a PortID has a LANE_PORT entry with one of these roles. -/
def hasRole (t : Tables) (n : Nat) (roles : List Nat) : Bool :=
  match laneOf t n with
  | some e => roles.contains e.role
  | none => false

/-- A shared downstream port: ROLE 0 and in no MEMBERS map (R54, R208). -/
def sharedDown (t : Tables) (n : Nat) : Bool := n < 96 && hasRole t n [0] && !t.parts.any (fun e => e.2.members.testBit n)

/-- Whether two byte ranges (base, length) overlap. -/
def overlap (b1 l1 b2 l2 : Nat) : Bool := b1 < b2 + l2 && b2 < b1 + l1

/-- Owned instances of a resource class by an owner. -/
def ownedBy (t : Tables) (cls owner : Nat) : List OwnerEnt := (t.owners.map Prod.snd).filter (fun e => e.cls = cls ∧ e.owner = owner)

end Sys2Proof.Machine
end

