-- ==== Sys2Proof/Machine/Tags.lean ====
section
/-! DEFINITION. Tag entries and answer reservations (R323 to R325), the wait for an acknowledgement and the fence (R320, R321): what a packet
must take at the head of its VOQ's non-posted lane. -/
namespace Sys2Proof.Machine
open Sys2Proof

/-! ### Tag entries (R323 to R325) -/

/-- The free XIDs. -/
def freeXids (s : State) : List Nat := (List.range 16384).filter (fun x => (s.tag? x).isNone)

/-- Tag width of requests leaving port `n` (R325, R336): 14 bits only on a Flit Mode link. -/
def tagBits (s : State) (n : Nat) : Nat :=
  match s.get BRG.CTRL_TAG_BITS with
  | 0 => 8
  | 2 => if s.flag (PORT.STATUS_FLIT n) then 14 else 10
  | _ => 10

/-- The tags in use on egress port `n` with Requester ID `rid` by requests the switch issued. -/
def tagsUsed (s : State) (n rid : Nat) : List Nat :=
  (s.core.out.filter (fun r => r.port = n ∧ r.rid = rid)).map NpRec.tag ++
    s.core.pkts.filterMap (fun p => match p.body with
      | .tlp t => if p.egress = n ∧ t.rid = rid ∧ p.need.isNone ∧ tlpCls t = 1 then some t.tag else none
      | _ => none)

/-- A tag from `lo` to below `hi` that is not in use, as the free value picks it; none when all are in use. -/
def State.tagFrom (s : State) (n rid lo hi : Nat) : Option Nat × State :=
  let used := tagsUsed s n rid
  let l := ((List.range hi).drop lo).filter (fun k => ¬ used.contains k)
  let (v, s) := s.fresh
  (l[v % max 1 l.length]?, s)

/-- A tag for a request of an entry (R325). In 10-bit form bits [9:8] are never 0b00 (R343). -/
def State.pickTag (s : State) (n rid : Nat) : Option Nat × State :=
  s.tagFrom n rid (if tagBits s n = 10 then 256 else 0) (2 ^ tagBits s n)

/-- A 10-bit tag for a request of one of the switch's own masters (R124, R343). -/
def State.pickOwnTag (s : State) (n rid : Nat) : Option Nat × State := s.tagFrom n rid 256 1024

/-- Whether an OUT or IN entry is to be had: at most 16,384 − IN_RESERVE are OUT, and the answer budget holds the reservation (R323,
R324). -/
def entryFree (s : State) (e : TagEntry) : Bool :=
  (freeXids s ≠ []) &&
    (if e.isOut then s.get BRG.TAG_STATUS_OUT_USED < 16384 - s.get BRG.TAG_CTRL_IN_RESERVE && s.get BRG.RSP_BUDGET_USED + e.cells ≤ s.get BRG.RSP_BUDGET_CELLS
     else true)

/-- Take an entry: its XID is a free one, as the free value picks it; its reuse count advances (R323, R324). -/
def State.takeEntry (s : State) (e : TagEntry) : Nat × State :=
  let l := freeXids s
  let (v, s) := s.fresh
  let x := (l[v % max 1 l.length]?).getD 0
  let g := (SMap.get (fun _ => 0) s.brg.xidGens x + 1) % 16
  let s := { s with brg := { s.brg with xidGens := SMap.set (fun _ => 0) s.brg.xidGens x g } }
  let s := s.setTag x (some { e with xidGen := g })
  let s := s.set BRG.RSP_BUDGET_USED (s.get BRG.RSP_BUDGET_USED + e.cells)
  let s := if e.isOut then s.set BRG.TAG_STATUS_OUT_USED (s.get BRG.TAG_STATUS_OUT_USED + 1)
    else s.set BRG.TAG_STATUS_IN_USED (s.get BRG.TAG_STATUS_IN_USED + 1)
  (x, s)

/-- Whether an ACKED write of the same requester into the same window that came before the packet `id` is unacknowledged (R320: a
non-posted request waits for the EARLIER ones). -/
def ackedAhead (s : State) (w rid id : Nat) : Bool :=
  s.brg.tags.any (fun e => match e.2 with
    | some g => g.isOut && g.acked && g.window = some w && g.rid = rid && g.seq < id
    | none => false) ||
  s.core.pkts.any (fun p => match p.need with
    | some g => g.acked && g.window = some w && g.rid = rid && p.id < id
    | none => false)

/-- Whether a window's fence holds a failure for a requester (R320, R321). -/
def fenced (s : State) (w rid : Nat) : Bool :=
  s.flag (BRG.FENCE_ALL w) || (SMap.get (fun _ => []) s.brg.fences w).contains rid

/-- A packet at the head of its VOQ's non-posted lane takes the entry, the tag and the reservation it needs, or waits (R214, R320, R323,
R325). A released request into a fenced ACKED window is completed with Completer Abort and never sent (R320). -/
def State.tryEntry (s : State) (p : Pkt) : State :=
  let wait := fun (s : State) => s.setPkt { p with place := .tagWait }
  match p.need with
  | none => if p.place = .tagWait then s.setPkt { p with place := .voq } else s
  | some e =>
    match e.window with
    | some w =>
      if ¬ e.acked ∧ s.get (Win.MODE w) = 1 ∧ ackedAhead s w e.rid p.id then wait s
      else if ¬ e.acked ∧ s.get (Win.MODE w) = 1 ∧ fenced s w e.rid then
        (s.dropPkt p.id).failEntry e 0 4 0
      else if ¬ entryFree s e then wait s
      else
        let (x, s) := s.takeEntry { e with seq := p.id }
        let s := if e.acked then s.set (Win.ACKED_OUT w) (s.get (Win.ACKED_OUT w) + 1) else s
        match p.body with
        | .tfp q c np =>
          let q := { q with hdr := { q.hdr with xid := x, xidGen := ((s.tag? x).map TagEntry.xidGen).getD 0 } }
          s.setPkt { p with body := .tfp q c np, need := none, place := .voq }
        | .tlp _ => s
    | none =>
      match p.body with
      | .tfp q c np =>
        if ¬ entryFree s e then wait s
        else
          let (x, s) := s.takeEntry { e with seq := p.id }
          let q := { q with hdr := { q.hdr with xid := x, xidGen := ((s.tag? x).map TagEntry.xidGen).getD 0 } }
          s.setPkt { p with body := .tfp q c np, need := none, place := .voq }
      | .tlp t =>
        if ¬ entryFree s e then wait s
        else match s.pickTag p.egress t.rid with
          | (none, s) => wait s
          | (some k, s) =>
            let (x, s) := s.takeEntry { e with seq := p.id }
            let o := match p.origin with
              | .bridged h acked _ a => Origin.bridged h acked (some x) a
              | _ => Origin.tagged x
            s.setPkt { p with body := .tlp { t with tag := k }, need := none, origin := o, place := .voq }

/-- Whether an earlier packet of the same VOQ's non-posted lane still waits there (R153). -/
def npAhead (s : State) (p : Pkt) : Bool :=
  (ahead s p).any (fun q => q.kind = 1 && p.kind = 1 && (q.place = .voq || q.place = .tagWait) && inXbar s q = inXbar s p &&
    q.dest = p.dest && q.tc = p.tc)

/-- A packet that has just entered its VOQ takes what it needs when it is at the head of its lane. -/
def State.settle (s : State) (id : Nat) : State :=
  match s.pkt? id with
  | some p => if p.need.isSome ∧ p.place = .voq ∧ ¬ npAhead s p then s.tryEntry p else s
  | none => s

end Sys2Proof.Machine
end

