-- ==== Sys2Proof/Machine/Queue.lean ====
section
/-! DEFINITION. From the descriptor to the VOQ: matching a subscriber (R182), the pre-queues, E and the timing wheel (R184, R185), the
order kept across subscribers (R153, R155), mirror copies made at release (R167 to R169), and the retirement of generations (R25). -/
namespace Sys2Proof.Machine
open Sys2Proof

/-- The state of a target port that refuses a new request: DRAINING or DRAINED, shed, link down (R553). -/
def targetRefusal (s : State) (n : Nat) : Option EndPath :=
  if s.get (PORT.STATUS_DRAIN_STATE n) = 1 ∨ s.get (PORT.STATUS_DRAIN_STATE n) = 2 then some .drainIngress
  else if s.flag (PORT.STATUS_SHED n) then some .shedIngress
  else if ¬ linkUp s n then some .linkDown
  else none

/-! ### Order (R153, R155) -/

/-- Whether a later packet may pass an earlier one of its lane set (the table of R153). Management packets have no order here. -/
def mayPass (later earlier : Pkt) : Bool :=
  if later.kind = 3 ∨ earlier.kind = 3 then true
  else if earlier.kind = 0 then (later.kind ≠ 1 && later.ro)
  else if earlier.kind = 1 then later.kind ≠ 1
  else later.kind ≠ 2

/-- Whether R155 holds a packet back: an earlier packet of its ingress port and class that it may not pass is not yet in its VOQ, or is
multicast and a copy of it has not crossed. -/
def heldBack (s : State) (p : Pkt) : Bool :=
  s.core.pkts.any (fun q => q.ingress = p.ingress && q.tc = p.tc && !mayPass p q &&
    ((q.id < p.id && q.copy = 0 && (q.place = .pre || q.place = .hold)) || (q.copy = 1 && q.parent < p.id && (q.place = .voq || q.place = .stage))))

/-! ### Pre-queues and the wheel (R182 to R185) -/

/-- OVERHEAD of a PortID (R179). -/
def overheadOf (s : State) (n : Nat) : Nat :=
  if n < 96 then s.get (PORT.CFG2_OVERHEAD n)
  else match laneOf (imageTables s) n with
    | some e => e.overhead
    | none => 0

/-- Length of a packet (R149, R276). -/
def pktLen (p : Pkt) : Nat :=
  match p.body with
  | .tlp t => tlpBytes t
  | .tfp q _ _ => 32 * tfpFlits q

/-- The subscriber a packet matches: an address-range entry before a whole-flow entry (R182). -/
def matchSub (s : State) (ingress colour tc : Nat) (addr : Option Nat) : Option Nat :=
  let cand := (rdSubs (liveRd s)).filter (fun e => e.2.portid = ingress ∧ e.2.colour = colour ∧ e.2.tc = tc)
  let ranged := cand.filter (fun e => e.2.select = 1 && (match addr with
    | some a => e.2.lo ≤ a && a < e.2.hi
    | none => false))
  match ranged ++ cand.filter (fun e => e.2.select = 0) with
  | e :: _ => some e.1
  | [] => none

/-- E of a subscriber, in FT units (R184). -/
def eligOf (s : State) (i : Nat) : Rat := SMap.get (fun _ => 0) s.sched.elig i

/-- The head of a subscriber's pre-queue. -/
def subHead (s : State) (i : Nat) : Option Pkt := s.core.pkts.find? (fun p => p.place = .pre && p.sub = some i)

/-- W of the wheel in FT units (R185). -/
def wheelW (s : State) : Nat := 2 ^ (32 - s.get SCHED.WHEEL_SLOT_EXP)

/-- A head that is not eligible is placed on the wheel at the first slot boundary at or after E (R185). -/
def State.placeHead (s : State) (i : Nat) : State :=
  let e := eligOf s i
  if (subHead s i).isSome ∧ (s.time.ft : Rat) < e ∧ ¬ s.sched.wheel.any (fun x => x.2 = i) then
    let w := wheelW s
    { s with sched := { s.sched with wheel := s.sched.wheel ++ [(((e / w).ceil * w).toNat, i)] } }
  else s

/-- One copy of a broadcast Message, in the VOQ of its destination (R166), or ended by the state of its port. -/
def State.broadcastTo (s : State) (p : Pkt) (m : Nat) : State :=
  match targetRefusal s m with
  | some path => s.count m path.counters.2 1
  | none => s.addPkt { p with dest := xbarOf s m, egress := m, copy := 3, members := [], parent := p.id, serial := serialOf s m, sub := none, place := .voq }

/-- A broadcast Message is released: mirror sessions copy it once, and each destination's VOQ gets its copy (R155, R166, R167). -/
def State.fanOut (s : State) (p : Pkt) : State := p.members.foldl (fun s m => s.broadcastTo p m) ((s.mirrorAll p).dropPkt p.id)

/-- A packet leaves its pre-queue or hold for its VOQ, where mirror copies are made; a multicast one waits for replication, which makes
them then (R155, R164, R167); a broadcast Message goes to its destinations. -/
def State.release (s : State) (p : Pkt) : State :=
  if p.members = [] then ((s.mirrorAll p).movePkt p .voq).settle p.id
  else if p.group.isSome then s.movePkt p .hold
  else s.fanOut p

/-- RATE in bytes/s and BURST of a subscriber: of one that an image has dropped while packets wait, the last committed ones (R200). -/
def subShape (s : State) (i : Nat) : Nat × Nat :=
  let kept := SMap.get (fun _ => (0, 0)) s.sched.orphans i
  if s.flag (Sub.ORPHAN i) ∧ kept ≠ (0, 0) then (1000 * kept.1, kept.2) else (1000 * s.get (Sub.RATE i), s.get (Sub.BURST i))

/-- Charge a released head: E of R184. A rate of 0 shapes nothing. -/
def State.chargeSub (s : State) (i : Nat) (p : Pkt) : State :=
  let rate := (subShape s i).1
  if rate = 0 then s
  else
    let lc := pktLen p + overheadOf s p.ingress
    let e := max (eligOf s i) ((s.time.ft : Rat) - (((subShape s i).2 * 2 ^ 32 : Nat) : Rat) / rate) + ((lc * 2 ^ 32 : Nat) : Rat) / rate
    { s with sched := { s.sched with elig := SMap.set (fun _ => 0) s.sched.elig i e } }

/-- Release the head of subscriber `i` when R155 allows it: charge it, and place the next head. The last packet of a disabled
subscriber ends its ORPHAN mark (R200). -/
def State.releaseHead (s : State) (i : Nat) : State :=
  match subHead s i with
  | none => s
  | some p =>
    if heldBack s p then s
    else
      let s := ((s.release p).chargeSub i p).placeHead i
      if (subHead s i).isNone then s.set (Sub.ORPHAN i) 0 else s

/-- A rate code's signalling rate in 100 MT/s (R122). -/
def rateMts (c : Nat) : Nat := [0, 25, 50, 80, 160, 320, 640].getD c 0

/-- Whether a packet is forwarded cut-through (R158): its FORWARD bit is 0. -/
def cutThrough (s : State) (p : Pkt) : Bool :=
  let speed := fun (n : Nat) => rateMts (s.get (PORT.STATUS_CUR_RATE n)) * lanesOf (s.get (PORT.STATUS_CUR_WIDTH n))
  s.flag CORE.CTRL_CUT_THROUGH && decide (p.ingress < 96) && decide (p.egress < 96) && p.copy = 0 && p.members = [] &&
    decide (speed p.egress ≤ speed p.ingress)

/-- A packet whose descriptor is formed enters the core: to its subscriber's pre-queue when shaped; else to its VOQ, or to the hold where
R155 or replication makes it wait (R182, R183). -/
def State.enter (s : State) (p : Pkt) : State :=
  let p := { p with cut := cutThrough s p }
  if p.kind = 3 ∨ p.place = .mgmtq then (s.mirrorAll p).addPkt { p with place := .mgmtq }
  else
    let shaped := match p.sub with
      | some i => decide (s.get (Sub.RATE i) ≠ 0)
      | none => false
    if shaped then
      let s := s.addPkt { p with place := .pre }
      match p.sub with
      | some i => s.placeHead i
      | none => s
    else if heldBack s { p with id := s.core.nextId } then s.addPkt { p with place := .hold }
    else if p.members ≠ [] ∧ p.group.isNone then
      let id := s.core.nextId
      let s := s.addPkt { p with place := .hold }
      (match s.pkt? id with
       | some q => s.fanOut q
       | none => s)
    else
      let s := if p.members = [] then s.mirrorAll p else s
      (s.addPkt { p with place := if p.members = [] then .voq else .hold }).settle s.core.nextId

/-- SUBSCRIBER_HEAD_RELEASE: a head that was eligible when it reached the head, or whose wheel entry is spent, is released. -/
def execSubscriberHeadRelease (sub : Fin 4096) (s : State) : Res :=
  .next (if ¬ s.sched.wheel.any (fun x => x.2 = sub.val) ∧ eligOf s sub ≤ (s.time.ft : Rat) then s.releaseHead sub else s)

/-- Wheel entries in the order R185 releases them: slot boundary, then subscriber. -/
def wheelOrder (l : List (Nat × Nat)) : List (Nat × Nat) :=
  l.mergeSort (fun a b => a.1 < b.1 || (a.1 = b.1 && a.2 ≤ b.2))

/-- WHEEL_SLOT_RELEASE: up to four due heads per core cycle are released; when more are due, WHEEL_LATE is set (R185). -/
def execWheelSlotRelease (s : State) : Res :=
  let room := if s.sched.released.1 = s.cycle then 4 - s.sched.released.2 else 4
  let due := wheelOrder (s.sched.wheel.filter (fun x => x.1 ≤ s.time.ft))
  let now := due.take room
  let s := s.when (room < due.length) (fun s => s.set SCHED.STATUS_WHEEL_LATE 1)
  let s := { s with sched := { s.sched with wheel := s.sched.wheel.filter (fun x => ¬ now.contains x),
                                            released := (s.cycle, 4 - room + now.length) } }
  .next (now.foldl (fun s x => s.releaseHead x.2) s)

/-- ORDERED_VOQ_RELEASE: a packet in the hold that R155 no longer holds back enters its VOQ; a multicast one stays for replication. -/
def execOrderedVoqRelease (pkt : Nat) (s : State) : Res :=
  .next (match s.pkt? pkt with
    | some p => if p.place = .hold ∧ p.group.isNone ∧ ¬ heldBack s p then s.release p else s
    | none => s)

/-- Whether some packet holds the previous generation of table `t`, in the order of `GLB.GEN` (R25): one of the core, or one of a replay store that has not
yet been placed on its bundle. -/
def genHeld (s : State) (t : Nat) : Bool :=
  let prev := fieldOf (s.rd GLB.GEN_PREV) (4 * t) 4
  let holds := fun (g : List (Option Nat)) => decide ((g[t]?).getD none = some prev)
  s.core.pkts.any (fun p => holds p.gens) || s.links.any (fun e => e.2.store.any (fun x => !x.out && holds x.gens))

/-- GEN_RETIRE: a draining generation that no packet holds retires: DRAINING clears and the event passes the ledger (R25). -/
def execGenRetire (t : Fin 5) (s : State) : Res :=
  if bitOf (s.rd GLB.GEN).toNat (20 + t.val) ∧ ¬ genHeld s t then
    let s := s.wr GLB.GEN (withField (s.rd GLB.GEN) (20 + t.val) 1 0)
    .next (s.post Src.glb
      { type := .genRetired, inst := t.val, aux := s.rd64 GLB.COMMIT_EPOCH_LO,
        payload := [GLB.COMMIT_STATUS, GLB.COMMIT_OFFENDER, GLB.GEN, GLB.GEN_PREV].map (fun o => (s.rd o).toNat) })
  else .next s

end Sys2Proof.Machine
end

