-- ==== Sys2Proof/Machine/Sched.lean ====
section
/-! DEFINITION. Gates, guard bands, class arbitration and samplers (R187 to R201): what the transmit stage and the crossbar ask before
they serve a class, and the scheduler's own commands. -/
namespace Sys2Proof.Machine
open Sys2Proof

/-! ### Gate lists (R190, R192, R193) -/

/-- The gate control of SCHED index `i`. -/
def State.gate (s : State) (i : Nat) : Gate := SMap.get (fun _ => {}) s.sched.gates i

/-- Replace a gate control; RUNNING and PENDING show it (R207). -/
def State.setGate (s : State) (i : Nat) (g : Gate) : State :=
  let s := { s with sched := { s.sched with gates := SMap.set (fun _ => {}) s.sched.gates i g } }
  (s.set (SCHED.PORT_GATE_STATUS_RUNNING i) (bit g.run.isSome)).set (SCHED.PORT_GATE_STATUS_PENDING i) (bit g.pending.isSome)

/-- The entry a list position falls in: its index, the time left in it, and the entries from it on, wrapping. -/
def entryAt : List (Nat × Nat) → Nat → Nat → Option (Nat × Nat)
  | [], _, _ => none
  | (_, d) :: es, k, pos => if pos < d then some (k, d - pos) else entryAt es (k + 1) (pos - d)

/-- The list position of a running list, while FT ≥ BASE (R190). -/
def gatePos (g : GateRun) (ft : Nat) : Option (Nat × Nat) :=
  if g.base ≤ ft ∧ g.cycle ≠ 0 then entryAt g.entries 0 ((ft - g.base) % g.cycle) else none

/-- The OPEN mask in force and the current entry: every class open without a running list or with a faulty one (R190, R201). -/
def gateMask (s : State) (i : Nat) : Nat × Nat :=
  if s.flag (SCHED.PORT_GATE_STATUS_FAULT i) then (0xFF, 0)
  else match (s.gate i).run with
    | some g => match gatePos g s.time.ft with
      | some (k, _) => (((g.entries[k]?).getD (0xFF, 0)).1, k)
      | none => (0xFF, 0)
    | none => (0xFF, 0)

/-- Whether class `t` of an egress is open now. -/
def gateOpen (s : State) (i t : Nat) : Bool := (gateMask s i).1.testBit t

/-- How long entries go on opening class `t`. -/
def openRun (t : Nat) : List (Nat × Nat) → Nat
  | [] => 0
  | (o, d) :: es => if o.testBit t then d + openRun t es else 0

/-- The FT at which an open class closes: the end of the run of consecutive entries that open it; none if it never closes (R190). -/
def nextClose (s : State) (i t : Nat) : Option Nat :=
  if s.flag (SCHED.PORT_GATE_STATUS_FAULT i) then none
  else match (s.gate i).run with
    | none => none
    | some g => match gatePos g s.time.ft with
      | none => none
      | some (k, left) =>
        if g.entries.all (fun e => e.1.testBit t) then none
        else some (s.time.ft + left + openRun t (g.entries.drop (k + 1) ++ g.entries.take (k + 1)))

/-- Whether some entry of the running list opens class `t`; every class is open without a list (R188). -/
def everOpen (s : State) (i t : Nat) : Bool :=
  if s.flag (SCHED.PORT_GATE_STATUS_FAULT i) then true
  else match (s.gate i).run with
    | some g => g.entries.any (fun e => e.1.testBit t)
    | none => true

/-- The current line rate of an egress in bytes/s; 0 while its link is down (R180, R207): a bundle's while it carries flits, for sixteen lanes or either
half of them. -/
def lineRate (s : State) (i : Nat) : Rat :=
  if i < 96 then
    (if linkUp s i then pcieLineRate (s.get (PORT.STATUS_CUR_RATE i)) (lanesOf (s.get (PORT.STATUS_CUR_WIDTH i))) (s.flag (PORT.STATUS_FLIT i)) else 0)
  else
    let st := s.get (FBL.LL_STATUS_STATE (i - 96))
    if st < 2 ∨ 4 < st then 0
    else match s.get (FBL.PHY_STATUS_WIDTH (i - 96)) with
    | 0 => bundleLineRate true
    | 1 | 2 => bundleLineRate false
    | _ => 0

/-- LMAX of an egress (R181). -/
def lmaxIdx (s : State) (i : Nat) : Nat := (if i < 96 then 4160 else 4352) + overheadOf s (egressId i)

/-- FT units that `l` bytes take on the line, rounded up. -/
def lineTime (s : State) (i l : Nat) : Nat :=
  if lineRate s i = 0 then 0 else (((l * 2 ^ 32 : Nat) : Rat) / lineRate s i).ceil.toNat

/-- The effective guard band of R192. -/
def effGuard (s : State) (i : Nat) : Nat :=
  match (s.gate i).run with
  | some g => max g.guard (lineTime s i (lmaxIdx s i))
  | none => 0

/-- Whether a packet of class `t` and charged length `l` may start under its gate and the guard band (R192). -/
def mayStart (s : State) (i t l : Nat) : Bool :=
  gateOpen s i t &&
    (match nextClose s i t with
     | none => true
     | some c => !(decide (c - s.time.ft ≤ effGuard s i)) || decide (s.time.ft + lineTime s i l ≤ c))

/-- The first cycle start of a list at or after an instant (R193). -/
def cycleStart (g : GateRun) (ft : Nat) : Nat :=
  if ft ≤ g.base ∨ g.cycle = 0 then g.base else g.base + ceilDiv (ft - g.base) g.cycle * g.cycle

/-- The list the registers of SCHED index `i` hold. -/
def gateOfRegs (s : State) (i : Nat) : GateRun :=
  let e := rdGate (liveRd s) i
  ⟨e.entries, e.cycle, e.base, e.guard⟩

/-- Install or remove the gate list of SCHED index `i` after a commit or image application changed it (R193, R201): a list waits for its
first cycle start; a removed one runs to the end of its current cycle. -/
def State.installGate (s : State) (i : Nat) : State :=
  let g := s.gate i
  if s.flag (SCHED.PORT_GATE_CTRL_ENABLE i) then
    let r := gateOfRegs s i
    s.setGate i { g with pending := some (r, cycleStart r s.time.ft), endAt := none }
  else match g.run with
    | some r => s.setGate i { g with pending := none, endAt := some (cycleStart r (s.time.ft + 1)) }
    | none => s.setGate i {}

/-- A schedule event of R193: the start (1) or end (0) of a list, posted as a time entry of the journal (log entry 20). -/
def State.gateEvent (s : State) (i : Nat) (start : Bool) : State :=
  s.post Src.sched { type := .alarm, inst := egressId i, aux := 0xFFFF, payload := [bit start] }

/-- Packets of class `t` waiting for an egress, in its buffer or on the way there. -/
def classWaits (s : State) (n t : Nat) : Bool := s.core.pkts.any (fun p => p.egress = n ∧ p.tc = t ∧ p.kind ≠ 3)

/-- Bring OPEN, ENTRY and EFF_GUARD of an egress up to date; each class that closes while it holds packets counts in CLOSED_WAIT (R192). -/
def State.refreshGate (s : State) (i : Nat) : State :=
  let old := s.get (SCHED.PORT_GATE_STATUS_OPEN i)
  let m := gateMask s i
  let s := (List.range 8).foldl (fun s t =>
    if old.testBit t ∧ ¬ m.1.testBit t ∧ classWaits s (egressId i) t then s.addSat (SCHED.PORT_CLOSED_WAIT_V i) 1 else s) s
  let s := (s.set (SCHED.PORT_GATE_STATUS_OPEN i) m.1).set (SCHED.PORT_GATE_STATUS_ENTRY i) m.2
  s.set (SCHED.PORT_EFF_GUARD_V i) (effGuard s i)

/-- Bring LINE_RATE and EFF_GUARD of an egress up to date after its link changed (R207). -/
def State.refreshRate (s : State) (i : Nat) : State :=
  (s.set (SCHED.PORT_LINE_RATE_V i) (lineRate s i / 1000).floor.toNat).set (SCHED.PORT_EFF_GUARD_V i) (effGuard s i)

/-- GATE_ENTRY_CHANGE: the open classes follow the list position. -/
def execGateEntryChange (i : Fin 100) (s : State) : Res := .next (s.refreshGate i)

/-- GATE_LIST_START: a waiting list whose first cycle start has come starts; a removed list whose cycle has ended, ends. -/
def execGateListStart (i : Fin 100) (s : State) : Res :=
  let g := s.gate i
  let started := match g.pending with
    | some (r, at_) => if at_ ≤ s.time.ft then
        let s := if g.run.isSome then s.gateEvent i false else s
        some (((s.setGate i { run := some r }).gateEvent i true).refreshGate i)
      else none
    | none => none
  .next (match started with
    | some s => s
    | none => match g.endAt with
      | some e => if e ≤ s.time.ft then ((s.setGate i {}).gateEvent i false).refreshGate i else s
      | none => s)

/-! ### Choosing a class (R187) -/

/-- WEIGHT of class `t` at SCHED index `i`, in bytes. -/
def weightOf (s : State) (i t : Nat) : Nat :=
  256 * (if t < 4 then fieldOf (s.rd (SCHED.PORT_WEIGHT_LO i)) (8 * t) 8 else fieldOf (s.rd (SCHED.PORT_WEIGHT_HI i)) (8 * (t - 4)) 8)

/-- The round of deficit round robin: from the class whose turn it is, serve the first whose head its deficit covers; a class left gains
nothing more until its next turn, and the class next in turn gains its weight. `ready t` is the charged length of class t's head. -/
def drr (weight : Nat → Nat) (ready : Nat → Option Nat) : Nat → Nat → SMap Nat → Option (Nat × SMap Nat)
  | 0, _, _ => none
  | n + 1, t, d =>
    let have_ := SMap.get (fun _ => 0) d t
    match ready t with
    | some l =>
      if l ≤ have_ then some (t, SMap.set (fun _ => 0) d t (have_ - l))
      else
        let u := (t + 1) % 8
        drr weight ready n u (match ready u with
          | some _ => SMap.set (fun _ => 0) d u (SMap.get (fun _ => 0) d u + weight u)
          | none => SMap.set (fun _ => 0) d u 0)
    | none =>
      let u := (t + 1) % 8
      let d := SMap.set (fun _ => 0) d t 0
      drr weight ready n u (match ready u with
        | some _ => SMap.set (fun _ => 0) d u (SMap.get (fun _ => 0) d u + weight u)
        | none => SMap.set (fun _ => 0) d u 0)

/-- The deficit of a class that has no eligible packet becomes 0 (R187). -/
def dropIdle (ready : Nat → Option Nat) (deficits : SMap Nat) : SMap Nat :=
  (List.range 8).foldl (fun d t => if (ready t).isNone then SMap.set (fun _ => 0) d t 0 else d) deficits

/-- The class served next, with the deficits and the turn after it: the highest strict class ready, else the round robin's (R187).
`ready` gives the charged length of the head of each class that is eligible. -/
def chooseClass (s : State) (i : Nat) (deficits : SMap Nat) (turn : Nat) (ready : Nat → Option Nat) : Option (Nat × SMap Nat × Nat) :=
  let strict := s.get (SCHED.PORT_CLASS_STRICT i)
  match [7, 6, 5, 4, 3, 2, 1, 0].find? (fun t => strict.testBit t && (ready t).isSome) with
  | some t => some (t, dropIdle ready deficits, turn)
  | none =>
    let w := fun (t : Nat) => if strict.testBit t then none else ready t
    match drr (weightOf s i) w 400 turn (dropIdle w deficits) with
    | some (t, d) => some (t, d, t)
    | none => none

/-! ### Samplers (R196 to R198) -/

/-- The sampling period in µs (R205). -/
def samplePeriod (s : State) : Nat := min 1000000 (max 1 (s.get SCHED.SAMPLE_PERIOD_US))

/-- The first period start at or after an FT (R196). -/
def nextPeriod (s : State) (ft : Nat) : Nat :=
  let p := samplePeriod s
  roundDiv (ceilDiv (ft * 1000000) (p * 2 ^ 32) * p * 2 ^ 32) 1000000

/-- Sampling resumes at the first period start at or after the present FT. -/
def State.resumeSampling (s : State) : State := { s with sched := { s.sched with nextSample := nextPeriod s s.time.ft } }

/-- The head packet of the queue of sampler `k`. -/
def samplerHead (s : State) (k : Nat) : Option Pkt := s.core.pkts.find? (fun p => samplerOf s p = some k)

/-- Add one to element `i` of a list of 32-bit counters that saturate. -/
def bump (l : List Nat) (i : Nat) : List Nat := l.set i (sat 32 ((l[i]?).getD 0 + 1))

/-- The depth bin of a depth in cells (R197). -/
def depthBin (d : Nat) : Nat := if d = 0 then 0 else min 15 (d.log2 + 1)

/-- The sojourn bin of a head's sojourn with U = 2⁻ᴺ s (R197). A sojourn below U of a queue that is not empty lies in no bin the manual
states: bin 0 or 1, as the free bit says (log entry 2). -/
def sojBin (n soj : Nat) (free : Bool) : Nat :=
  let q := soj / 2 ^ (32 - n)
  if q = 0 then bit free else min 15 (q.log2 + 1)

/-- One sample of a sampler: depth, head sojourn (none when empty). -/
def takeSample (n depth : Nat) (soj : Option Nat) (free : Bool) (r : Sampler) : Sampler :=
  { r with depth := bump r.depth (depthBin depth), soj := bump r.soj (match soj with | some v => sojBin n v free | none => 0),
           lastDepth := depth, lastSoj := sat 32 (soj.getD 0), samples := sat 32 (r.samples + 1) }

/-- Apply a function to every key below a bound, in one pass over the sparse table. -/
def mapRange (f : Nat → Sampler → Sampler) : List Nat → SMap Sampler → SMap Sampler
  | [], m => m
  | k :: ks, [] =>
    let v := f k {}
    if v = {} then mapRange f ks [] else (k, v) :: mapRange f ks []
  | k :: ks, (x, r) :: m =>
    let v := f k (if x = k then r else {})
    let rest := mapRange f ks (if x = k then m else (x, r) :: m)
    if v = {} then rest else (k, v) :: rest

/-- SAMPLER_PERIOD: at a period start every sampler takes one sample (R196). -/
def execSamplerPeriod (s : State) : Res :=
  .next (if s.flag SCHED.CTRL_SAMPLE_EN ∧ s.sched.nextSample ≤ s.time.ft then
    let e := s.get SCHED.SAMPLE_SOJ_EXP
    let n := if 20 ≤ e ∧ e ≤ 32 then e else 26
    let (v, s) := s.fresh
    let f := fun (k : Nat) (r : Sampler) =>
      takeSample n (depthOf s k) ((samplerHead s k).map (fun p => s.time.ft - p.since)) (v.testBit k) r
    { s with sched := { s.sched with samplers := mapRange f (List.range 18208) s.sched.samplers, nextSample := nextPeriod s (s.time.ft + 1) } }
  else s)

/-- A sampler with its bins and peaks zeroed (R198): the greatest depth since the clear is at least the depth `d` at the clear (R197). -/
def clearedSampler (d : Nat) (r : Sampler) : Sampler := { lastDepth := r.lastDepth, lastSoj := r.lastSoj, peakDepth := d }

/-- The words of `SCHED.SAMP_DATA` for a sampler's record (R207). -/
def samplerWords (r : Sampler) (ft : Nat) : List Nat :=
  r.depth ++ r.soj ++ [r.lastDepth % 65536, r.lastSoj, r.peakDepth % 65536, r.peakSoj, ft % 2 ^ 32, ft / 2 ^ 32, r.samples, 0]

/-- Write consecutive words from an offset. -/
def State.wrList (s : State) : Nat → List Nat → State
  | _, [] => s
  | off, v :: vs => (s.wr off (BitVec.ofNat 32 v)).wrList (off + 4) vs

/-- What a write of `SCHED.SAMP_SEL` does (R198): the selection, the copy, and the clear. -/
def State.actSampSel (s : State) (val : Word) : State :=
  let s := s.wr SCHED.SAMP_SEL (val &&& 0xFFFF)
  let k := s.get SCHED.SAMP_SEL_INDEX
  if 18208 ≤ k then s.wrList (SCHED.SAMP_DATA 0) (List.replicate 40 0)
  else
    let s := s.wrList (SCHED.SAMP_DATA 0) (samplerWords (SMap.get (fun _ => {}) s.sched.samplers k) s.time.ft)
    if s.flag SCHED.SAMP_SEL_CLEAR then s.onSampler k (clearedSampler (depthOf s k)) else s

/-- What SAMPLE_CLEAR does (R205). -/
def State.actSampleClear (s : State) : State :=
  { s with sched := { s.sched with samplers := mapRange (fun k r => clearedSampler (depthOf s k) r) (List.range 18208) s.sched.samplers } }

/-- SAMP_SEL_WRITE. -/
def execSampSelWrite (path : Path) (val : Word) (s : State) : Res :=
  .next (s.writing path SCHED.SAMP_SEL val (fun s => s.actSampSel val))

/-- SAMPLE_CLEAR. -/
def execSampleClear (path : Path) (s : State) : Res :=
  .next (s.writing path SCHED.CTRL (strobe s SCHED.CTRL_SAMPLE_CLEAR 0x1) State.actSampleClear)

/-- SCHED_ECC_ERROR (R201): corrected, or the structure hit is made safe; source 38 reports the subscriber or PortID. A VOQ sampler has
neither: 0xFFFF. -/
def execSchedEccError (what : SchedEcc) (double : Bool) (s : State) : Res :=
  let inst := match what with
    | .subscriber i => i.val
    | .gateList i => egressId i
    | .sampler k => if 14112 ≤ k.val then k.val - 14112 else 0xFFFF
  .next (if double then
    let s := (s.set SCHED.STATUS_ECC_UE 1).raiseFault 38 UC inst
    match what with
    | .subscriber i =>
      { s with sched := { s.sched with wheel := s.sched.wheel.filter (fun x => x.2 ≠ i.val),
                                       elig := SMap.set (fun _ => 0) s.sched.elig i (s.time.ft : Rat) } }
    | .gateList i => (s.set (SCHED.PORT_GATE_STATUS_FAULT i) 1).refreshGate i
    | .sampler k => s.onSampler k (fun _ => {})
  else (s.set SCHED.STATUS_ECC_CE 1).raiseFault 38 CE inst)

end Sys2Proof.Machine
end

