-- ==== Sys2Proof/Machine/Guard.lean ====
section
/-! DEFINITION. The port guard (R227 to R245): what a request needs, the match rule, refusal records, the debug port against LOCK
regions, and region table errors. -/
namespace Sys2Proof.Machine
open Sys2Proof

/-- The right a request needs (R230). -/
inductive Need where
  | unchecked | io | read | write | atomic
deriving DecidableEq, Repr

/-- The right needed by a TLP (R230). -/
def needOf (t : Tlp) : Need :=
  match t.kind with
  | .memRd | .memRdLk => .read
  | .memWr | .dmWr => .write
  | .fetchAdd | .swap | .cas => .atomic
  | .ioRd | .ioWr => .io
  | .cfgRd | .cfgWr | .cpl => .unchecked
  | .msg => if t.msgRoute = 1 then .write else .unchecked

/-- First byte and number of bytes checked: byte enables do not narrow the range, so a zero-length request is one DWORD; an AtomicOp's
operand, which for CAS is half of the payload (R230). -/
def rangeOf (t : Tlp) : Nat × Nat :=
  (t.addr, match t.kind with
    | .cas => max 1 (2 * t.lenDw)
    | _ => max 1 (4 * t.lenDw))

/-- The 256-byte blocks a range touches. -/
def blocksOf (start len : Nat) : List Nat :=
  (List.range ((start + len - 1) / 256 + 1 - start / 256)).map (fun i => start / 256 + i)

/-- The regions in force: valid and not lost to an ECC error (R242). -/
def regionsInForce (s : State) : List RegionEnt :=
  ((rdRegions (liveRd s)).filter (fun e => ¬ s.guard.lost.contains e.1)).map Prod.snd

/-- Whether a region covers a block. -/
def covers (b : Nat) (r : RegionEnt) : Bool := r.start ≤ 256 * b && 256 * b < r.stop

/-- Whether a region is in the view of colour `c` (R231). -/
def inView (c : Nat) (r : RegionEnt) : Bool := (r.mtch = 0 && r.tag = c) || r.mtch = 1

/-- Whether a region grants what is needed. -/
def grants (need : Need) (r : RegionEnt) : Bool :=
  match need with
  | .read => r.rights.testBit 0
  | .write => r.rights.testBit 1
  | .atomic => r.rights.testBit 2
  | _ => true

/-- What the match rule decides for one block: passed as a debug access through LOCK, allowed (by a LOCK region or not), or refused with a
cause: 0 NO_REGION, 1 RIGHT_MISSING, 2 LOCK_DEBUG, 3 IO. -/
inductive Verdict where
  | lockPass
  | allow (lock : Bool)
  | refuse (cause : Nat)
deriving DecidableEq, Repr

/-- The match rule of R234 for one block. -/
def blockVerdict (s : State) (c : Nat) (need : Need) (rs : List RegionEnt) (b : Nat) : Verdict :=
  if c = 0xFFE ∧ rs.any (fun r => r.rights.testBit 7 && covers b r) then
    (if debugOpen s then .lockPass else .refuse 2)
  else match rs.find? (fun r => inView c r && covers b r) with
    | none => .refuse 0
    | some r => if grants need r then .allow (r.rights.testBit 7) else .refuse 1

/-- The verdict on a whole request (R234): the first block refused refuses it; `lock` tells whether some block was allowed by a LOCK
region. The second component counts the blocks passed through LOCK. -/
def guardVerdict (s : State) (unit c : Nat) (need : Need) (start len : Nat) : Verdict × Nat :=
  match need with
  | .unchecked => (.allow false, 0)
  | .io => (if s.flag (GUARD.UNIT_CTRL_IO_ALLOW unit) then .allow false else .refuse 3, 0)
  | _ =>
    if s.mode = 0 ∧ unit = 102 then (if debugOpen s then .allow false else .refuse 0, 0)
    else
      let rs := regionsInForce s
      let vs := (blocksOf start len).map (blockVerdict s c need rs)
      let passed := vs.takeWhile (fun v => match v with | .refuse _ => false | _ => true)
      let n := (passed.filter (fun v => v = .lockPass)).length
      match vs.find? (fun v => match v with | .refuse _ => true | _ => false) with
      | some v => (v, n)
      | none => (.allow (vs.any (fun v => v = .allow true)), n)

/-- ACCESS of a refusal record. -/
def accessCode (need : Need) : Nat :=
  match need with
  | .write => 1
  | .atomic => 2
  | .io => 3
  | _ => 0

/-- Count and journal the LOCK passes of a debug access (R241). -/
def State.noteLockPasses (s : State) (n addr len access : Nat) : State :=
  (List.range n).foldl (fun s _ => (s.addSat GUARD.DEBUG_LOCK_PASSES 1).post Src.guard
    { type := .debugLockPass, aux := addr, payload := [len, access] }) s

/-- The guard generation a TFP packet carries from the device where it began, or none: what R26 copies into a guard record (log entry 116). -/
def carriedGuard (h : TfpHdr) : Option Nat := if (h.gen / 2 ^ 20).testBit 4 then some (h.gen / 2 ^ 20 % 16) else none

/-- A refusal at unit `u`: the first while VALID is 0 fills the record and raises source 39; later ones are counted (R236). GEN is the guard generation
stamped here, or the one `gen` that a packet from a bundle carried (R26). The refusal of an internal master counts on the device page of its group (R490;
log entry 21); that of a port or bundle where its request ends. -/
def State.guardRefused (s : State) (u c : Nat) (need : Need) (np : Bool) (cause addr len rid : Nat) (gen : Option Nat) : State :=
  let s := if 100 ≤ u then s.count (if u = 101 then 136 else 138) (if np then 10 else 11) 1 else s
  if s.flag (GUARD.UNIT_REC_INFO_VALID u) then s.addSat (GUARD.UNIT_REC_COUNT_V u) 1
  else
    let s := s.wr (GUARD.UNIT_REC_INFO u) (BitVec.ofNat 32 (1 + 2 * bit np + 4 * cause + 32 * accessCode need + 256 * c + 2 ^ 20 * gen.getD (genCur s 0)))
    let s := s.wr64 (GUARD.UNIT_REC_ADDR_LO u) addr
    let s := s.wr (GUARD.UNIT_REC_REQ u) (BitVec.ofNat 32 ((if 100 ≤ u then 0 else rid % 65536) + 65536 * (len % 8192)))
    let s := s.wr64 (GUARD.UNIT_REC_FT_LO u) s.time.ft
    s.raiseFault 39 CE u

/-- Guard a request at unit `u`: none when refused, else whether a LOCK region allowed it. The record, journal and fault of the outcome
are in the state answered. -/
def State.guardCheck (s : State) (u c : Nat) (need : Need) (np : Bool) (addr len rid : Nat) (gen : Option Nat := none) : Option Bool × State :=
  let (v, n) := guardVerdict s u c need addr len
  let s := s.noteLockPasses n addr len (accessCode need)
  match v with
  | .refuse cause => (none, s.guardRefused u c need np cause addr len rid gen)
  | .allow lock => (some lock, s)
  | .lockPass => (some true, s)

/-- What a strict sweep ends: requests of the swept generation still in an ingress buffer, pre-queue, VOQ or replication staging (R237). -/
def sweeps (g : Nat) (p : Pkt) : Bool :=
  p.place ≠ .egress && p.kind < 2 && decide ((p.gens[0]?).getD none = some g)

/-- GUARD_ECC_ERROR (R242): a single-bit error, or a double-bit error in one copy of a LOCK region, is repaired (CE). A double-bit error in a
region without LOCK, or in both copies of a LOCK region, loses it: it covers nothing until a commit rewrites it, a LOCK region until the next image
application (UC). -/
def execGuardEccError (hit : RegionHit) (double : Bool) (s : State) : Res :=
  .next (if double ∧ (¬ s.flag (Region.LOCK hit.region) ∨ hit.both) then
    let s := { s with guard := { s.guard with lost := if s.guard.lost.contains hit.region.val then s.guard.lost else s.guard.lost ++ [hit.region.val] } }
    ((s.set GUARD.STATUS_ECC_UE 1).set GUARD.STATUS_INDEX hit.region).raiseFault 39 UC 0xFFFF
  else (s.set GUARD.STATUS_ECC_CE 1).raiseFault 39 CE 0xFFFF)

end Sys2Proof.Machine
end

