-- ==== Sys2Proof/Machine/Route.lean ====
section
/-! DEFINITION. Where a request goes: the functions of a partition's virtual switch (R209, R467), colours (R211, R212), bindings (R213 to
R215, R307), windows (R305, R319), multicast groups (R161, R162), and routing by bridge windows and bus numbers (PRESUMED PCIe Base
type 1 header; log entry 6). -/
namespace Sys2Proof.Machine
open Sys2Proof

/-! ### Functions of the virtual switch -/

/-- The vDSP devices of partition p of one kind. -/
def vdspsOf (s : State) (p kind : Nat) : List Nat := (List.range 32).filter (fun d => 0 < d && s.get (PART.VDSP_KIND p d) = kind)

/-- Whether a type 1 function's memory windows claim an address while its Memory Space Enable is set. -/
def claimsMem (s : State) (fn addr : Nat) : Bool :=
  let m := s.cfgRd fn 8
  let f := s.cfgRd fn 9
  let base := fieldOf m 4 12 * 2 ^ 20
  let limit := fieldOf m 20 12 * 2 ^ 20 + 0xFFFFF
  let pbase := fieldOf f 4 12 * 2 ^ 20 + 2 ^ 32 * (s.cfgRd fn 10).toNat
  let plimit := fieldOf f 20 12 * 2 ^ 20 + 0xFFFFF + 2 ^ 32 * (s.cfgRd fn 11).toNat
  (s.cfgRd fn 1).toNat.testBit 1 && ((base ≤ addr && addr ≤ limit) || (pbase ≤ addr && addr ≤ plimit))

/-- Whether a type 1 function's I/O window claims an address while its I/O Space Enable is set. -/
def claimsIo (s : State) (fn addr : Nat) : Bool :=
  let w := s.cfgRd fn 7
  (s.cfgRd fn 1).toNat.testBit 0 && fieldOf w 4 4 * 4096 ≤ addr && addr ≤ fieldOf w 12 4 * 4096 + 0xFFF

/-- Secondary and Subordinate Bus Numbers of a type 1 function. -/
def busRange (s : State) (fn : Nat) : Nat × Nat := (fieldOf (s.cfgRd fn 6) 8 8, fieldOf (s.cfgRd fn 6) 16 8)

/-- Whether a bus lies below a type 1 function. -/
def belowFn (s : State) (fn bus : Nat) : Bool := (busRange s fn).1 ≤ bus && bus ≤ (busRange s fn).2 && (busRange s fn).1 ≠ 0

/-- The BAR (0 BAR0, 2 BAR2, 6 the ROM) of partition p's management function that an address decodes to, with the offset (R465):
Memory Space Enable set, and for the ROM its enable. -/
def mgmtBar (s : State) (p addr : Nat) : Option (Nat × Nat) :=
  let fn := 33 * p
  let b0 := fieldOf (s.cfgRd fn 4) 24 8 * 2 ^ 24 + 2 ^ 32 * (s.cfgRd fn 5).toNat
  let b2 := fieldOf (s.cfgRd fn 6) 20 12 * 2 ^ 20 + 2 ^ 32 * (s.cfgRd fn 7).toNat
  let rom := fieldOf (s.cfgRd fn 12) 18 14 * 2 ^ 18
  if ¬ (s.cfgRd fn 1).toNat.testBit 1 then none
  else if b0 ≤ addr ∧ addr < b0 + 2 ^ 24 then some (0, addr - b0)
  else if b2 ≤ addr ∧ addr < b2 + 2 ^ 20 then some (2, addr - b2)
  else if (s.cfgRd fn 12).toNat.testBit 0 ∧ rom ≤ addr ∧ addr < rom + 2 ^ 18 then some (6, addr - rom)
  else none

/-! ### Colours -/

/-- A smallest element by a measure, the first of equals. -/
def minBy {α : Type} (f : α → Nat) : List α → Option α
  | [] => none
  | x :: xs => match minBy f xs with
    | none => some x
    | some y => if f x ≤ f y then some x else some y

/-- The colour of a request that enters PCIe port `n` with Requester ID `rid` (R211). -/
def colourOf (s : State) (n rid : Nat) : Nat :=
  let cs := ((rdColours (liveRd s)).map Prod.snd).filter (fun c => c.portid = n)
  match minBy (fun c => c.ridHi - c.ridLo) (cs.filter (fun c => c.select = 1 ∧ c.ridLo ≤ rid ∧ rid ≤ c.ridHi)) with
  | some c => c.colour
  | none => match cs.find? (fun c => c.select = 0) with
    | some c => c.colour
    | none => match portPart s n with
      | some p => s.get (PART.TABLE_CTRL_COLOUR p)
      | none => match ((rdBinds (liveRd s)).map Prod.snd).find? (fun b => b.target = n ∧ b.devRid = rid) with
        | some b => s.get (PART.TABLE_CTRL_COLOUR b.part)
        | none => 0

/-- The colour of a TFP packet that enters bundle `b`: the carried one unless a COLOUR entry overrides it (R212). -/
def bundleColour (s : State) (b carried : Nat) : Nat :=
  match ((rdColours (liveRd s)).map Prod.snd).find? (fun c => c.portid = 112 + b ∧ c.select = 0) with
  | some c => c.colour
  | none => carried

/-! ### Bindings and windows -/

/-- The binding of partition p whose host range holds an address (R214). -/
def bindAt (s : State) (p addr : Nat) : Option (Nat × BindEnt) :=
  (rdBinds (liveRd s)).find? (fun e => e.2.part = p && e.2.hostBase ≤ addr && addr < e.2.hostBase + e.2.length)

/-- The binding that names a requester on a shared port (R215). -/
def bindOfDev (s : State) (target rid : Nat) : Option (Nat × BindEnt) :=
  (rdBinds (liveRd s)).find? (fun e => e.2.target = target && e.2.devRid = rid)

/-- The host-view Routing ID of a bound function: bus S + offset below its vDSP (R213). -/
def hostRid (s : State) (b : BindEnt) : Nat :=
  match vdspOf s b.part b.target with
  | some d => ((busRange s (33 * b.part + d)).1 + b.hostRid / 256) * 256 + b.hostRid % 256
  | none => b.hostRid

/-- Whether the host can reach a bound function: its bus is not above its own vDSP's Subordinate Bus Number (R213). -/
def boundReach (s : State) (b : BindEnt) : Bool :=
  match vdspOf s b.part b.target with
  | some d => belowFn s (33 * b.part + d) ((busRange s (33 * b.part + d)).1 + b.hostRid / 256)
  | none => false

/-- Whether a bound function's vDSP is present (R222). -/
def boundPresent (s : State) (b : BindEnt) : Bool :=
  match vdspOf s b.part b.target with
  | some d => s.flag (PART.VDSP_PRESENT b.part d)
  | none => false

/-- The binding of the function that a host-view Routing ID names in partition p. -/
def bindOfHostRid (s : State) (p rid : Nat) : Option (Nat × BindEnt) :=
  (rdBinds (liveRd s)).find? (fun e => e.2.part = p && boundReach s e.2 && hostRid s e.2 = rid)

/-- The valid window of partition p that holds a local address; a window lost to an ECC error matches nothing (R305, R333). -/
def windowAt (s : State) (p addr : Nat) : Option (Nat × WinEnt) :=
  (rdWins (liveRd s)).find? (fun e => e.2.part = p && e.2.base ≤ addr && addr < e.2.base + e.2.length && !s.brg.deadWin.contains e.1)

/-- The window of a binding's partition that holds its device range (R219). -/
def windowOfBind (s : State) (b : BindEnt) : Option (Nat × WinEnt) :=
  (rdWins (liveRd s)).find? (fun e => e.2.part = b.part && e.2.base ≤ b.devBase && b.devBase + b.length ≤ e.2.base + e.2.length &&
    !s.brg.deadWin.contains e.1)

/-- The binding a bridged request from SRC_DEVID `d`, SRC_PORTID `q` and requester `rid` matches at the borrower (R307). -/
def bindOfRemote (s : State) (d q rid : Nat) : Option (Nat × BindEnt) :=
  (rdBinds (liveRd s)).find? (fun e => 112 ≤ e.2.target && e.2.target ≤ 115 && e.2.devRid = rid &&
    (match windowOfBind s e.2 with
     | some w => w.2.devid = d && w.2.portid = q
     | none => false))

/-- The proxy RID of partition p (R214). -/
def proxyRid (s : State) (p : Nat) : Nat := 256 * s.get PART.CTRL_PROXY_BUS + 8 * (p / 8) + p % 8

/-- The bridge proxy RID (R325). -/
def bridgeRid (s : State) : Nat := 256 * s.get PART.CTRL_PROXY_BUS + 8 * 4

/-! ### Multicast -/

/-- Dword of a switch-port function's Multicast capability: at 0x200 of its configuration space (log entry 6). -/
def mcCap (k : Nat) : Nat := 0x80 + k

/-- The PCIe multicast group of an address under function `fn`'s Multicast capability: MC_Enable, MC_Base_Address, MC_Index_Position. -/
def pcieGroup (s : State) (fn addr : Nat) : Option Nat :=
  let ctl := s.cfgRd fn (mcCap 1)
  let lo := s.cfgRd fn (mcCap 2)
  let base := fieldOf lo 12 20 * 4096 + 2 ^ 32 * (s.cfgRd fn (mcCap 3)).toNat
  let pos := fieldOf lo 0 6
  if ctl.toNat.testBit 31 ∧ base ≤ addr ∧ (addr - base) / 2 ^ pos ≤ fieldOf ctl 16 6 then some ((addr - base) / 2 ^ pos) else none

/-- What an address of partition p, entering port `n`, is in multicast: no group; a PCIe group at or above COUNT; a local group with its
members (R161, R162). -/
inductive McHit where
  | none_
  | beyond
  | group (g : Nat) (members : List Nat) (pcie : Bool)
deriving DecidableEq, Repr

/-- The registers' MEMBERS of local group `g`, as PortIDs. -/
def mcgMembers (s : State) (g : Nat) : List Nat :=
  (List.range 96).filter (fun n => (s.rd (CORE.MCG_MEMBERS g (n / 32))).toNat.testBit (n % 32))

/-- The multicast group an address falls in: the lowest-numbered enabled local group, or a PCIe group of the port's capability mapped by
`CORE.MC_MAP` (R161, R162). Nothing is multicast while MC_EN is 0. An address that is in both is the PCIe group's, DESIGN CHOICE: the manual does not say
which of the two takes it (log entry 115). -/
def multicastAt (s : State) (p n addr : Nat) : McHit :=
  if ¬ s.flag CORE.CTRL_MC_EN then .none_
  else
    match pcieGroup s (portFn s n) addr with
    | some k =>
      if k < s.get (CORE.MC_MAP_COUNT p) then
        .group (s.get (CORE.MC_MAP_BASE p) + k) ((partPorts s p).filter (fun m => (s.paux m).mcReceive.testBit k)) true
      else .beyond
    | none =>
      match (List.range 256).find? (fun g => s.flag (CORE.MCG_CTRL_ENABLE g) && s.get (CORE.MCG_CTRL_PART g) = p &&
          s.rd64 (CORE.MCG_BASE_LO g) ≤ addr && addr < s.rd64 (CORE.MCG_BASE_LO g) + s.rd64 (CORE.MCG_LEN_LO g)) with
      | some g => .group g (mcgMembers s g) false
      | none => .none_

/-- The address a multicast copy carries on egress port `n`: MC_Overlay of its capability applies to a PCIe multicast group (R162). -/
def overlayAddr (s : State) (n addr : Nat) : Nat :=
  let lo := s.cfgRd (portFn s n) (mcCap 10)
  let size := fieldOf lo 0 6
  if size < 6 then addr
  else (fieldOf lo 6 26 * 64 + 2 ^ 32 * (s.cfgRd (portFn s n) (mcCap 11)).toNat) / 2 ^ size * 2 ^ size + addr % 2 ^ size

/-! ### Routing inside a partition -/

/-- The member port of partition p whose vDSP claims a memory or I/O address. -/
def memberAt (s : State) (p addr : Nat) (io : Bool) : Option Nat :=
  ((vdspsOf s p 1).find? (fun d => if io then claimsIo s (33 * p + d) addr else claimsMem s (33 * p + d) addr)).map
    (fun d => s.get (PART.VDSP_PORTID p d))

/-- The member port of partition p below which a bus lies. -/
def memberOfBus (s : State) (p bus : Nat) : Option Nat :=
  ((vdspsOf s p 1).find? (fun d => belowFn s (33 * p + d) bus)).map (fun d => s.get (PART.VDSP_PORTID p d))

/-- Where an ID-routed packet of partition p goes that entered from port `n`: the member port above the bus, or the upstream port. -/
def idRoute (s : State) (p rid : Nat) : Nat :=
  match memberOfBus s p (rid / 256) with
  | some m => m
  | none => upstreamOf s p

/-- Where an address of partition p goes that entered from `n`: a member port that claims it, or, from below, the upstream port; none from
the upstream port when nothing claims it (R553). -/
def addrRoute (s : State) (p n addr : Nat) (io : Bool) : Option Nat :=
  match memberAt s p addr io with
  | some m => if m = n then none else some m
  | none => if n = upstreamOf s p then none else some (upstreamOf s p)

/-! ### Errors logged in a port's AER -/

/-- Log an uncorrectable error in a function's AER capability at 0x100: its status bit, and when it is the first its
place, its header and its TLP prefixes (R123, R235; layout
of the Base Specification, log entry 6). -/
def State.aerLog (s : State) (fn bit : Nat) (t : Tlp) : State :=
  let st := s.cfgRd fn 65
  let s := s.cfgWr fn 65 (withField st bit 1 1)
  if st = 0 then
    let pre := pasidBytes t.pasid ++ t.prefixes
    let s := (List.range 4).foldl (fun s i => s.cfgWr fn (71 + i) (BitVec.ofNat 32 ((tlpHeaderWords t)[i]?.getD 0))) s
    let s := (List.range 4).foldl (fun s i => s.cfgWr fn (78 + i) (BitVec.ofNat 32 (ofBe ((pre.drop (4 * i)).take 4)))) s
    s.cfgWr fn 70 (withField (withField (s.cfgRd fn 70) 0 5 bit) 11 1 (if pre = [] then 0 else 1))
  else s

/-- AER status bits used: Malformed TLP, Unsupported Request Error, Surprise Down Error. -/
def aerMalformed : Nat := 18
def aerUr : Nat := 20
def aerSurprise : Nat := 5

end Sys2Proof.Machine
end

