-- ==== Sys2Proof/Machine/Alarms.lean ====
section
/-! DEFINITION. FT alarms (R108, R109): firing, what it does for the alarm's owner, and the write of an alarm's CTRL. -/
namespace Sys2Proof.Machine
open Sys2Proof

/-- PERIOD of an alarm as it acts: below 4,295 FT units it is 4,295 (R108). -/
def alarmPeriod (s : State) (n : Nat) : Nat := max 4295 (s.rd64 (TIME.ALARM_PERIOD_LO n))

/-- Whether alarm `n` is to fire: enabled, FT at or past AT, and, for a one-shot, not fired since it was armed (R108). -/
def alarmDue (s : State) (n : Nat) : Bool :=
  s.flag (TIME.ALARM_CTRL_ENABLE n) && s.rd64 (TIME.ALARM_AT_LO n) ≤ s.time.ft &&
    (s.flag (TIME.ALARM_CTRL_PERIODIC n) || !s.time.firedOnce.contains n)

/-- Arm an alarm again: it may fire once more. -/
def State.rearm (s : State) (n : Nat) : State := { s with time := { s.time with firedOnce := s.time.firedOnce.filter (· ≠ n) } }

/-- What a firing does for the owner (R108, R330, R399): a host alarm raises its vector; the sideband poll and the checkpoint become due, and at
every fifth firing of the twin alarm the croak toggles (R403). -/
def State.alarmOwnerAct (s : State) (n : Nat) : State :=
  match alarmOwner s n with
  | some (0x0A, p) => s.raiseVector p (s.get (TIME.ALARM_CTRL_VECTOR n))
  | some (0x0B, _) => { s with brg := { s.brg with pollDue := true } }
  | some (0x09, _) =>
    { s with twin := { s.twin with ckptDue := true, fires := (s.twin.fires + 1) % 5,
                                   toggle := if s.twin.fires = 4 then [0, 1] else s.twin.toggle } }
  | _ => s

/-- Fire alarm `n` (R108): FIRED; MISSED when FIRED was still 1 or more than one period was crossed; a periodic alarm's AT moves past FT;
the firing passes the ledger with the alarm's index in AUX. A periodic alarm armed more than one period late fires once and sets MISSED as after a step,
DESIGN CHOICE: R108 speaks of a step alone (log entry 107). -/
def State.fireAlarm (s : State) (n : Nat) : State :=
  let per := s.flag (TIME.ALARM_CTRL_PERIODIC n)
  let at_ := s.rd64 (TIME.ALARM_AT_LO n)
  let k := (s.time.ft - at_) / alarmPeriod s n + 1
  let missed := s.flag (TIME.ALARM_STATUS_FIRED n) || (per && decide (1 < k))
  let feature := match alarmOwner s n with
    | some (o, _) => decide (o ≠ 0x0A)
    | none => false
  let s := s.set (TIME.ALARM_STATUS_FIRED n) 1
  let s := if missed then s.set (TIME.ALARM_STATUS_MISSED n) 1 else s
  let s := if per then s.wr64 (TIME.ALARM_AT_LO n) (at_ + k * alarmPeriod s n)
    else { s with time := { s.time with firedOnce := s.time.firedOnce ++ [n] } }
  let s := s.post Src.time { type := .alarm, aux := n, payload := [(s.rd TIME.STATUS).toNat], feature := feature }
  s.alarmOwnerAct n

/-- Fire every alarm that is due (R105, R108). -/
def State.fireAlarms (s : State) : State := (List.range 16).foldl (fun s n => if alarmDue s n then s.fireAlarm n else s) s

/-- ALARM_FIRE. -/
def execAlarmFire (n : Fin 16) (s : State) : Res := .next (if alarmDue s n then s.fireAlarm n else s)

/-- An accepted write of CTRL by the owner arms or disarms the alarm; REASON tells that it was accepted. -/
def State.applyAlarmCtrl (s : State) (n : Nat) (val : Word) : State :=
  ((s.wr (TIME.ALARM_CTRL n) (val &&& 0x3F03)).set (TIME.ALARM_STATUS_REASON n) 0).rearm n

/-- The refusal of an alarm's ENABLE that waited for the checker: the alarm has no owner (R109). -/
def alarmRefusal (s : State) (n : Nat) : Nat := if (alarmOwner s n).isNone then 0x03 else 0

/-- A write of an alarm's CTRL by its owner: one that sets ENABLE is tested by the checker (R77). -/
def State.actAlarmCtrl (s : State) (path : Path) (n : Nat) (val : Word) : State :=
  s.enableWrite path (TIME.ALARM_CTRL n) val (s.flag (TIME.ALARM_CTRL_ENABLE n)) (fun s => s.applyAlarmCtrl n val)

/-- A write of an alarm's CTRL on any path: from its owner it is taken; from anyone else it is discarded as a privilege refusal, and one
that sets ENABLE on an alarm without an owner also sets REASON RESOURCE_OWNED (R109). -/
def State.alarmWrite (s : State) (path : Path) (n : Nat) (val : Word) : State :=
  let t := s.writing path (TIME.ALARM_CTRL n) val (fun s => s.actAlarmCtrl path n val)
  if (alarmOwner s n).isNone ∧ val.toNat.testBit 0 ∧ s.mode ≠ 7 then t.set (TIME.ALARM_STATUS_REASON n) 0x03 else t

/-- ALARM_ENABLE_WRITE. -/
def execAlarmEnableWrite (path : Path) (n : Fin 16) (val : Word) (s : State) : Res := .next (s.alarmWrite path n val)

end Sys2Proof.Machine
end

