-- ==== Sys2Proof/Machine/Checker.lean ====
section
/-! DEFINITION. The consistency checker (R77, R78): every rule that refuses an image or a commit, in the order of R78, with its reason
(R83) and OFFENDER (R554). A rule that relates two sections is a cross-section rule and is reported against the higher-typed one. -/
namespace Sys2Proof.Machine
open Sys2Proof

/-- A test of one entry against the entries before it. -/
abbrev EntryTest (α : Type) := List α → α → List (Bool × Nat)

/-- The first test of an entry that fails, with OFFENDER from its place in the list of tests. -/
def firstAt (off : Nat → Nat) (l : List (Bool × Nat)) : Option Fail :=
  firstFail (l.zipIdx.map (fun e => (e.1.1, Fail.mk e.1.2 (off e.2))))

/-- Run an entry test down a section; `off` gives OFFENDER from an entry's index and the place of the test that fails. -/
def runBy {α : Type} (off : Nat → Nat → Nat) (test : EntryTest α) : List α → List (Nat × α) → Option Fail
  | _, [] => none
  | prev, (i, a) :: l =>
    match firstAt (off i) (test prev a) with
    | some f => some f
    | none => runBy off test (prev ++ [a]) l

/-- Run an entry test down a section whose entries are each reported under one OFFENDER. -/
def runEntries {α : Type} (off : Nat → Nat) (test : EntryTest α) (prev : List α) (l : List (Nat × α)) : Option Fail :=
  runBy (fun i _ => off i) test prev l

/-- The same where an entry test that needs the running device fails first at an index, with a reason: the entries below it come first (R78). -/
def runEarly {α : Type} (off : Nat → Nat) (test : EntryTest α) (early : Option (Nat × Nat)) (l : List (Nat × α)) : Option Fail :=
  match early with
  | none => runEntries off test [] l
  | some (j, reason) =>
    match runEntries off test [] (l.filter (fun e => e.1 < j)) with
    | some f => some f
    | none => some ⟨reason, off j⟩

/-- OFFENDER of an entry of section `sec` with index `i`: of an image, its place; of the running device, the register that holds it, or the window entry
(R554). -/
def offenderOf (image : Bool) (sec i : Nat) : Nat :=
  if image then offSec sec i
  else if sec = 8 then offReg (BRG.ROUTE i)
  else if sec = 12 then offReg (SLOT.CFG0 i)
  else offSec sec i

/-- The lanes a LANE_PORT entry claims, as 8·octet + lane. -/
def claimed (e : LanePort) : List Nat :=
  if e.portid < 96 then (List.range (lanesOf e.width)).map (fun k => 8 * e.octet + e.lane + k) else []

/-- The octets a LANE_PORT entry is placed in. -/
def octetsOf (e : LanePort) : List Nat :=
  if e.portid ≥ 96 then [] else if e.width = 4 then [e.octet, e.octet + 1] else [e.octet]

/-- LANE_PORT rules (R13, R53, R118, R143, R555). -/
def laneTest (mode : Nat) : EntryTest LanePort := fun prev e =>
  let pcie := e.portid < 96
  let w := lanesOf e.width
  [(reservedPort e.portid, 0x02),
   (pcie && (e.width > 4 || (e.width < 3 && (e.lane % w ≠ 0 || e.lane + w > 8)) || (e.width ≥ 3 && e.lane ≠ 0) || (e.width = 4 && e.octet % 2 = 1)), 0x01),
   (pcie && e.role ≥ 3, 0x01), (!pcie && (e.role < 3 || e.width < 5), 0x01),
   (pcie && e.role = 1 && (e.flags.testBit 1 || e.slot ≠ 0xFF || e.perst ≠ 0xFFFF), 0x42),
   (prev.any (fun p => p.portid = e.portid), 0x03),
   ((octetsOf e).any (fun o => 8 ≤ (prev.filter (fun p => (octetsOf p).contains o)).length), 0x40),
   (pcie && prev.any (fun p => (claimed p).any (fun l => (claimed e).contains l)), 0x01),
   (e.role = 1 && (if mode = 1 then 1 else 32) ≤ (prev.filter (fun p => p.role = 1)).length, 0x02),
   (e.perst ≠ 0xFFFF && prev.any (fun p => p.perst = e.perst), 0x03)]

/-- PARTITION rules on the entry and the section (R16, R54, R208). -/
def partTest (mode : Nat) : EntryTest PartEnt := fun prev e =>
  [(reservedPort e.upstream, 0x02), (!colourOk e.colour, 0x07), (e.busLast < e.busFirst, 0x05), (mode = 1 && e.part ≠ 0, 0x16),
   (prev.any (fun p => p.part = e.part), 0x03), (prev.any (fun p => p.upstream = e.upstream), 0x01),
   (prev.any (fun p => p.members &&& e.members ≠ 0), 0x01)]

/-- PARTITION rules against LANE_PORT (R54, R208). -/
def partCross (t : Tables) : EntryTest PartEnt := fun _ e =>
  [(!hasRole t e.upstream [1], 0x01), ((bitsSet 96 e.members).any (fun n => !hasRole t n [0, 2]), 0x01),
   (t.mode = 1 && t.lanes.any (fun l => l.2.portid < 96 && (l.2.role = 0 || l.2.role = 2) && !e.members.testBit l.2.portid), 0x16),
   (31 < (bitsSet 96 e.members).length, 0x19)]

/-- OFFENDER of a partition (R554): of the running device, the first register that the rule concerns. `ks` names, by the rule's place, TABLE_CTRL (0), BUS (1)
or MEMBERS (2); of MEMBERS it is the first word that differs from 0 (log entry 103). -/
def partOffender (image : Bool) (t : Tables) (ks : List Nat) (i k : Nat) : Nat :=
  if image then offSec 2 i
  else match (ks[k]?).getD 0 with
    | 0 => offReg (PART.TABLE_CTRL i)
    | 1 => offReg (PART.TABLE_BUS i)
    | _ =>
      let m := ((t.parts.find? (fun e => e.1 = i)).map (fun e => e.2.members)).getD 0
      offReg (PART.TABLE_MEMBERS i (if m % 2 ^ 32 ≠ 0 then 0 else if m / 2 ^ 32 % 2 ^ 32 ≠ 0 then 1 else if m ≠ 0 then 2 else 0))

/-- PRIVILEGE rules (R55, R477). -/
def privTest : EntryTest PrivEnt := fun prev e =>
  [((e.kind = 0 && e.index > 95) || (e.kind = 1 && !within e.index 112 115), 0x02),
   ((e.kind ≥ 2 && (e.classes.testBit 4 || e.classes.testBit 5)) || (e.kind = 1 && e.classes.testBit 5), 0x09),
   (prev.any (fun p => p.kind = e.kind ∧ p.index = e.index), 0x03)]

/-- COLOUR rules (R16, R56, R212). -/
def colourTest : EntryTest ColourEnt := fun _ e =>
  [(reservedPort e.portid, 0x02), (!colourOk e.colour, 0x07), (e.select = 1 && e.portid ≥ 96, 0x01),
   (e.select = 1 && e.ridHi < e.ridLo, 0x05)]

/-- COLOUR against LANE_PORT (R212). -/
def colourCross (t : Tables) : EntryTest ColourEnt := fun _ e =>
  [(!(if e.portid < 96 then hasRole t e.portid [0, 1] else hasRole t e.portid [3, 4]), 0x01)]

/-- Whether two regions can be in one colour's view (R231): ANY meets ANY and EXACT, EXACT meets an equal tag. -/
def shareView (a b : RegionEnt) : Bool :=
  (a.mtch = 1 && b.mtch ≤ 1) || (b.mtch = 1 && a.mtch ≤ 1) || (a.mtch = 0 && b.mtch = 0 && a.tag = b.tag)

/-- Whether two regions conflict (R232). -/
def regionClash (a b : RegionEnt) : Bool :=
  a.start < b.stop && b.start < a.stop &&
    (a.mtch = 2 || b.mtch = 2 || a.rights.testBit 7 != b.rights.testBit 7 || (shareView a b && a.rights ≠ b.rights))

/-- Guard regions: contents (R57, R233), then overlap with a region of lower index (R232). -/
def regionTest : EntryTest RegionEnt := fun prev e =>
  [(e.start % 256 ≠ 0 || e.stop % 256 ≠ 0 || e.stop ≤ e.start, 0x05), (e.mtch = 0 && e.tag = 0, 0x60),
   ((e.mtch = 1 || e.mtch = 2) && e.tag ≠ 0, 0x61), (e.mtch > 2, 0x62), (prev.any (fun p => regionClash p e), 0x04)]

/-- A region's tag against the assignments (R16). -/
def regionCross (t : Tables) : EntryTest RegionEnt := fun _ e => [(e.mtch = 0 && !assigned t e.tag, 0x07)]

/-- Whether a number is a power of two. -/
def isPow2 (n : Nat) : Bool := 0 < n && n == 2 ^ n.log2

/-- Whether two bindings name one function: equal PART, TARGET, HOST_RID and DEV_RID (R213). -/
def sameFn (a b : BindEnt) : Bool := a.part = b.part && a.target = b.target && a.hostRid = b.hostRid && a.devRid = b.devRid

/-- The vDSPs a partition needs: its member ports and the ports its bindings name (R209). -/
def vdspCount (t : Tables) (p : Nat) (bs : List BindEnt) : Nat :=
  let ms := match t.parts.find? (fun e => e.2.part = p) with
    | some e => (bitsSet 96 e.2.members).length
    | none => 0
  ms + ((bs.filter (fun b => b.part = p)).map (fun b => b.target)).dedup.length

/-- BINDING rules (R213, R220). -/
def bindTest (mode : Nat) : EntryTest BindEnt := fun prev e =>
  [(reservedPort e.target, 0x02),
   (!isPow2 e.length || e.length < 4096 || e.hostBase % e.length ≠ 0 || e.devBase % 4096 ≠ 0, 0x05),
   (mode = 2 && within e.target 112 115, 0x16),
   (3 ≤ (prev.filter (fun p => sameFn p e)).length, 0x19),
   (prev.any (fun p => p.part = e.part && overlap p.hostBase p.length e.hostBase e.length), 0x06),
   (prev.any (fun p => p.target = e.target && p.devRid = e.devRid && (p.part ≠ e.part || p.hostRid ≠ e.hostRid)), 0x03),
   (prev.any (fun p => p.part = e.part && p.target = e.target && p.hostRid = e.hostRid && p.devRid ≠ e.devRid), 0x03),
   (prev.any (fun p => p.target = e.target && !sameFn p e && overlap p.devBase p.length e.devBase e.length), 0x03)]

/-- BINDING against LANE_PORT and PARTITION (R220). -/
def bindCross (t : Tables) : EntryTest BindEnt := fun prev e =>
  [(!t.parts.any (fun p => p.2.part = e.part), 0x19), (31 < vdspCount t e.part (prev ++ [e]), 0x19),
   (!(sharedDown t e.target || within e.target 112 115), 0x01)]

/-- WINDOW rules (R59, R319); `own` is the device's own DevID while it is valid. -/
def winTest (own : Option Nat) : EntryTest WinEnt := fun prev e =>
  [(reservedPort e.portid, 0x02), (e.base % 4096 ≠ 0 || e.length % 4096 ≠ 0 || e.length = 0 || e.remote % 4096 ≠ 0, 0x05),
   (e.devid = 0x7FF || own = some e.devid, 0x80),
   (prev.any (fun p => p.part = e.part && overlap p.base p.length e.base e.length), 0x06)]

/-- WINDOW against PARTITION and BINDING (R220, R319). -/
def winCross (t : Tables) : EntryTest WinEnt := fun _ e =>
  [(!t.parts.any (fun p => p.2.part = e.part), 0x19),
   (t.binds.any (fun b => b.2.part = e.part && overlap b.2.hostBase b.2.length e.base e.length), 0x06)]

/-- Windows whose local range holds a binding's device range whole (R219), which the translated request then meets as R305 says (log entry 118). -/
def windowsHolding (t : Tables) (b : BindEnt) : List (Nat × WinEnt) :=
  t.windows.filter (fun w => w.2.part = b.part && w.2.base ≤ b.devBase && b.devBase + b.length ≤ w.2.base + w.2.length)

/-- ROUTE rules (R317, R555). -/
def routeTest (own : Option Nat) : EntryTest RouteEnt := fun prev e =>
  let names := e.primary < 4 || e.alternate < 4
  [(e.devid = 0x7FF, 0x02), ((own = some e.devid && names) || (e.primary = e.alternate && e.primary < 4), 0x0F),
   (within e.primary 4 6 || within e.alternate 4 6, 0x81), (prev.any (fun p => p.devid = e.devid), 0x03)]

/-- ROUTE against LANE_PORT (R317). -/
def routeCross (t : Tables) : EntryTest RouteEnt := fun _ e =>
  [([e.primary, e.alternate].any (fun b => b < 4 && !hasRole t (112 + b) [3, 4]), 0x81)]

/-- Whether two subscribers can match one packet (R182). -/
def subClash (a b : SubEnt) : Bool :=
  a.portid = b.portid && a.colour = b.colour && a.tc = b.tc && a.select = b.select && (a.select = 0 || (a.lo < b.hi && b.lo < a.hi))

/-- SUBSCRIBER rules (R182, R186, R555). -/
def subTest (slotExp : Nat) : EntryTest SubEnt := fun prev e =>
  [(reservedPort e.portid, 0x02), (e.select = 1 && (e.lo % 256 ≠ 0 || e.hi % 256 ≠ 0 || e.hi ≤ e.lo), 0x05),
   (0 < e.rate && e.burst * 2 ^ slotExp < e.rate * 1000, 0x51), (prev.any (fun p => p.id = e.id), 0x03), (prev.any (fun p => subClash p e), 0x50)]

/-- SUBSCRIBER against other sections (R16, R61, R182, R186). -/
def subCross (t : Tables) : EntryTest SubEnt := fun prev e =>
  let sum := ((prev ++ [e]).filter (fun p => p.portid = e.portid)).foldl (fun a p => a + p.rate) 0
  [(!(if e.portid < 96 then hasRole t e.portid [0, 1] else within e.portid 112 115), 0x55), (e.colour ≠ 0 && !assigned t e.colour, 0x07),
   (match laneOf t e.portid with
    | some l => decide (configRate l < ((sum * 1000 : Nat) : Rat)) && 0 < e.rate
    | none => false, 0x0E)]

/-- GATE_LIST rules (R62, R191, R555). -/
def gateTest : EntryTest GateEnt := fun prev e =>
  [(reservedPort e.portid, 0x02), ((e.entries.map Prod.snd).sum ≠ e.cycle, 0x0C),
   (!within e.entries.length 1 256 || !within e.cycle 4295 4294967296 || e.entries.any (fun x => x.2 = 0), 0x54),
   (prev.any (fun p => p.portid = e.portid), 0x03)]

/-- GATE_LIST against LANE_PORT (R191). -/
def gateCross (t : Tables) : EntryTest GateEnt := fun _ e =>
  [(match laneOf t e.portid with
    | some l => decide ((e.guard : Rat) * configRate l < ((lmaxOf l * 2 ^ 32 : Nat) : Rat))
    | none => false, 0x0D)]

/-- FAULT rules (R555). -/
def faultTest : EntryTest FaultEnt := fun prev e => [(prev.any (fun p => p.source = e.source), 0x03)]

/-- SLOT rules (R64, R449, R555). -/
def slotTest : EntryTest SlotEnt := fun prev e =>
  [(e.channel > 15 || !within e.shunt 10 100 || !within e.limit 250 20000 || !within e.slew 1 100 || !within e.timer 1 1000 ||
      !within e.offMult 16 256 || (e.retries > 15 && e.retries ≠ 0xFF) || e.insertMs > 10000, 0x15),
   (!within (e.limit * e.shunt) 25000 250000, 0x15), (reservedPort e.portid, 0x02), (prev.any (fun p => p.channel = e.channel), 0x03),
   (e.portid ≠ 0xFF && prev.any (fun p => p.portid = e.portid), 0xA3)]

/-- OFFENDER of a slot channel's settings: of the running device, the first register that holds a value at fault (R554). -/
def slotOffender (image : Bool) (t : Tables) (i : Nat) : Nat :=
  match (t.slots.find? (fun e => e.1 = i)).map Prod.snd with
  | none => offenderOf image 12 i
  | some e =>
    if image then offSec 12 i
    else if !within e.shunt 10 100 || !within e.limit 250 20000 || !within (e.limit * e.shunt) 25000 250000 then offReg (SLOT.CFG0 i)
    else if !within e.slew 1 100 || !within e.timer 1 1000 || !within e.offMult 16 256 || (e.retries > 15 && e.retries ≠ 0xFF) then offReg (SLOT.CFG1 i)
    else offReg (SLOT.CFG2 i)

/-- SLOT against LANE_PORT (R449). -/
def slotCross (t : Tables) : EntryTest SlotEnt := fun _ e =>
  [(e.portid ≠ 0xFF && (match laneOf t e.portid with
     | some l => !(l.portid < 96 && l.role = 0 && l.flags.testBit 1 && l.slot = e.channel)
     | none => true), 0xA3)]

/-- TWIN rules (R65, R392). -/
def twinTest (mode : Nat) : EntryTest TwinEnt := fun _ e => [(e.enable = 1 && mode = 5 && e.arrange ≠ 0, 0x16)]

/-- TWIN against LANE_PORT (R65). -/
def twinCross (t : Tables) : EntryTest TwinEnt := fun _ e => [(e.enable = 1 && !hasRole t (112 + e.bundle) [4], 0x03)]

/-- TIME_SOURCE against the mode (R65). -/
def timeTest (mode : Nat) : EntryTest TimeEnt := fun _ e => [(mode = 4 && e.source = 1 && e.upstream = 0, 0x16)]

/-- Whether a class, instance, owner and owner instance are a permitted pairing (R68, R164). -/
def ownerOk (e : OwnerEnt) : Bool :=
  let pid := e.ownerInst < 96 || within e.ownerInst 112 115
  match e.cls with
  | 1 => e.inst < 4 && ((e.owner = 1 && e.ownerInst = 0) || (e.owner = 2 && e.ownerInst < 16))
  | 2 => e.inst < 16 && ((e.owner = 0xA && e.ownerInst < 32) || (e.owner = 4 && pid) || ((e.owner = 0xB || e.owner = 9) && e.ownerInst = 0))
  | 3 => e.inst < 256 && ((e.owner = 3 && e.ownerInst = 0) || (e.owner = 4 && pid))
  | 4 => e.inst < 32 && ((e.owner = 5 && e.ownerInst < 256 && e.ownerInst % 8 = 0) || (e.owner = 6 && e.ownerInst < 8))
  | 5 => e.inst < 32 && ((e.owner = 7 && e.ownerInst < 4) || (e.owner = 5 && e.ownerInst = 0) || (e.owner = 6 && e.ownerInst < 8))
  | 6 => e.inst < 4 && ((e.owner = 8 && e.ownerInst = e.inst) || (e.owner = 9 && e.ownerInst = 0))
  | _ => false

/-- RESOURCE_OWNER rules (R13, R67, R68, R195). -/
def ownerTest : EntryTest OwnerEnt := fun prev e =>
  [((e.cls = 2 || e.cls = 3) && e.owner = 4 && reservedPort e.ownerInst, 0x02), (!ownerOk e, 0x03), (prev.any (fun p => p.cls = e.cls ∧ p.inst = e.inst), 0x03),
   (e.cls = 3 && e.owner = 4 && prev.any (fun p => p.cls = 3 ∧ p.owner = 4 ∧ p.ownerInst = e.ownerInst), 0x03)]

/-- Step 5 of R78: the sections in ascending type order, each section's count and mode first (R52). `early` gives, by section,
the first entry that a rule of the running device refuses, and its reason. Partition 0 of a TRANSPARENT device without a PARTITION entry has no colour (R208). -/
def sectionTests (image : Bool) (t : Tables) (own : Option Nat) (early : Nat → Option (Nat × Nat)) : Option Fail :=
  let o := offenderOf image
  let whole := fun (sec n lowMode : Nat) => firstFail [(image && (0 < n || t.present.contains sec) && t.mode < lowMode, failAt 0x16 sec 0xFFFFFF),
    (decide ((if sec = 2 ∧ t.mode = 1 then 1 else maxEntries sec) < n), failAt (if sec = 1 then 0x02 else 0x19) sec 0xFFFFFF)]
  let slotExp := (t.prefix_.getD (18, 0)).1
  firstSome [
    whole 1 t.lanes.length 1, runEntries (o 1) (laneTest t.mode) [] (if image then t.lanes else []),
    firstFail [(image && t.mode = 1 && !t.lanes.any (fun e => e.2.role = 1), failAt 0x02 1 0xFFFFFF)],
    whole 2 t.parts.length 1,
    runBy (partOffender image t [0, 0, 1, 0, 0, 0, 2]) (partTest t.mode) [] (if image ∨ t.mode ≠ 1 then t.parts else t.parts.filter (fun e => e.2.colour ≠ 0)),
    whole 3 t.privs.length 1, runEntries (o 3) privTest [] (if image then t.privs else []),
    whole 4 t.colours.length 1, runEntries (o 4) colourTest [] t.colours,
    whole 5 t.regions.length 1, runEarly (o 5) regionTest (early 5) t.regions,
    whole 6 t.binds.length 2, runEntries (o 6) (bindTest t.mode) [] t.binds,
    whole 7 t.windows.length 3, runEarly (o 7) (winTest own) (early 7) t.windows,
    whole 8 t.routes.length 3, runEntries (o 8) (routeTest own) [] t.routes,
    whole 9 t.subs.length 1, runEarly (o 9) (subTest slotExp) (early 9) t.subs,
    whole 10 t.gates.length 1, runEntries (o 10) gateTest [] t.gates,
    whole 11 t.faults.length 1, runEntries (o 11) faultTest [] t.faults,
    whole 12 t.slots.length 1, runEntries (slotOffender image t) slotTest [] t.slots,
    whole 13 t.twin.length 3,
    firstFail [(image && t.mode = 5 && !t.twin.any (fun e => e.2.enable = 1), failAt 0x16 13 (if t.twin = [] then 0xFFFFFF else 0))],
    runEntries (o 13) (twinTest t.mode) [] t.twin,
    whole 14 t.time.length 1, runEntries (o 14) (timeTest t.mode) [] t.time,
    whole 15 t.owners.length 1, runEntries (o 15) ownerTest [] (if image then t.owners else []),
    whole 16 t.defaults.length 1]

/-- Step 6 of R78: the cross-section rules, by the higher type. -/
def crossTests (image : Bool) (t : Tables) : Option Fail :=
  let o := offenderOf image
  let twinOn := t.twin.any (fun e => e.2.enable = 1)
  let none15 := failAt 0x03 15 0xFFFFFF
  let secondAlarm := ((((t.owners.filter (fun e => e.2.cls = 2 ∧ e.2.owner = 9)).map Prod.fst).drop 1).head?).getD 0
  firstSome [
    runBy (partOffender image t [0, 2, 2, 2]) (partCross t) [] t.parts, runEntries (o 4) (colourCross t) [] t.colours,
    runEntries (o 5) (regionCross t) [] t.regions, runEntries (o 6) (bindCross t) [] t.binds,
    runEntries (o 7) (winCross t) [] t.windows,
    firstFail [(t.binds.any (fun b => within b.2.target 112 115 && (windowsHolding t b.2).length ≠ 1), failAt 0x06 7 0xFFFFFF)],
    runEntries (o 8) (routeCross t) [] t.routes, runEntries (o 9) (subCross t) [] t.subs,
    runEntries (o 10) (gateCross t) [] t.gates, runEntries (slotOffender image t) (slotCross t) [] t.slots,
    runEntries (o 13) (twinCross t) [] t.twin,
    firstFail [(t.subs.any (fun e => 0 < e.2.rate) && (ownedBy t 3 3).isEmpty, none15),
      (t.gates.any (fun e => !(ownedBy t 3 4).any (fun w => w.ownerInst = e.2.portid)), none15),
      (t.slots.any (fun e => e.2.flags.testBit 1 && !(ownedBy t 1 2).any (fun w => w.ownerInst = e.2.channel)), none15),
      (t.twin.any (fun e => e.2.enable = 1 && !(ownedBy t 6 9).any (fun w => w.inst = e.2.bundle)), none15),
      (twinOn && (ownedBy t 2 9).length = 0, none15),
      (twinOn && decide (1 < (ownedBy t 2 9).length), failAt 0x03 15 secondAlarm)]]

/-- The checker over a whole image (R72 step 5, R86): the DevID it will hold is 0 in MANAGER, none in the other modes above 2. -/
def checkImage (i : Image) : Option Fail :=
  let t := i.tables
  firstSome [sectionTests true t (if t.mode = 4 then some 0 else none) (fun _ => none), crossTests true t]

/-! ### The rules on registers alone -/

/-- Whether copy slots or spill shares of a class belong to an owner and instance. -/
def owns (t : Tables) (cls owner oi : Nat) : Bool := (ownedBy t cls owner).any (fun e => e.ownerInst = oi)

/-- Rules of SCHED.PORT, GUARD.UNIT, CORE multicast, LEND, SB_CTRL and SB_WATCH settings (R13, R162, R164, R187, R244, R306, R330), in
order of BAR0 offset. -/
def registerTests (s : State) (t : Tables) (rd : Nat → Word) : Option Fail :=
  let at_ := fun (c : Bool) (reason off : Nat) => (c, Fail.mk reason (offReg off))
  let own := if s.flag GLB.DEVID_VALID then some (ownDev s) else none
  let inMap := fun (p g : Nat) => gf rd (CORE.MC_MAP_BASE p) ≤ g && g < gf rd (CORE.MC_MAP_BASE p) + gf rd (CORE.MC_MAP_COUNT p)
  let badDev := fun (d : Nat) => d = 0x7FF || own = some d
  firstSome [
    firstFail [at_ (t.mode = 1 && gf rd (PART.TABLE_CTRL_COLOUR 0) = 0 && decide (s.get (PART.TABLE_CTRL_COLOUR 0) ≠ 0)) 0x07 (PART.TABLE_CTRL 0)],
    firstFail ((List.range 256).filter (fun g => gf rd (CORE.MCG_CTRL_ENABLE g) = 1) |>.map (fun g =>
      at_ ((List.range 32).any (fun p => inMap p g) || !owns t 4 5 (g / 8 * 8)) 0x03 (CORE.MCG_CTRL g))),
    firstFail ((List.range 32).filter (fun p => gf rd (CORE.MC_MAP_COUNT p) ≠ 0) |>.flatMap (fun p =>
      [at_ (64 < gf rd (CORE.MC_MAP_COUNT p) || 256 < gf rd (CORE.MC_MAP_BASE p) + gf rd (CORE.MC_MAP_COUNT p)) 0x19 (CORE.MC_MAP p),
       at_ ((List.range p).any (fun q => (List.range 256).any (fun g => inMap p g && inMap q g))) 0x03 (CORE.MC_MAP p),
       at_ ((List.range 256).any (fun g => inMap p g && !owns t 4 5 (g / 8 * 8))) 0x03 (CORE.MC_MAP p)])),
    firstFail ((List.range 100).map (fun i =>
      at_ ((List.range 8).any (fun c => !(gf rd (SCHED.PORT_CLASS_STRICT i)).testBit c &&
        fieldOf (rd (if c < 4 then SCHED.PORT_WEIGHT_LO i else SCHED.PORT_WEIGHT_HI i)) (8 * (c % 4)) 8 = 0)) 0x52
        (if (List.range 4).any (fun c => !(gf rd (SCHED.PORT_CLASS_STRICT i)).testBit c && fieldOf (rd (SCHED.PORT_WEIGHT_LO i)) (8 * c) 8 = 0)
         then SCHED.PORT_WEIGHT_LO i else SCHED.PORT_WEIGHT_HI i))),
    firstFail ((List.range 103).map (fun u =>
      at_ ((gf rd (GUARD.UNIT_CTRL_TRANSIT_CHECK u) = 1 && !within u 96 99) || (gf rd (GUARD.UNIT_CTRL_IO_ALLOW u) = 1 && u ≥ 96)) 0x63
        (GUARD.UNIT_CTRL u))),
    firstFail [at_ (gf rd BRG.SB_CTRL_ENABLE = 1 && (ownedBy t 2 0xB).isEmpty) 0x03 BRG.SB_CTRL],
    firstFail ((List.range 96).filter (fun n => gf rd (BRG.LEND_VALID n) = 1) |>.flatMap (fun n =>
      [at_ (reservedPort (gf rd (BRG.LEND_PORTID n))) 0x02 (BRG.LEND n),
       at_ (!sharedDown t n || badDev (gf rd (BRG.LEND_DEVID n))) 0x84 (BRG.LEND n)])),
    firstFail ((List.range 64).filter (fun i => gf rd (BRG.SB_WATCH_CFG_VALID i) = 1) |>.map (fun i =>
      at_ (reservedPort (gf rd (BRG.SB_WATCH_CFG_PORTID i))) 0x02 (BRG.SB_WATCH_CFG i)))]

/-- A port's ingress shares (R150): MIN_CELLS from 1 to 129, or shares that with the reserve of 128 cells an octet exceed the buffer, are
BUDGET_TABLE. -/
def shareTest (s : State) (n : Nat) : Option Fail :=
  let k := s.get (PORT.CFG_OCTET n)
  let m := s.get (CORE.PORTBUF_MIN_CELLS n)
  firstFail [((1 ≤ m && m ≤ 129) || decide (16256 * octetSpan s k < ((octetPorts s k).map (shareFrom s)).sum), ⟨0x19, offReg (CORE.PORTBUF n)⟩)]

/-- R240: the first region whose runtime change is refused: a LOCK region that changes, or an entry, valid or not, that gains LOCK. -/
def lockBad (s : State) (rd : Nat → Word) : Option Nat :=
  (List.range 8192).find? (fun i =>
    (gf (liveRd s) (Region.LOCK i) = 1 && gf (liveRd s) (Region.VALID i) = 1 &&
        (rdRegion rd i != rdRegion (liveRd s) i || gf rd (Region.VALID i) = 0)) ||
      (gf rd (Region.LOCK i) = 1 && gf (liveRd s) (Region.LOCK i) = 0))

/-- R319: the first window whose MODE changes with ACKED writes outstanding. -/
def windowBusy (s : State) (rd : Nat → Word) : Option Nat :=
  (List.range 2048).find? (fun w =>
    gf (liveRd s) (Win.VALID w) = 1 && gf rd (Win.MODE w) ≠ gf (liveRd s) (Win.MODE w) && s.get (Win.ACKED_OUT w) ≠ 0)

/-- R200: the first subscriber whose PORTID changes while its pre-queue holds packets. -/
def subBusy (s : State) (rd : Nat → Word) : Option Nat :=
  ((s.core.pkts.filterMap (fun p => if p.place = .pre then p.sub else none)).filter (fun i =>
    decide (gf rd (Sub.PORTID i) ≠ gf (liveRd s) (Sub.PORTID i)))).min?

/-- The rules of the running device about one entry, by section: SEALED (R240), WINDOW_BUSY (R319), SUB_BUSY (R200). -/
def earlyTests (s : State) (rd : Nat → Word) (sec : Nat) : Option (Nat × Nat) :=
  if sec = 5 then (lockBad s rd).map (fun i => (i, 0x17))
  else if sec = 7 then (windowBusy s rd).map (fun i => (i, 0x85))
  else if sec = 9 then (subBusy s rd).map (fun i => (i, 0x53))
  else none

/-- WINDOW_BUSY and SUB_BUSY once more, at the cycle of application (R200, R319). -/
def busyTests (s : State) (rd : Nat → Word) : Option Fail :=
  firstSome [(windowBusy s rd).map (failAt 0x85 7), (subBusy s rd).map (failAt 0x53 9)]

/-- The table tests of a runtime commit or of the state DEFAULT_REG leaves (R66, R78): steps 5 and 6 over the register tables. -/
def checkState (s : State) (rd : Nat → Word) : Option Fail :=
  let t := rdTables s rd
  let own := if s.flag GLB.DEVID_VALID then some (ownDev s) else none
  firstSome [sectionTests false t own (earlyTests s rd), registerTests s t rd, crossTests false t]

/-! ### Generations touched (R19, R78) -/

/-- The generated table (0 guard, 1 window, 2 binding, 3 route, 4 schedule, as `GLB.GEN` orders them) that a register offset belongs
to. GUARD.UNIT.CTRL belongs to guard. -/
def genOf (off : Nat) : Option Nat :=
  if (0x140000 ≤ off ∧ off < 0x180000) ∨ (0x10A0000 ≤ off ∧ off < 0x10E0000) then some 0
  else if 0x10E0000 ≤ off ∧ off < 0x10F0000 then some 1
  else if 0x1070000 ≤ off ∧ off < 0x10A0000 then some 2
  else if BRG.ROUTE 0 ≤ off ∧ off < BRG.ROUTE 2047 then some 3
  else if (0x120000 ≤ off ∧ off < 0x140000) ∨ (0x1000000 ≤ off ∧ off < 0x1060000) then some 4
  else none

/-- The tables a set of staged words changes. -/
def changedTables (s : State) (snap : SMap Word) : List Nat :=
  (snap.filterMap (fun e => if mergeSh e.1 (s.rd e.1) e.2 = s.rd e.1 then none else genOf e.1)).dedup

/-- GEN_BUSY (R19): one of these tables still drains. -/
def genBusyOn (s : State) (ts : List Nat) : Option Fail := firstFail [(ts.any (fun t => bitOf (s.rd GLB.GEN).toNat (20 + t)), ⟨0x08, offReg GLB.GEN⟩)]

/-- GEN_BUSY of a set of staged words. -/
def genBusy (s : State) (snap : SMap Word) : Option Fail := genBusyOn s (changedTables s snap)

/-- The tables whose words differ between two states. -/
def tablesBetween (old new : State) : List Nat :=
  (((old.regs ++ new.regs).map Prod.fst).filterMap (fun o => if old.rd o = new.rd o then none else genOf o)).dedup

/-- Elapsed time since the last accepted correction of FT, in FT units (R94, R104, R116). -/
def heldFt (s : State) : Nat :=
  match s.time.corrAt with
  | some a => s.adv - a + s.time.holdBase
  | none => s.adv

/-- FT_STATE codes: 0 FREE, 1 HOLDOVER, 2 LOCKED. -/
def ftState (s : State) : Nat := s.get TIME.STATUS_STATE

/-- The error bound in ns (R104): the last one computed while LOCKED, the drift formula in HOLDOVER, saturated in FREE. In HOLDOVER it is R104's formula
also while a sender is tracked, for which R100 computes a bound at each interval, DESIGN CHOICE (log entry 104). -/
def errBound (s : State) : Nat :=
  match ftState s with
  | 0 => 0xFFFF
  | 1 =>
    let t := heldFt s
    let ten := usFt 10000000
    let drift := if t ≤ ten then 2 * t * 1000 / 2 ^ 32 else 20000 + 50 * (t - ten) * 1000 / 2 ^ 32
    sat 16 (19 + drift)
  | _ => s.get TIME.ERR_BOUND_V

/-- Whether a holdover is longer than HOLD_MS (R81, R112). -/
def heldTooLong (s : State) : Bool := decide (msFt s.time.src.holdMs < heldFt s)

/-- R81, R112: TIME_UNLOCKED, then EPOCH_PAST, on the local FT; `lead` is the least distance ahead. -/
def epochTests (s : State) (epoch lead : Nat) : Option Fail :=
  let st := s.get TIME.STATUS_STATE
  firstFail [(st = 0 || (st = 1 && heldTooLong s), ⟨0x0A, offReg GLB.COMMIT_EPOCH_LO⟩),
    (decide (epoch < s.time.ft + lead), ⟨0x0B, offReg GLB.COMMIT_EPOCH_LO⟩)]

end Sys2Proof.Machine
end

