-- ==== Sys2Proof/Machine/Records.lean ====
section
/-! DEFINITION. Table entries as register words and as records: what the loader writes for an image entry (R53 to R66), and the entry records
of twin messages (R396), with STATE_HASH over them (R400). -/
namespace Sys2Proof.Machine
open Sys2Proof

/-! ### Entries to words -/

/-- The word whose listed fields hold the listed values. -/
def mkWord (fs : List (RF × Nat)) : Word := fs.foldl (fun w f => withField w f.1.lo f.1.n f.2) 0

/-- The two words of a 64-bit value whose low word holds its bits from the field's place upward. -/
def words64 (lo hi : RF) (v : Nat) : List (Nat × Word) :=
  [(lo.off, withField 0 lo.lo lo.n (v / 2 ^ lo.lo)), (hi.off, BitVec.ofNat 32 (v / 2 ^ 32))]

/-- COLOUR entry `i`. -/
def colourWords (i : Nat) (e : ColourEnt) : List (Nat × Word) :=
  [(Colour.word i 0, mkWord [(Colour.VALID i, 1), (Colour.SELECT i, e.select), (Colour.PORTID i, e.portid), (Colour.COLOUR i, e.colour)]),
   (Colour.word i 1, mkWord [(Colour.RID_LO i, e.ridLo), (Colour.RID_HI i, e.ridHi)])]

/-- Guard region `i`. -/
def regionWords (i : Nat) (e : RegionEnt) : List (Nat × Word) :=
  words64 (Region.START i) (Region.START_HI i) e.start ++ words64 (Region.END i) (Region.END_HI i) e.stop ++
  [(Region.word i 4, mkWord [(Region.VALID i, 1), (Region.MATCH i, e.mtch), (Region.READ i, e.rights), (Region.WRITE i, e.rights / 2),
    (Region.ATOMIC i, e.rights / 4), (Region.LOCK i, e.rights / 128), (Region.TAG i, e.tag)])]

/-- Binding `i`. -/
def bindWords (i : Nat) (e : BindEnt) : List (Nat × Word) :=
  [(Bind.word i 0, mkWord [(Bind.VALID i, 1), (Bind.PART i, e.part), (Bind.TARGET i, e.target)]),
   (Bind.word i 1, mkWord [(Bind.HOST_RID i, e.hostRid), (Bind.DEV_RID i, e.devRid)])] ++
  words64 (Bind.HOST_BASE i) (Bind.HOST_BASE_HI i) e.hostBase ++ words64 (Bind.DEV_BASE i) (Bind.DEV_BASE_HI i) e.devBase ++
  words64 (Bind.LENGTH i) (Bind.LENGTH_HI i) e.length

/-- Window `i`. -/
def winWords (i : Nat) (e : WinEnt) : List (Nat × Word) :=
  [(Win.word i 0, mkWord [(Win.VALID i, 1), (Win.MODE i, e.mode), (Win.TC i, e.tc), (Win.PART i, e.part), (Win.PORTID i, e.portid),
    (Win.DEVID i, e.devid)])] ++
  words64 (Win.LOCAL_BASE i) (Win.LOCAL_BASE_HI i) e.base ++ words64 (Win.LENGTH i) (Win.LENGTH_HI i) e.length ++
  words64 (Win.REMOTE_BASE i) (Win.REMOTE_BASE_HI i) e.remote

/-- The route to `e.devid`; bundle 0xFF of the image is 7 in the register (R335). -/
def routeWords (e : RouteEnt) : List (Nat × Word) :=
  [(BRG.ROUTE e.devid, mkWord [(BRG.ROUTE_PRIMARY e.devid, e.primary), (BRG.ROUTE_ALTERNATE e.devid, e.alternate), (BRG.ROUTE_TRANSIT e.devid, e.transit)])]

/-- Subscriber `e.id`. -/
def subWords (e : SubEnt) : List (Nat × Word) :=
  let i := e.id
  [(Sub.word i 0, mkWord [(Sub.ENABLE i, 1), (Sub.SELECT i, e.select), (Sub.TC i, e.tc), (Sub.PORTID i, e.portid), (Sub.COLOUR i, e.colour)]),
   (Sub.word i 1, BitVec.ofNat 32 e.rate), (Sub.word i 2, BitVec.ofNat 32 e.burst)] ++
  words64 (Sub.ADDR_LO i) (Sub.ADDR_LO_HI i) e.lo ++ words64 (Sub.ADDR_HI i) (Sub.ADDR_HI_HI i) e.hi

/-- The gate list of an egress PortID. -/
def gateWords (e : GateEnt) : List (Nat × Word) :=
  let i := schedIdx e.portid
  let lo := fun (v : Nat) => BitVec.ofNat 32 v
  [(SCHED.PORT_GATE_CTRL i, mkWord [(SCHED.PORT_GATE_CTRL_ENABLE i, 1), (SCHED.PORT_GATE_CTRL_ENTRIES i, e.entries.length)]),
   (SCHED.PORT_GATE_GUARD i, lo e.guard), (SCHED.PORT_GATE_CYCLE_LO i, lo e.cycle), (SCHED.PORT_GATE_CYCLE_HI i, lo (e.cycle / 2 ^ 32)),
   (SCHED.PORT_GATE_BASE_LO i, lo e.base), (SCHED.PORT_GATE_BASE_HI i, lo (e.base / 2 ^ 32))] ++
  (numbered e.entries).flatMap (fun k => [(Gate.word i k.1, lo k.2.2), (Gate.word i k.1 + 4, lo (k.2.2 / 2 ^ 32 % 2 ^ 24 + 2 ^ 24 * k.2.1))])

/-- Slot channel `e.channel`: its three CFG words, with ATTN and PORTID, which only an image sets. -/
def slotWords (e : SlotEnt) : List (Nat × Word) :=
  let n := e.channel
  [(SLOT.CFG0 n, mkWord [(SLOT.CFG0_LIMIT n, e.limit), (SLOT.CFG0_SHUNT n, e.shunt)]),
   (SLOT.CFG1 n, mkWord [(SLOT.CFG1_SLEW n, e.slew), (SLOT.CFG1_TIMER n, e.timer), (SLOT.CFG1_OFF_MULT n, e.offMult),
     (SLOT.CFG1_RETRIES n, if e.retries = 0xFF then 0 else e.retries), (SLOT.CFG1_UNLIMITED n, bit (e.retries = 0xFF))]),
   (SLOT.CFG2 n, mkWord [(SLOT.CFG2_INSERT_MS n, e.insertMs), (SLOT.CFG2_AUTO_ON n, e.flags), (SLOT.CFG2_ATTN n, e.flags / 2),
     (SLOT.CFG2_PORTID n, if e.portid = 0xFF then 127 else e.portid), (SLOT.CFG2_LIVE_FATAL n, 1)])]

/-! ### Records (R396) -/

/-- The record, TABLE and INDEX, a shadowed word belongs to: an entry of an image section, or, for a register no section holds, a DEFAULT_REG
entry (R66), whose INDEX is its word number modulo 64,764, which no two shadowed registers outside the tables share (log entry 36). -/
def recordOf (off : Nat) : Nat × Nat :=
  if 0x1000000 ≤ off ∧ off < 0x1020000 then (9, (off - 0x1000000) / 32)
  else if 0x1020000 ≤ off ∧ off < 0x1060000 then (10, (off - 0x1020000) / 2048)
  else if 0x1060000 ≤ off ∧ off < 0x1070000 then (4, (off - 0x1060000) / 8)
  else if 0x1070000 ≤ off ∧ off < 0x10A0000 then (6, (off - 0x1070000) / 32)
  else if 0x10A0000 ≤ off ∧ off < 0x10E0000 then (5, (off - 0x10A0000) / 32)
  else if 0x10E0000 ≤ off ∧ off < 0x10F0000 then (7, (off - 0x10E0000) / 32)
  else if SCHED.PORT_GATE_CTRL 0 ≤ off ∧ off < SCHED.PORT_GATE_CTRL 100 ∧ 0x14 ≤ off % 64 ∧ off % 64 ≤ 0x2C then (10, (off - 0x121000) / 64)
  else if BRG.ROUTE 0 ≤ off ∧ off < BRG.ROUTE 2047 then (8, (off - BRG.ROUTE 0) / 4)
  else if SLOT.CFG0 0 ≤ off ∧ off < SLOT.CFG0 16 ∧ off % 0x1000 ≤ 8 then (12, (off - SLOT.CFG0 0) / 0x1000)
  else (16, off / 4 % 64764)

/-- The image layout of the entry a record names, under a reader of register words: empty for one that is not in force. -/
def entryRecord (rd : Nat → Word) (off : Nat) : List Byte :=
  let (t, i) := recordOf off
  match t with
  | 4 => if gf rd (Colour.VALID i) = 0 then [] else
      leBytes 2 (gf rd (Colour.COLOUR i)) ++ leBytes 1 (gf rd (Colour.PORTID i)) ++ leBytes 1 (gf rd (Colour.SELECT i)) ++
      leBytes 2 (gf rd (Colour.RID_LO i)) ++ leBytes 2 (gf rd (Colour.RID_HI i))
  | 5 => if gf rd (Region.VALID i) = 0 then [] else
      let e := rdRegion rd i
      leBytes 8 e.start ++ leBytes 8 e.stop ++ leBytes 2 e.tag ++ leBytes 1 e.mtch ++ leBytes 1 e.rights ++ leBytes 4 0
  | 6 => if gf rd (Bind.VALID i) = 0 then [] else
      let e := rdBind rd i
      leBytes 1 e.part ++ leBytes 1 e.target ++ leBytes 2 e.hostRid ++ leBytes 2 e.devRid ++ leBytes 2 0 ++ leBytes 8 e.hostBase ++
      leBytes 8 e.devBase ++ leBytes 8 e.length
  | 7 => if gf rd (Win.VALID i) = 0 then [] else
      let e := rdWin rd i
      leBytes 1 e.part ++ leBytes 1 e.mode ++ leBytes 2 e.devid ++ leBytes 1 e.portid ++ leBytes 1 e.tc ++ leBytes 2 0 ++ leBytes 8 e.base ++
      leBytes 8 e.length ++ leBytes 8 e.remote
  | 8 =>
      let b := fun (v : Nat) => leBytes 1 (if v = 7 then 0xFF else v)
      leBytes 2 i ++ b (gf rd (BRG.ROUTE_PRIMARY i)) ++ b (gf rd (BRG.ROUTE_ALTERNATE i)) ++ leBytes 1 (gf rd (BRG.ROUTE_TRANSIT i)) ++ leBytes 3 0
  | 9 => if gf rd (Sub.ENABLE i) = 0 then [] else
      let e := rdSub rd i
      leBytes 2 e.id ++ leBytes 1 e.portid ++ leBytes 1 e.tc ++ leBytes 2 e.colour ++ leBytes 1 e.select ++ leBytes 1 0 ++ leBytes 4 e.rate ++
      leBytes 4 e.burst ++ leBytes 8 e.lo ++ leBytes 8 e.hi ++ leBytes 8 0
  | 10 => if gf rd (SCHED.PORT_GATE_CTRL_ENABLE i) = 0 then [] else
      let e := rdGate rd i
      leBytes 1 e.portid ++ leBytes 1 0 ++ leBytes 2 e.entries.length ++ leBytes 4 e.guard ++ leBytes 8 e.cycle ++ leBytes 8 e.base ++
      e.entries.flatMap (fun x => leBytes 7 x.2 ++ leBytes 1 x.1)
  | 12 =>
      let e := rdSlot rd i
      leBytes 1 i ++ leBytes 1 e.shunt ++ leBytes 2 e.limit ++ leBytes 2 e.slew ++ leBytes 2 e.timer ++ leBytes 2 e.offMult ++
      leBytes 1 e.retries ++ leBytes 1 e.flags ++ leBytes 2 e.insertMs ++ leBytes 1 e.portid ++ leBytes 9 0
  | _ => leBytes 4 off ++ leBytes 4 (rd off &&& shMask off).toNat

/-- Entries of the table a record names: of the SH tables, and of the RMA tables 0x20 to 0x23 (R396, R398). -/
def recordCount (t : Nat) : Nat :=
  match t with
  | 4 | 5 => 8192
  | 6 => 6144
  | 7 => 2048
  | 8 => 2047
  | 9 | 0x21 | 0x23 => 4096
  | 10 => 100
  | 12 => 16
  | 0x20 => 1024
  | 0x22 => 64
  | _ => 65536

/-- The words that put an entry record in force; an empty one puts the entry out of force; one of no entry of its table none. -/
def recordWords (t i : Nat) (b : List Byte) : List (Nat × Word) :=
  if recordCount t ≤ i then [] else
  let one := takeSection {} t 1 (if t = 9 then List.replicate 16 0 ++ b else b)
  match t with
  | 4 => if b = [] then [(Colour.word i 0, 0), (Colour.word i 1, 0)] else one.colours.flatMap (fun e => colourWords i e.2)
  | 5 => if b = [] then (List.range 5).map (fun k => (Region.word i k, 0)) else one.regions.flatMap (fun e => regionWords i e.2)
  | 6 => if b = [] then (List.range 8).map (fun k => (Bind.word i k, 0)) else one.binds.flatMap (fun e => bindWords i e.2)
  | 7 => if b = [] then (List.range 7).map (fun k => (Win.word i k, 0)) else one.windows.flatMap (fun e => winWords i e.2)
  | 8 => one.routes.flatMap (fun e => routeWords { e.2 with devid := i })
  | 9 => if b = [] then [(Sub.word i 0, 0)] else one.subs.flatMap (fun e => subWords { e.2 with id := i })
  | 10 => if b = [] then [(SCHED.PORT_GATE_CTRL i, 0)] else one.gates.flatMap (fun e => gateWords { e.2 with portid := egressId i })
  | 12 => one.slots.flatMap (fun e => slotWords { e.2 with channel := i })
  | 16 => one.defaults.map (fun e => (e.2.1, BitVec.ofNat 32 e.2.2))
  | _ => []

/-- A record on the wire: TABLE, INDEX, LENGTH, then its bytes (R396). -/
def wireRecord (t i : Nat) (b : List Byte) : List Byte := leBytes 1 t ++ leBytes 2 i ++ leBytes 2 b.length ++ b

/-- The records of a message; `fuel` bounds how many. -/
def readRecords : Nat → List Byte → List (Nat × Nat × List Byte)
  | 0, _ => []
  | k + 1, b =>
    if b.length < 5 then []
    else (ofLe (b.take 1), ofLe ((b.drop 1).take 2), (b.drop 5).take (ofLe ((b.drop 3).take 2))) ::
      readRecords k (b.drop (5 + ofLe ((b.drop 3).take 2)))

/-- The offsets that stand for the records of a set of shadowed words: one for each entry, in ascending TABLE and INDEX. -/
def recordOffs (offs : List Nat) : List Nat :=
  let one := offs.foldl (fun (l : List Nat) o => if l.any (fun x => recordOf x = recordOf o) then l else l ++ [o]) []
  [4, 5, 6, 7, 8, 9, 10, 12, 16].flatMap (fun t =>
    (one.filter (fun o => (recordOf o).1 = t)).mergeSort (fun a b => (recordOf a).2 ≤ (recordOf b).2))

/-- The records of a set of words under a reader, as (TABLE, INDEX, bytes). -/
def recordsOf (rd : Nat → Word) (offs : List Nat) : List (Nat × Nat × List Byte) :=
  (recordOffs offs).map (fun o => ((recordOf o).1, (recordOf o).2, entryRecord rd o))

/-- Every record of the SH tables in force. -/
def shRecords (s : State) : List (Nat × Nat × List Byte) :=
  (recordsOf (liveRd s) ((s.regs.map Prod.fst).filter (fun o => shMask o ≠ 0))).filter (fun r => r.2.2 ≠ [])

/-- STATE_HASH (R400). -/
def stateHash (s : State) : List Byte := sha256 ((shRecords s).flatMap (fun r => wireRecord r.1 r.2.1 r.2.2))

/-- The words of a list of entry records. -/
def wordsOfRecords (rs : List (Nat × Nat × List Byte)) : SMap Word :=
  (rs.flatMap (fun r => recordWords r.1 r.2.1 r.2.2)).foldl (fun (m : SMap Word) e => SMap.put (SMap.drop m e.1) e.1 e.2) []

end Sys2Proof.Machine
end

