-- ==== Sys2Proof/Machine/Vdsp.lean ====
section
/-! DEFINITION. Virtual downstream ports: their device numbers (R209, R222), their presence (R218) and the host's hot-plug notice, and the
update count of the Device Description Table (R473). -/
namespace Sys2Proof.Machine
open Sys2Proof

/-- Device Control and Device Status of a function: kept with its reset value, 0x2810 (MRRS 512 bytes, no-snoop and relaxed ordering enabled;
log entry 6), taken out. -/
def devCtl (s : State) (fn : Nat) : Nat := (s.cfgRd fn (pcieCap 2) ^^^ 0x2810).toNat

/-- Set a vDSP's KIND and PORTID. -/
def State.putVdsp (s : State) (p d kind n : Nat) : State := (s.set (PART.VDSP_KIND p d) kind).set (PART.VDSP_PORTID p d) n

/-- The shared ports and bundles that the bindings of partition p name, ascending. -/
def boundTargets (s : State) (p : Nat) : List Nat := ((List.range 96) ++ [112, 113, 114, 115]).filter (fun n => bindsTo s p n)

/-- Give port `n` the lowest free device number of partition p. -/
def State.newVdsp (s : State) (p kind n : Nat) : State :=
  match (List.range 32).find? (fun d => 0 < d && s.get (PART.VDSP_KIND p d) = 0) with
  | some d => s.putVdsp p d kind n
  | none => s

/-- The RO fields of the bindings: their vDSP, and their emulated BAR in ascending HOST_BASE order (R217, R226); an entry that is no binding any more has no BAR
and no vDSP. -/
def State.bindFields (s : State) : State :=
  let gone := (List.range 4096).filter (fun i => s.rd (Bind.word i 0) ≠ 0 && !s.flag (Bind.VALID i))
  let s := gone.foldl (fun s i => (s.set (Bind.HOST_BAR i) 3).set (Bind.VDSP i) 0) s
  (rdBinds (liveRd s)).foldl (fun s e =>
    let same := (rdBinds (liveRd s)).filter (fun f => f.2.part = e.2.part ∧ f.2.target = e.2.target ∧ f.2.hostRid = e.2.hostRid)
    let k := (same.filter (fun f => f.2.hostBase < e.2.hostBase)).length
    (s.set (Bind.HOST_BAR e.1) (min 3 k)).set (Bind.VDSP e.1) ((vdspOf s e.2.part e.2.target).getD 0)) s

/-- The virtual ports after the bindings changed: a vDSP whose last binding went loses its number, a port that gained its first one takes the lowest free
number (R209, R222); presence follows. -/
def State.settleVdsps (s : State) : State :=
  (List.range 32).foldl (fun s p =>
    let s := (List.range 32).foldl (fun s d =>
      if 2 ≤ s.get (PART.VDSP_KIND p d) ∧ ¬ bindsTo s p (s.get (PART.VDSP_PORTID p d)) then (s.putVdsp p d 0 0).updatePresence p d else s) s
    let s := ((boundTargets s p).filter (fun n => (vdspOf s p n).isNone)).foldl (fun s n => s.newVdsp p (if n < 96 then 2 else 3) n) s
    let s := s.presenceIn p
    s.set (PART.TABLE_CTRL_VDSPS p) (((List.range 32).filter (fun d => s.get (PART.VDSP_KIND p d) ≠ 0)).length)) s

/-- After a commit of bindings: the virtual ports, with the DDT where it changed them (R473), and the bindings' RO fields. -/
def State.refreshVdsps (s : State) : State :=
  let t := s.settleVdsps
  (if t.regs = s.regs then t else t.bumpDdt).bindFields

/-- After an image application the DDT is rewritten whatever changed (R473). -/
def State.imageVdsps (s : State) : State := s.settleVdsps.bumpDdt.bindFields

/-- Device numbers at image application, before DEFAULT_REG (R224): member ports first, in ascending PortID, then what the bindings name (R209). -/
def State.assignVdsps (s : State) : State :=
  let s := (List.range 32).foldl (fun s p => (List.range 32).foldl (fun s d => s.wr (PART.VDSP p d) 0) s) s
  let s := (rdParts (liveRd s)).foldl (fun s e =>
    ((List.range 96).filter (fun n => e.2.members.testBit n)).foldl (fun s n => s.newVdsp e.1 1 n) s) s
  (List.range 32).foldl (fun s p => (boundTargets s p).foldl (fun s n => s.newVdsp p (if n < 96 then 2 else 3) n) s) s

end Sys2Proof.Machine
end

