-- ==== Sys2Proof/Machine/Commit.lean ====
section
/-! DEFINITION. Commits (R77 to R82, R111 to R114): the snapshot, application with everything a changed table brings with it, GO, CANCEL
and the application at an epoch. -/
namespace Sys2Proof.Machine
open Sys2Proof

/-- Apply one staged word: its SH bits become live; the shadow keeps what was written since, and goes where it is the word applied (R80, R521). -/
def State.applyWord (s : State) (off : Nat) (w : Word) : State :=
  let s := s.wr off (mergeSh off (s.rd off) w)
  if SMap.find? s.shadow off = some w then { s with shadow := SMap.drop s.shadow off } else s

/-- Apply a list of staged words. -/
def State.applyWords (s : State) (ws : List (Nat × Word)) : State := ws.foldl (fun s e => s.applyWord e.1 e.2) s

/-- A changed table's generation advances: PREV takes the old number and DRAINING is set (R18 to R20, R27). -/
def State.advanceGen (s : State) (t : Nat) : State :=
  let old := genCur s t
  let s := s.wr GLB.GEN (withField (withField (s.rd GLB.GEN) (4 * t) 4 ((old + 1) % 16)) (20 + t) 1 1)
  s.wr GLB.GEN_PREV (withField (s.rd GLB.GEN_PREV) (4 * t) 4 old)

/-- The entry index of an offset in a window's extended space of `size`-byte entries from `base`. -/
def extIndex (off base stop size : Nat) : Option Nat := if base ≤ off ∧ off < stop then some ((off - base) / size) else none

/-- The indices of entries of which a word is among those applied, changed or not, in an extended space. -/
def touchedIn (offs : List Nat) (base stop size : Nat) : List Nat := (offs.filterMap (fun o => extIndex o base stop size)).dedup

/-- The indices of entries whose words differ between two states, in an extended space. -/
def changedIn (old new : State) (offs : List Nat) (base stop size : Nat) : List Nat :=
  (offs.filterMap (fun o => if old.rd o = new.rd o then none else extIndex o base stop size)).dedup

/-- The alarm of a feature's owner code and instance (R68). -/
def featureAlarm (s : State) (owner oi : Nat) : Option Nat :=
  (s.part.owners.find? (fun e => e.cls = 2 ∧ e.owner = owner ∧ e.ownerInst = oi)).map OwnerEnt.inst

/-- Load a feature's alarm: AT, PERIOD, periodic, enabled or not (R109, R195, R330). -/
def State.loadAlarm (s : State) (n at_ period : Nat) (on : Bool) : State :=
  let s := (s.wr64 (TIME.ALARM_AT_LO n) at_).wr64 (TIME.ALARM_PERIOD_LO n) period
  ((s.set (TIME.ALARM_CTRL_ENABLE n) (bit on)).set (TIME.ALARM_CTRL_PERIODIC n) 1).rearm n

/-- Gate lists that changed: each installed or removed (R193), and its alarm loaded with AT = BASE and PERIOD = CYCLE (R195). -/
def State.gatesChanged (s : State) (idx : List Nat) : State :=
  idx.foldl (fun s i =>
    let s := s.installGate i
    match featureAlarm s 4 (egressId i) with
    | some n => s.loadAlarm n (s.rd64 (SCHED.PORT_GATE_BASE_LO i)) (s.rd64 (SCHED.PORT_GATE_CYCLE_LO i)) (s.flag (SCHED.PORT_GATE_CTRL_ENABLE i))
    | none => s) s

/-- Subscribers that changed: E is 0 when one is enabled (R184); one disabled with packets waiting is ORPHAN and keeps its last committed RATE and BURST
(R200). -/
def State.subsChanged (s old : State) (idx : List Nat) : State :=
  idx.foldl (fun s i =>
    let was := old.flag (Sub.ENABLE i)
    let is := s.flag (Sub.ENABLE i)
    if is ∧ ¬ was then ({ s with sched := { s.sched with elig := SMap.set (fun _ => 0) s.sched.elig i 0 } }).set (Sub.ORPHAN i) 0
    else if was ∧ ¬ is then
      let kept := if (subHead s i).isSome then (old.get (Sub.RATE i), old.get (Sub.BURST i)) else (0, 0)
      ({ s with sched := { s.sched with orphans := SMap.set (fun _ => (0, 0)) s.sched.orphans i kept } }).set (Sub.ORPHAN i) (bit (subHead s i).isSome)
    else s) s

/-- Clear the fence of window `w` (R319): its failures and stored Requester IDs. -/
def State.clearFence (s : State) (w : Nat) : State :=
  ({ s with brg := { s.brg with fences := SMap.set (fun _ => []) s.brg.fences w [] } }).wr (BRG.FENCE w) 0

/-- Windows that changed: a change of any field but TC clears the fence, and the clear is journaled (R319). -/
def State.winsChanged (s old : State) (idx : List Nat) : State :=
  idx.foldl (fun s w =>
    let other := (List.range 7).any (fun k =>
      let f := fun (x : State) => if k = 0 then withField (x.rd (Win.word w 0)) 2 3 0 else x.rd (Win.word w k)
      decide (f old ≠ f s))
    if other then (s.clearFence w).post Src.brg { type := .commitResult, inst := w } else s) s

/-- The FT at which sideband polling next fires: PERIOD_US after now (R330). -/
def State.pollChanged (s : State) : State :=
  match featureAlarm s 0x0B 0 with
  | some n =>
    let p := usFt (min 1000000 (max 1 (s.get BRG.SB_CTRL_PERIOD_US)))
    s.loadAlarm n (s.time.ft + p) p (s.flag BRG.SB_CTRL_ENABLE)
  | none => s

/-- Whether an offset is one of the gate list of SCHED index `i`. -/
def gateWord (i o : Nat) : Bool := (SCHED.PORT_GATE_CTRL i ≤ o && o ≤ SCHED.PORT_GATE_BASE_HI i) || (Gate.word i 0 ≤ o && o < Gate.word i 0 + 2048)

/-- SCHED indices whose gate list differs between two states. -/
def changedGates (old new : State) (offs : List Nat) : List Nat :=
  (List.range 100).filter (fun i => offs.any (fun o => old.rd o ≠ new.rd o && gateWord i o))

/-- A commit that rewrites a table entry with a memory error ends the error, whether or not the words differ: a gate list's FAULT (R201), a lost region
without LOCK (R242), a window or route (R333). -/
def State.rewritten (s : State) (offs : List Nat) : State :=
  let s := ((List.range 100).filter (fun i => s.flag (SCHED.PORT_GATE_STATUS_FAULT i) && offs.any (gateWord i))).foldl (fun (s : State) i =>
    (s.set (SCHED.PORT_GATE_STATUS_FAULT i) 0).refreshGate i) s
  let regs := touchedIn offs 0x10A0000 0x10E0000 32
  let wins := touchedIn offs 0x10E0000 0x10F0000 32
  let routes := touchedIn offs (BRG.ROUTE 0) (BRG.ROUTE 2047) 4
  { s with guard := { s.guard with lost := s.guard.lost.filter (fun r => ¬ regs.contains r ∨ s.flag (Region.LOCK r)) },
           brg := { s.brg with deadWin := s.brg.deadWin.filter (fun w => ¬ wins.contains w), deadRoute := s.brg.deadRoute.filter (fun d => ¬ routes.contains d) } }

/-- The ramp deadline's length: VIN_SLOT ÷ slew + 2 ms (R450); VIN as last measured, in 50 mV. -/
def rampTime (s : State) (n : Nat) : Nat := usFt (s.get (SLOT.MEAS2_VIN n) * 500 / s.get (SLOT.CFG1_SLEW n) + 2000)

/-- A changed SLEW applies to a running ramp: its deadline moves with it (R461). -/
def State.rampsChanged (s old : State) : State :=
  (List.range 16).foldl (fun s n =>
    let a := SMap.get (fun _ => {}) s.slots n
    match a.rampDl with
    | some d =>
      if old.get (SLOT.CFG1_SLEW n) = s.get (SLOT.CFG1_SLEW n) then s
      else { s with slots := SMap.set (fun _ => {}) s.slots n { a with rampDl := some (d + rampTime s n - rampTime old n) } }
    | none => s) s

/-- What an application brings with it beside the words: gate lists, subscribers, windows, routes, regions, bindings, polling. `offs` are
the offsets applied. -/
def State.afterApply (s old : State) (offs : List Nat) : State :=
  let s := s.gatesChanged (changedGates old s offs)
  let s := s.subsChanged old (changedIn old s offs 0x1000000 0x1020000 32)
  let s := s.winsChanged old (changedIn old s offs 0x10E0000 0x10F0000 32)
  let s := s.rewritten offs
  let s := if changedIn old s offs 0x1070000 0x10A0000 32 = [] then s else s.refreshVdsps
  let s := s.rampsChanged old
  if old.rd BRG.SB_CTRL = s.rd BRG.SB_CTRL then s else s.pollChanged

/-- Start a strict sweep of the guard generation just replaced (R237, R238). -/
def State.startSweep (s : State) : State :=
  let s := { s with guard := { s.guard with sweep := some (s.adv + usFt 50, fieldOf (s.rd GLB.GEN_PREV) 0 4) } }
  (s.set GUARD.STATUS_STRICT_BUSY 1).post Src.guard { type := .sweepStart }

/-- A checker's result passes the ledger (R84): STATE, REASON and REQUEST as `GLB.COMMIT_STATUS` holds them, OFFENDER, the generations, and the FT state and
error bound (R113). -/
def State.postResult (s : State) (state reason request offender epoch : Nat) (atEpoch : Bool) : State :=
  let w := mkWord [(GLB.COMMIT_STATUS_STATE, state), (GLB.COMMIT_STATUS_REASON, reason), (GLB.COMMIT_STATUS_REQUEST, request)]
  s.post Src.commit { type := .commitResult, aux := epoch, epoch := atEpoch,
                      payload := [w.toNat, offender, (s.rd GLB.GEN).toNat, (s.rd GLB.GEN_PREV).toNat, (s.rd TIME.STATUS).toNat, errBound s] }

/-- Whether an OFFENDER names an entry of one of some sections, or a register of a block (R554). -/
def offends (offender : Nat) (secs : List Nat) (base stop : Nat) : Bool :=
  (decide (2 ^ 31 ≤ offender) && secs.contains (offender / 2 ^ 24 % 128)) || (decide (base ≤ offender) && decide (offender < stop))

/-- Whether a commit of words at some offsets touches the GUARD block: its registers or the region table (R245). -/
def touchesGuard (offs : List Nat) : Bool := offs.any (fun o => (0x140000 ≤ o && o < 0x180000) || (0x10A0000 ≤ o && o < 0x10E0000))

/-- A commit's result (R82, R84): STATE, REASON, OFFENDER, and the journal entry. `offs` are the offsets it touches: a commit that touches the GUARD
block shows its code there, 0 when it is accepted, and a refused region its index (R240, R245); PART shows the code of its own (R226). -/
def State.commitResult (s : State) (offs : List Nat) (state reason offender epoch : Nat) (atEpoch : Bool) : State :=
  let s := s.set GLB.COMMIT_STATUS_STATE state
  let s := s.set GLB.COMMIT_STATUS_REASON reason
  let s := s.set GLB.COMMIT_STATUS_REQUEST 0
  let s := s.wr GLB.COMMIT_OFFENDER (BitVec.ofNat 32 offender)
  let s := if touchesGuard offs then s.set GUARD.STATUS_REASON reason else s
  let s := if reason = 0 then s
    else if fieldOf (BitVec.ofNat 32 offender) 24 7 = 5 ∧ 2 ^ 31 ≤ offender then s.set GUARD.STATUS_INDEX (offender % 2 ^ 13)
    else if offends offender [2, 4, 6] 0x410000 0x420000 then s.set PART.STATUS_REASON reason
    else s
  s.postResult state reason 0 offender epoch atEpoch

/-- Apply an accepted commit (R20, R111, R114): GEN_BUSY and the busy tests are repeated; the words become live, the changed tables advance
together, and a strict commit that changed the guard sweeps. At an epoch with FT not LOCKED, EPOCH_UNLOCKED is set (R113). On a
pair a checkpoint is due in this cycle (R399). -/
def State.applyCommit (s : State) (c : Staged) (atEpoch : Bool) : State :=
  let s := { s with img := { s.img with commit := none } }
  match firstSome [genBusy s c.snap, busyTests s (appliedRd s c.snap)] with
  | some f => s.commitResult (c.snap.map Prod.fst) 4 f.reason f.offender c.epoch atEpoch
  | none =>
    let ts := changedTables s c.snap
    let old := s
    let s := s.applyWords c.snap
    let s := ts.foldl (fun s t => s.advanceGen t) s
    let s := s.afterApply old (c.snap.map Prod.fst)
    let s := if c.strict ∧ ts.contains 0 then s.startSweep else s
    let s := if s.twin.enable then { s with twin := { s.twin with ckptDue := true } } else s
    let s := if atEpoch ∧ s.get TIME.STATUS_STATE ≠ 2 then s.set TIME.STATUS_EPOCH_UNLOCKED 1 else s
    s.commitResult (c.snap.map Prod.fst) 3 0 0 c.epoch atEpoch

/-- Apply the staged commit when FT has reached its epoch (R111). -/
def State.commitDue (s : State) : State :=
  match s.img.commit with
  | some c => if c.epoch ≤ s.time.ft then s.applyCommit c true else s
  | none => s

/-- COMMIT_APPLY. -/
def execCommitApply (s : State) : Res := .next s.commitDue

/-- The epoch registers of `GLB.COMMIT`. -/
def commitEpoch (s : State) : Nat := s.rd64 GLB.COMMIT_EPOCH_LO

/-- Whether this side makes pair commits: TWIN enabled, in WORKER or MANAGER, and the partner not DEGRADED (R380). -/
def pairCommits (s : State) : Bool := s.twin.enable && (s.mode = 3 || s.mode = 4) && s.get TWIN.PEER_MODE ≠ 6

/-- A TW_COMMIT_RESULT (R396). From the side that answers: its checker's result. From the side that made the commit, and from one that
withdraws it: REASON 0 stages it there, any other discards it (log entry 32). -/
def State.pairAnswer (s : State) (id reason offender : Nat) : State :=
  s.sendTwin 0x64 (leBytes 2 id ++ leBytes 1 reason ++ leBytes 1 0 ++ leBytes 4 offender)

/-- Send the snapshot of a GO to the partner, which has 10 ms to answer (R380). -/
def State.pairOffer (s : State) (epoch : Nat) : State :=
  let id := (s.twin.reqId + 1) % 65536
  let rs := recordsOf (appliedRd s s.shadow) (s.shadow.map Prod.fst)
  let s := { s with twin := { s.twin with reqId := id, sent := some (id, s.adv + usFt 10000), result := none, waiting := none } }
  s.sendTwin 0x63 (leBytes 8 epoch ++ leBytes 2 id ++ rs.flatMap (fun r => wireRecord r.1 r.2.1 r.2.2))

/-- No pair commit is under way on this side. -/
def State.pairDone (s : State) : State := { s with twin := { s.twin with sent := none, result := none, waiting := none } }

/-- Stage a pair commit (R380). -/
def State.stagePair (s : State) (id : Nat) (c : Staged) : State :=
  let s := { s with twin := { s.twin with pairId := id }, img := { s.img with commit := some c } }
  (s.commitResult (c.snap.map Prod.fst) 2 0 0 c.epoch true).post Src.twin { type := .pairCommit, aux := s.rd64 TWIN.PEER_LEDGER_LO, payload := [(s.rd TWIN.STATUS).toNat, id] }

/-- Once this side's checker has accepted a pair commit and the partner has answered: both stage it, or it is refused with TWIN_MISMATCH
when the partner refused or a touched table's generation differs (R380). -/
def State.pairSettle (s : State) : State :=
  match s.twin.sent, s.twin.waiting, s.twin.result with
  | some (id, _), some (snap, strict, only, epoch), some (reason, off) =>
    let same := (changedTables s snap).all (fun t => decide (genCur s t = s.twin.peerGen / 16 ^ t % 16))
    let s := s.pairDone
    let offs := snap.map Prod.fst
    if reason ≠ 0 then s.commitResult offs 4 0x11 off epoch true
    else if ¬ same then (s.pairAnswer id 0x11 0).commitResult offs 4 0x11 0 epoch true
    else if only then (s.pairAnswer id 0x11 0).commitResult offs 6 0 0 epoch true
    else (s.pairAnswer id 0 0).stagePair id ⟨snap, strict, epoch, true⟩
  | _, _, _ => s

/-- What GO does, with the other bits of `GLB.COMMIT` as `val` writes them (R77, R79 to R82, R381, R382): it is ignored and sets LOST while a
commit is CHECKING or STAGED, or on a pair while a switch-over is pending; in SHADOW, and for a pair commit without AT_EPOCH, it is refused
with MODE_FORBIDS, and a pair commit during an image update with TWIN_MISMATCH (R414); else the checker takes the snapshot of the shadow. -/
def State.actCommitGo (s : State) (val : Word) : State :=
  let s := s.wr GLB.COMMIT (val &&& 0xE)
  let st := s.get GLB.COMMIT_STATUS_STATE
  let stage := s.get IMG.STATUS_STAGE_STATE
  let atEpoch := s.flag GLB.COMMIT_AT_EPOCH
  if st = 1 ∨ st = 2 ∨ (s.twin.enable ∧ (stage = 4 ∨ stage = 5)) ∨ (s.twin.enable ∧ s.twin.rcvd.isSome) then
    s.set GLB.COMMIT_STATUS_LOST 1
  else if s.mode = 5 ∨ (pairCommits s ∧ ¬ atEpoch) then s.commitResult (s.shadow.map Prod.fst) 4 0x16 0 (commitEpoch s) false
  else if pairCommits s ∧ s.flag TWIN.STATUS_UPDATE then s.commitResult (s.shadow.map Prod.fst) 4 0x11 0 (commitEpoch s) false
  else
    let s := s.set GLB.COMMIT_STATUS_STATE 1
    let s := s.set GLB.COMMIT_STATUS_REQUEST 0
    let s := if pairCommits s then s.pairOffer (commitEpoch s) else s
    { s with img := { s.img with checks := s.img.checks ++
        [CheckReq.commit s.shadow atEpoch (s.flag GLB.COMMIT_REVOKE_STRICT) (s.flag GLB.COMMIT_CHECK_ONLY) (commitEpoch s)] } }

/-- What CANCEL does: it withdraws a STAGED commit, journaled, on both sides of a pair (R383); in any other
state nothing (R81). -/
def State.actCommitCancel (s : State) : State :=
  if s.get GLB.COMMIT_STATUS_STATE = 2 then
    let (e, pair, offs) := match s.img.commit with
      | some c => (c.epoch, c.pair, c.snap.map Prod.fst)
      | none => (0, false, [])
    let s := if pair then s.pairAnswer s.twin.pairId 0x11 0 else s
    ({ s with img := { s.img with commit := none } }).commitResult offs 5 0 0 e false
  else s

/-- COMMIT_GO: a write that sets GO and leaves the register's other bits. -/
def execCommitGo (path : Path) (s : State) : Res :=
  .next (s.writing path GLB.COMMIT (strobe s GLB.COMMIT_GO 0xE) (fun s => s.actCommitGo (strobe s GLB.COMMIT_GO 0xE)))

/-- COMMIT_CANCEL. -/
def execCommitCancel (path : Path) (s : State) : Res :=
  .next (s.writing path GLB.COMMIT (strobe s GLB.COMMIT_CANCEL 0xE) (fun s => s.actCommitCancel))

end Sys2Proof.Machine
end

