-- ==== Sys2Proof/Machine/Time.lean ====
section
/-! DEFINITION. Fabric Time (R93 to R107, R116): the counter and the core cycle, corrections and steps, the states, the reference from the
pins and from the fabric, PTM and the output pulse. -/
namespace Sys2Proof.Machine
open Sys2Proof

/-! ### Bundles that carry time -/

/-- Whether the image gives bundle `b` a role: 3 fabric data, 4 twin link (R53). -/
def bundleRole (s : State) (b : Nat) (roles : List Nat) : Bool := hasRole (imageTables s) (112 + b) roles

/-- Whether the link layer of bundle `b` is ACTIVE. -/
def linkActive (s : State) (b : Nat) : Bool := s.get (FBL.LL_STATUS_STATE b) = 2

/-- Whether time may be taken over bundle `b`: its link is not down and it is not DRAINING (R101). -/
def timeUsable (s : State) (b : Nat) : Bool := bundleUsable s b

/-- Whether this device holds the manager's DevID: its own, or as an alias with manager duties in DEGRADED (R40, R101). -/
def holdsManager (s : State) : Bool :=
  (decide (ownDev s = 0) && s.flag GLB.DEVID_VALID) || (s.flag TWIN.PEER_ALIAS_ACTIVE && decide (s.get TWIN.PEER_ALIAS_DEVID = 0))

/-- The upstream bundle (R101): that of UPSTREAM, else the PRIMARY of the route to the manager, else its ALTERNATE. A device that holds the
manager's DevID has none. -/
def upstreamBundle (s : State) : Option Nat :=
  if s.time.src.source ≠ 1 then none
  else if 1 ≤ s.time.src.upstream then (if s.time.src.upstream ≤ 4 then some (s.time.src.upstream - 1) else none)
  else if holdsManager s then none
  else
    let pr := s.get (BRG.ROUTE_PRIMARY 0)
    let al := s.get (BRG.ROUTE_ALTERNATE 0)
    if pr < 4 ∧ timeUsable s pr then some pr else if al < 4 ∧ timeUsable s al then some al else none

/-- The SYNC interval in FT units: 2⁻ᴺ s (R102, R116). -/
def syncInterval (s : State) : Nat := 2 ^ (32 - (if s.get TIME.CTRL_INTERVAL = 7 then 4 else s.get TIME.CTRL_INTERVAL))

/-! ### What is shown -/

/-- `TIME.HOLD_ELAPSED`: ms since the last accepted correction, 0 outside HOLDOVER (R116). -/
def holdElapsed (s : State) : Nat := if ftState s = 1 then sat 32 (ftMs (heldFt s)) else 0

/-- A time event: journaled with STATUS, old and new FT and the bound, and raised on source 43 (R103). -/
def State.timeEvent (s : State) (type : EvType) (cls old new : Nat) : State :=
  (s.post Src.time { type := type, payload := [(s.rd TIME.STATUS).toNat, old % 2 ^ 32, old / 2 ^ 32, new % 2 ^ 32, new / 2 ^ 32, errBound s] })
    |>.raiseFault 43 cls 0xFFFF

/-- Move to a state: HOLD_PHASE ends outside HOLDOVER (R103). -/
def State.timeTo (s : State) (st : Nat) (type : EvType) (cls : Nat) : State :=
  let s := s.set TIME.STATUS_STATE st
  let s := if st = 1 then s else s.set TIME.STATUS_HOLD_PHASE 0
  s.timeEvent type cls s.time.ft s.time.ft

/-! ### Steps (R104, R105) -/

/-- The next firing of a periodic alarm after a backward step: the first AT + k·PERIOD at or after FT (R105). -/
def State.rebaseAlarms (s : State) : State :=
  (List.range 16).foldl (fun s n =>
    if s.flag (TIME.ALARM_CTRL_ENABLE n) ∧ s.flag (TIME.ALARM_CTRL_PERIODIC n) ∧ s.time.ft ≤ s.rd64 (TIME.ALARM_AT_LO n) then
      s.wr64 (TIME.ALARM_AT_LO n) (s.rd64 (TIME.ALARM_AT_LO n) - (s.rd64 (TIME.ALARM_AT_LO n) - s.time.ft) / alarmPeriod s n * alarmPeriod s n)
    else s) s

/-- A step of FT to `new` (R104, R105): STEPPED, TIME_STEP with the old and new FT; a forward step fires every alarm and applies the staged
commit it crosses in this cycle; sampling resumes at its next boundary. -/
def State.stepFt (s : State) (new : Nat) : State :=
  let old := s.time.ft
  let new := new % 2 ^ 64
  let s := { s with time := { s.time with ft := new, frac := 0, slew := 0, aon := new, lastPps := new / 2 ^ 32 } }
  let s := (s.set TIME.STATUS_STEPPED 1).timeEvent .timeStep 0 old new
  let s := if old ≤ new then s.fireAlarms.commitDue else s.rebaseAlarms
  s.resumeSampling

/-- A signed free value of at most `lim` in size: an open frequency adjustment (log entry 2). -/
def State.freshPpb (s : State) (lim : Nat) : Int × State :=
  let (v, s) := s.fresh
  (((v % (2 * lim + 1) : Nat) : Int) - lim, s)

/-- The unit of `Time.frac` and `Time.slew`: FT units times this number. -/
def ftScale : Nat := 390625 * 1000000000

/-- Correct FT by `off` FT units (local minus reference): at most 10 µs is slewed, more is a step (R104); the frequency adjustment the loop
takes is open. HOLD_PHASE stays while the holdover of a sender that is followed is beyond 10 s (R101, R116). -/
def State.correct (s : State) (off : Int) (mustStep : Bool) : State :=
  let s := s.wr TIME.PHASE_ERR (BitVec.ofNat 32 (unsignedOf 32 off))
  let (ppb, s) := s.freshPpb 300000
  let s := { s with time := { s.time with ppb := ppb, corrAt := some s.adv } }
  let s := s.wr TIME.FREQ_OFFSET (BitVec.ofNat 32 (unsignedOf 32 ppb))
  let s := if heldFt s < usFt 10000000 then s.set TIME.STATUS_HOLD_PHASE 0 else s
  if mustStep ∨ usFt 10 < off.natAbs then s.stepFt (((s.time.ft : Int) - off).toNat)
  else { s with time := { s.time with slew := - off * (ftScale : Int) } }

/-- Loss of reference: a LOCKED device enters HOLDOVER with its frequency as it is (R103). -/
def State.lossOfReference (s : State) : State :=
  let s := { s with time := { s.time with goodIv := 0, good := 0, slew := 0, sync := none, reqTx := none } }
  if ftState s = 2 then s.timeTo 1 .timeHold 1 else s

/-! ### The core cycle (R93) -/

/-- What one core cycle adds, in FT units and remainder: 2^20/390,625 units, adjusted, with at most 50 ppm of slew (R93, R104). -/
def slewStep (slew : Int) : Int :=
  let most : Int := 2 ^ 20 * 50000
  if slew < - most then - most else if most < slew then most else slew

/-- Whether core clocks run: from start-up step 5 (R509), and not in PARKED (R501). -/
def coreClock (s : State) : Bool := s.mode ≠ 7 && 5 ≤ s.pwr.up

/-- One core cycle: FT and elapsed time advance. -/
def State.tick (s : State) : State :=
  if ¬ coreClock s then s
  else
    let d := slewStep s.time.slew
    let base : Nat := ((2 ^ 20 * 1000000000 : Int) + 2 ^ 20 * s.time.ppb).toNat
    let total := s.time.frac + (base + d).toNat
    let adv : Nat := s.time.advFrac + base
    { s with
      cycle := s.cycle + 1
      adv := s.adv + (adv / ftScale : Nat)
      time := { s.time with ft := (s.time.ft + total / ftScale) % 2 ^ 64, frac := total % ftScale, slew := s.time.slew - d, advFrac := adv % ftScale } }

/-- AON_TICK: the AON copy advances by 131,072 units from `PWROK` on (R94, R509); without core clocks elapsed time goes with it. -/
def execAonTick (s : State) : Res :=
  if s.pwr.up < 2 then .next s
  else
    let s := { s with time := { s.time with aon := (s.time.aon + 131072) % 2 ^ 64 } }
    .next (if coreClock s then s else { s with adv := s.adv + 131072 })

/-! ### The pins (R96 to R99) -/

/-- FT of a reference edge that marks second `sec`: SECONDS × 2³² plus IN_DELAY (R98). -/
def edgeFt (s : State) (sec : Nat) : Nat :=
  let d := s.time.src.inDelay
  if 0 ≤ d then sec * 2 ^ 32 + nsFt d.natAbs else sec * 2 ^ 32 - nsFt d.natAbs

/-- Whether the last two records are consecutive and valid (R98). -/
def recsReady (s : State) : Option Nat :=
  match s.time.recs with
  | [a, b] => if b = a + 1 then some b else none
  | _ => none

/-- The error bound at the pins: the filtered phase error, which is open, plus 4 ns (R98). -/
def State.pinBound (s : State) : State :=
  let (f, s) := s.fresh
  s.wr TIME.ERR_BOUND (BitVec.ofNat 32 (sat 16 (f % 2 ^ 16 + 4)))

/-- An accepted edge that marks second `sec` (R98): it corrects phase and frequency; after 4 consecutive edges within 15 ns the device is
LOCKED, and a LOCKED device whose bound exceeds 19 ns enters HOLDOVER, still tracking (R103). -/
def State.takeEdge (s : State) (sec : Nat) (first : Bool) : State :=
  let err : Int := (s.time.ft : Int) - edgeFt s sec
  let s := { s with time := { s.time with edgeSec := some sec, edgeAt := some s.adv, holdBase := 0,
                                                            good := if ¬ first ∧ err.natAbs ≤ nsFt 15 ∧ s.time.missed = 0 then s.time.good + 1 else if ¬ first ∧ err.natAbs ≤ nsFt 15 then 1 else 0,
                                                            missed := 0, setDone := true, acq := false } }
  let s := (s.correct err first).pinBound
  if ftState s = 2 then
    (if 19 < s.get TIME.ERR_BOUND_V then ({ s with time := { s.time with good := 0 } }).timeTo 1 .timeHold 1 else s)
  else if 4 ≤ s.time.good then s.timeTo 2 .timeLock 0
  else s

/-- PPS_EDGE: the selected edge of `TREF_PPS` arrives now (R98, R99). -/
def execPpsEdge (s : State) : Res :=
  if s.time.src.source ≠ 0 ∨ s.mode = 7 then .next s
  else
    let seen := fun (s : State) => { s with time := { s.time with anyEdge := some s.adv } }
    match s.time.edgeSec, s.time.edgeAt with
    | some sec, some at_ =>
      let e := s.adv - at_
      let n := roundDiv e (2 ^ 32)
      let off : Nat := ((e : Int) - n * 2 ^ 32).natAbs
      if n < 1 ∨ usFt 100 < off then
        .next ((seen s).set TIME.STATUS_PPS_MISS 1 |>.addSat TIME.TOD_STATS_OUT_OF_WINDOW 1)
      else if s.time.acq ∧ (recsReady s).isNone then
        .next (seen { s with time := { s.time with edgeSec := some (sec + n), edgeAt := some s.adv, missed := 0 } })
      else .next (seen (s.takeEdge (sec + n) false))
    | _, _ =>
      match recsReady s with
      | some sec => .next (seen (s.takeEdge sec (¬ s.time.setDone)))
      | none => .next (seen s)

/-- Acquisition starts again (R99). -/
def State.reacquire (s : State) : State := ({ s with time := { s.time with acq := true, recs := [] } }).lossOfReference

/-- PPS_EDGE_MISSED: the window of the next expected edge has passed; the second missing edge in a row is loss of reference (R99). -/
def execPpsEdgeMissed (s : State) : Res :=
  match s.time.edgeAt with
  | some at_ =>
    if s.time.src.source = 0 ∧ at_ + (s.time.missed + 1) * 2 ^ 32 + usFt 100 < s.adv then
      let s := { s with time := { s.time with missed := s.time.missed + 1, good := 0 } }
      let s := s.set TIME.STATUS_PPS_MISS 1
      .next (if s.time.missed = 2 then s.reacquire else s)
    else .next s
  | none => .next s

/-- Whether a record is valid (R96, R97). -/
def recordValid (s : State) (b : List Byte) : Bool :=
  b.length = 16 && ofLe (b.take 2) = 0x5AA5 && ofLe ((b.drop 3).take 1) = 0x10 && ofLe ((b.drop 2).take 1) = 1 &&
    crc16 (b.take 14) = ofLe ((b.drop 14).take 2) && (ofLe ((b.drop 8).take 1)).testBit 0 &&
    (match s.time.anyEdge with
     | some e => e + usFt 10000 ≤ s.adv && s.adv ≤ e + usFt 990000
     | none => false) &&
    (match s.time.edgeSec with
     | some sec => ofLe ((b.drop 4).take 4) = sec + 1 + s.time.missed
     | none => true)

/-- TOD_RECORD: a record received whole (R96, R97). -/
def execTodRecord (bytes : List Byte) (s : State) : Res :=
  if s.time.src.source ≠ 0 ∨ s.mode = 7 then .next s
  else if recordValid s bytes then
    let sec := ofLe ((bytes.drop 4).take 4)
    let fl := ofLe ((bytes.drop 8).take 1)
    let s := ((s.set TIME.STATUS_LEAP_PENDING (bit (fl.testBit 1))).set TIME.STATUS_LEAP_SIGN (bit (fl.testBit 2))).set TIME.STATUS_QUALITY
      (ofLe ((bytes.drop 9).take 1))
    let s := s.wr TIME.TOD_LAST (BitVec.ofNat 32 sec)
    .next { s with time := { s.time with recs := (s.time.recs ++ [sec]).drop ((s.time.recs.length + 1) - 2), recAt := some s.adv } }
  else
    let ignored := bytes.length = 16 ∧ ofLe (bytes.take 2) = 0x5AA5 ∧ ofLe ((bytes.drop 2).take 1) ≠ 1
    let s := s.addSat TIME.TOD_STATS_BAD 1
    .next (if ignored then s else ({ s with time := { s.time with recs := [] } }).set TIME.STATUS_TOD_BAD 1)

/-- TOD_TIMEOUT: three seconds without a valid record (R99). -/
def execTodTimeout (s : State) : Res :=
  match s.time.recAt with
  | some r =>
    .next (if s.time.src.source = 0 ∧ r + 3 * 2 ^ 32 ≤ s.adv ∧ ¬ s.time.acq then s.reacquire else s)
  | none => .next s

/-! ### The fabric (R100 to R102) -/

/-- Queue a TIME flit on bundle `b`: the link layer sends it and stamps T_TX at departure (R100). -/
def State.queueTime (s : State) (b : Nat) (f : TimeFlit) : State :=
  { s with links := SMap.modify (fun _ => {}) s.links b (fun l => { l with timeDue := l.timeDue ++ [f] }) }

/-- A TIME flit of this device: its state, hops, bound and holdover (R100). -/
def ownTime (s : State) (kind seq : Nat) : TimeFlit :=
  { kind := kind, seq := seq, state := ftState s, hops := s.get TIME.STATUS_HOPS, errBound := errBound s, holdMs := holdElapsed s,
    srcDev := ownDev s }

/-- A TIME flit is ignored and counted on the device page of TIME (R100, R101; index 0, log entry 21). -/
def State.timeIgnored (s : State) : State := s.count 137 0 1

/-- SYNC_SEND: each interval, on every bundle owned by fabric data or twin link but the upstream one (R102); a follower that heard no SYNC in the
interval past sets MSG_MISS (R116). -/
def execSyncSend (s : State) : Res :=
  let due : Bool := match s.time.syncAt with
    | some a => decide (a + syncInterval s ≤ s.adv)
    | none => true
  if (ftState s ≠ 0 ∨ s.time.src.source = 2) ∧ due ∧ s.mode ≠ 7 then
    let missed : Bool := match s.time.syncAt, s.time.heardAt with
      | some a, some h => decide (h < a)
      | some _, none => true
      | none, _ => false
    let s := if s.time.src.source = 1 ∧ missed then ({ s with time := { s.time with goodIv := 0 } }).set TIME.STATUS_MSG_MISS 1 else s
    let s := { s with time := { s.time with syncSeq := (s.time.syncSeq + 1) % 2 ^ 16, syncAt := some s.adv } }
    .next ((List.range 4).foldl (fun s b =>
      if bundleRole s b [3, 4] ∧ upstreamBundle s ≠ some b ∧ linkActive s b then s.queueTime b (ownTime s 0 s.time.syncSeq) else s) s)
  else .next s

/-- The sender stops reporting LOCKED: a LOCKED device leaves LOCKED at this interval; a sender in HOLDOVER is followed (R101, R103). -/
def State.followState (s : State) (state holdMs : Nat) : State :=
  let s := if ftState s = 2 ∧ state ≠ 2 then s.timeTo 1 .timeHold 1 else s
  if state = 1 then { s with time := { s.time with holdBase := msFt holdMs, corrAt := some s.adv } } else s

/-- SYNC_RECEIVE: on the upstream bundle it opens an exchange, answered with DELAY_REQ; elsewhere it is ignored and counted (R100, R101). An interval
whose SYNC did not come, or whose exchange did not end, is none of the 8 consecutive ones of R101. -/
def execSyncReceive (b : Fin 4) (f : TimeFlit) (s : State) : Res :=
  if f.kind ≠ 0 then .next s.timeIgnored
  else if s.time.src.source ≠ 1 ∨ upstreamBundle s ≠ some b.val then .next s.timeIgnored
  else
    let broken : Bool := s.time.sync.isSome || (match s.time.lastSync with
      | some q => decide ((q + 1) % 2 ^ 16 ≠ f.seq)
      | none => false)
    let s := { s with time := { s.time with sync := some (b, f.seq, f.tTx, f.errBound, s.time.ft), heardAt := some s.adv, reqTx := none,
                                                            peer := some (f.state, f.hops, f.holdMs), lastSync := some f.seq,
                                                            goodIv := if broken then 0 else s.time.goodIv } }
    let s := (s.set TIME.STATUS_HOPS (min 15 (f.hops + 1))).set TIME.STATUS_UPSTREAM b
    let s := s.followState f.state f.holdMs
    .next (s.queueTime b (ownTime s 1 f.seq))

/-- DELAY_REQ_RECEIVE: answered with DELAY_RESP carrying the arrival FT (R100). -/
def execDelayReqReceive (b : Fin 4) (f : TimeFlit) (s : State) : Res :=
  if f.kind ≠ 1 then .next s.timeIgnored
  else .next (s.queueTime b { ownTime s 2 f.seq with tRx := s.time.ft })

/-- Half of an integer, truncated toward zero as the hardware's exact halves need no more. -/
def halfOf (i : Int) : Int := i / 2

/-- `TIME.ASYM` in FT units (R10, R100). -/
def asymFt (s : State) (b : Nat) : Int :=
  let a := signedOf 32 (s.get (TIME.ASYM_V b))
  let m := roundDiv (a.natAbs * 2 ^ 32) 1000000000000
  if 0 ≤ a then (m : Int) else - (m : Int)

/-- The states an exchange leads to (R101, R103). `bound` is this device's bound. -/
def State.fabricState (s : State) (state hops bound : Nat) : State :=
  let good := state = 2 ∧ bound ≤ 19 ∧ hops < 15
  let s := { s with time := { s.time with goodIv := if good then s.time.goodIv + 1 else 0 } }
  if ftState s = 2 then (if good then s else s.timeTo 1 .timeHold 1)
  else if good ∧ 8 ≤ s.time.goodIv then s.timeTo 2 .timeLock 0
  else if ftState s = 0 ∧ state = 1 then s.timeTo 1 .timeHold 1
  else s

/-- DELAY_RESP_RECEIVE: the exchange completes: delay, offset, correction, bound and state (R100, R101). -/
def execDelayRespReceive (b : Fin 4) (f : TimeFlit) (s : State) : Res :=
  match s.time.sync, s.time.reqTx with
  | some (u, seq, tx, eb, arr), some t1 =>
    if f.kind ≠ 2 ∨ u ≠ b.val ∨ seq ≠ f.seq ∨ s.time.src.source ≠ 1 then .next s.timeIgnored
    else
      let delay : Int := halfOf (((s.time.ft : Int) - t1) - ((f.tTx : Int) - f.tRx)) + halfOf (asymFt s b)
      let off : Int := (arr : Int) - tx - delay
      let (st, hops, hold) := s.time.peer.getD (0, 0, 0)
      let free := decide (ftState s = 0 ∧ ¬ s.time.setDone)
      let s := { s with time := { s.time with setDone := true, holdBase := if st = 1 then msFt hold else 0 } }
      let s := s.correct off free
      let (r, s) := s.fresh
      let bound := sat 16 (eb + 1 + r % 2 ^ 16)
      let s := s.wr TIME.ERR_BOUND (BitVec.ofNat 32 bound)
      let s := { s with time := { s.time with sync := none, reqTx := none } }
      .next (s.fabricState st hops bound)
  | _, _ => .next s.timeIgnored

/-- SYNC_LOSS: four intervals without a valid SYNC, or no upstream bundle to take one from (R101). -/
def execSyncLoss (s : State) : Res :=
  let silent : Bool := match s.time.heardAt with
    | some h => decide (h + 4 * syncInterval s ≤ s.adv)
    | none => true
  let lost : Bool := match upstreamBundle s with
    | some b => !timeUsable s b
    | none => true
  if s.time.src.source = 1 ∧ (silent ∨ lost) then .next ((s.set TIME.STATUS_MSG_MISS 1).lossOfReference) else .next s

/-- TIME_HOLD_LONG: 10 s of holdover: HOLD_PHASE, and the AON crystal paces the counter, within ±50 ppm (R103, R104). -/
def execTimeHoldLong (s : State) : Res :=
  if ftState s = 1 ∧ ¬ s.flag TIME.STATUS_HOLD_PHASE ∧ usFt 10000000 ≤ heldFt s then
    let s := s.set TIME.STATUS_HOLD_PHASE 1
    let (ppb, s) := s.freshPpb 50000
    .next (({ s with time := { s.time with ppb := ppb } }).timeEvent .timeHoldLong 1 s.time.ft s.time.ft)
  else .next s

/-! ### An image's time source (R95) -/

/-- Take a TIME_SOURCE: acquisition starts anew; SOURCE 2 moves the device to FREE; TIME_SOURCE is journaled (R95, R103). No edge counts as the last
accepted one of R97 until the new acquisition accepts one, so SECONDS of its first records is not tested, DESIGN CHOICE (log entry 105). -/
def State.setTimeSource (s : State) (e : Option TimeEnt) : State :=
  let src : TimeSrc := match e with
    | some t => { source := t.source, upstream := t.upstream, ppsEdge := t.ppsEdge, ppsOut := t.ppsOut = 1, inDelay := t.inDelay, holdMs := t.holdMs }
    | none => {}
  let s := { s with time := { s.time with src := src, acq := true, edgeSec := none, edgeAt := none, anyEdge := none, missed := 0, good := 0,
                                                            recs := [], recAt := none, sync := none, reqTx := none, peer := none, goodIv := 0, heardAt := none,
                                                            lastSync := none,
                                                            setDone := decide (ftState s ≠ 0 ∧ src.source ≠ 2) } }
  let s := s.set TIME.STATUS_SOURCE src.source
  s.timeTo (if src.source = 2 then 0 else ftState s) .timeSource 0

/-! ### Registers, PTM, pulses (R106, R107, R116) -/

/-- TIME_SNAP. -/
def execTimeSnap (path : Path) (s : State) : Res :=
  .next (s.writing path TIME.CTRL (strobe s TIME.CTRL_SNAP 0xF) (fun s => s.wr64 TIME.SNAP_FT_LO s.time.ft))

/-- What SET does: a step with SOURCE 2, else TIME_SET_REFUSED with MODE_FORBIDS (R116). -/
def State.actTimeSet (s : State) : State :=
  if s.time.src.source = 2 then s.stepFt (s.rd64 TIME.SET_LO)
  else s.post Src.time { type := .timeSetRefused, payload := [(s.rd TIME.STATUS).toNat, 0x16] }

/-- TIME_SET. -/
def execTimeSet (path : Path) (s : State) : Res :=
  .next (s.writing path TIME.CTRL (strobe s TIME.CTRL_SET 0xF) (fun s => s.actTimeSet))

/-- PTM_REQUEST (R106): the first request of a link's dialog is answered with a Response, which carries no time; every later one with a ResponseD: FT in
nanoseconds, truncated, and the time the answer before it took, which is open. The dialog ends with the link (log entry 106). -/
def execPtmRequest (port : Fin 96) (s : State) : Res :=
  .next (if s.flag TIME.CTRL_PTM_EN ∧ s.get (PORT.CFG_ROLE port) < 2 ∧ linkUp s port then
      (if s.time.ptm.contains port.val then
        let (d, s) := s.fresh
        s.emit (.ptm port (some (ftNs s.time.ft, d % 2 ^ 32)))
       else ({ s with time := { s.time with ptm := s.time.ptm ++ [port.val] } }).emit (.ptm port none))
    else s)

/-- Whether `TREF_PPS_OUT` pulses at all: PPS_OUT 1, outside BARE and PARKED; else it is driven low (R107). -/
def ppsRuns (s : State) : Bool := s.time.src.ppsOut && s.mode ≠ 0 && s.mode ≠ 7

/-- The level of `TREF_PPS_OUT`: high for 1 ms from its rise (R107). -/
def ppsLevel (s : State) : Bool :=
  ppsRuns s && (match s.time.ppsRise with
    | some r => decide (r ≤ s.time.ft) && decide (s.time.ft < r + usFt 1000)
    | none => false)

/-- The pin falls once its level is low. -/
def State.ppsFalls (s : State) : State :=
  if s.time.ppsRise.isSome ∧ ppsLevel s = false then ({ s with time := { s.time with ppsRise := none } }).emit (.ppsLow s.time.ft) else s

/-- PPS_OUT_PULSE: the pin falls 1 ms after its rise, or where it is to be low; in the core cycle in which FT has crossed a whole second it rises
(R107). -/
def execPpsOutPulse (s : State) : Res :=
  let s := s.ppsFalls
  let sec := s.time.ft / 2 ^ 32
  .next (if s.time.ft % 2 ^ 32 < 3 ∧ s.time.lastPps < sec then
    let s := { s with time := { s.time with lastPps := sec } }
    (if ppsRuns s then ({ s with time := { s.time with ppsRise := some (sec * 2 ^ 32) } }).emit (.ppsOut (sec * 2 ^ 32)) else s)
   else s)

end Sys2Proof.Machine
end

