-- ==== Sys2Proof/Machine/Ports.lean ====
section
/-! DEFINITION. PCIe ports (R117 to R146): enabling, training results, PERST, drains, sheds, Hot Reset and the loss of a link. -/
namespace Sys2Proof.Machine
open Sys2Proof

/-! ### What a port's link does -/

/-- A link change passes the ledger: the state before and after in AUX, then cause, width and rate (R439). -/
def State.portLinkEvent (s : State) (n before after cause : Nat) : State :=
  s.post (Src.port n) { type := .portLink, inst := n, aux := before * 256 + after,
                        payload := [cause, s.get (PORT.STATUS_CUR_WIDTH n), s.get (PORT.STATUS_CUR_RATE n)] }

/-- The state a link change names: 1 in DL_Active, else 0. -/
def linkCode (s : State) (n : Nat) : Nat := bit (linkUp s n)

/-- A link leaves DL_Active: the flush, the status, the journal, a drain that ends with it, presence (R136, R138). `cause` is journaled:
0 lost, 1 PERST, 2 ENABLE cleared, 3 Hot Reset sent, 4 upstream reset, 5 image or mode change. -/
def State.linkGone (s : State) (n ltssm cause : Nat) (path : EndPath) : State :=
  let before := linkCode s n
  let s := if before = 1 then s.linkFlush n path else s
  let s := s.linkOff n ltssm
  let s := if before = 1 then s.portLinkEvent n 1 0 cause else s
  let s := if s.get (PORT.STATUS_DRAIN_STATE n) = 1 ∧ before = 1 then s.drainEnds n 2 0 0 else s
  s.presenceOf n

/-- Start a drain: the deadline is sampled, 0 acting as 1 µs and more than 1,000,000 as 1,000,000 (R138, R144). -/
def State.startDrain (s : State) (n cause : Nat) : State :=
  let us := min 1000000 (max 1 (s.get (PORT.DRAIN_DEADLINE_DEADLINE_US n)))
  let s := s.set (PORT.STATUS_DRAIN_STATE n) 1
  let s := s.setPaux n { s.paux n with drainDl := some (s.adv + usFt us), ownDrain := (s.paux n).reserved }
  s.post (Src.port n) { type := .drainStart, inst := n, payload := [cause, us] }

/-- The output `PE_PERST_N` of a port goes low: a link that is up goes down as a commanded loss (R133). -/
def State.assertPerst (s : State) (n : Nat) : State :=
  let s := s.setPaux n { s.paux n with perstLow := true }
  if s.get (PORT.CFG2_PERST n) ≠ 0xFF ∧ linkUp s n then s.linkGone n 0 1 .linkDown else s

/-- A port is enabled: ACTIVE and in Detect; the PERST timer of R133 starts. -/
def State.enablePort (s : State) (n : Nat) : State :=
  let s := s.set (PORT.CTRL_ENABLE n) 1
  let s := s.set (PORT.STATUS_DRAIN_STATE n) 0
  let s := s.set (PORT.STATUS_LTSSM n) 0
  s.setPaux n { s.paux n with enableAt := some s.adv }

/-- A DRAINED port is disabled: its link goes to Disabled and PERST is asserted (R133, R140). -/
def State.disablePort (s : State) (n : Nat) : State :=
  let s := s.set (PORT.CTRL_ENABLE n) 0
  let s := s.linkGone n 7 2 .linkDown
  let s := s.set (PORT.STATUS_DRAIN_STATE n) 3
  let s := s.setPaux n { s.paux n with enableAt := none }
  s.assertPerst n

/-- A port leaves the shed state once neither cause holds: its link trains again (R142). -/
def State.leaveShed (s : State) (n cause : Nat) : State :=
  let both := s.flag (PORT.STATUS_DPC n) ∨ (s.paux n).collector
  let s := if both then s else (s.set (PORT.STATUS_SHED n) 0).set (PORT.STATUS_LTSSM n) 0
  s.post (Src.port n) { type := .unshed, inst := n, payload := [cause, if both then 1 else 0] }

/-- The collector still holds an uncleared fault whose reaction shed the port or its partition (R142). -/
def faultHolds (s : State) (n : Nat) : Bool :=
  s.flt.sheds.any (fun e => e.2 = .port n || (match portPart s n with
    | some p => decide (e.2 = .part p)
    | none => false))

/-- The partition of port `n` is shed (R434). -/
def partShed (s : State) (n : Nat) : Bool :=
  match portPart s n with
  | some p => bitOf (s.rd FLT.SHED_PART).toNat p
  | none => false

/-- Hot Reset sent by a downstream port: a commanded loss (R134, R136, R144). -/
def State.hotReset (s : State) (n : Nat) : State := (s.emit (.hotReset n)).linkGone n 9 3 .linkDown

/-! ### PORT.CTRL (R140, R143, R144) -/

/-- Whether a port is reserved by a mode change, a park or a switch-over (R37, R388). -/
def reserved (s : State) (n : Nat) : Bool := (s.paux n).reserved

/-- The word of `PORT[n].CTRL` and one of its bits. -/
def ctlBit (val : Word) (i : Nat) : Bool := bitOf val.toNat i

/-- Whether a write of CTRL sets ENABLE on a port that has it clear. -/
def setsEnable (s : State) (n : Nat) (val : Word) : Bool := ctlBit val 0 && !s.flag (PORT.CTRL_ENABLE n)

/-- The refusal of a write of `PORT[n].CTRL` decided in the cycle of the write: its code, and the event type it is journaled as (R140, R142, R143,
R434). A write that breaks a rule on its fields (0x46, 0x42) and a row of the drain table takes the field's code, DESIGN CHOICE: the manual gives no order
between them (log entry 111). -/
def ctrlRefusal (s : State) (n : Nat) (val : Word) : Option (Nat × EvType) :=
  let st := s.get (PORT.STATUS_DRAIN_STATE n)
  let up := s.get (PORT.CFG_ROLE n) = 1
  let tr := fieldOf val 1 3
  let clears := !ctlBit val 0 && s.flag (PORT.CTRL_ENABLE n)
  let busy := reserved s n
  let rules : List (Bool × Nat × EvType) :=
    [(tr = 7 || (tr ≠ 0 && s.get (PORT.CFG_RATE n) < tr) || (tr = 6 && ctlBit val 11), 0x46, .enableResult),
     (decide up && (ctlBit val 9 || ctlBit val 10), 0x42, .enableResult),
     (s.flag (PORT.STATUS_SHED n) && (ctlBit val 5 || ctlBit val 6), 0x44, .drainRefused),
     (s.flag (PORT.STATUS_SHED n) && setsEnable s n val, 0x44, .enableResult),
     (busy && (ctlBit val 5 || ctlBit val 6), 0x1A, .drainRefused),
     (busy && (clears || setsEnable s n val), 0x1A, .enableResult),
     (ctlBit val 5 && st = 1, 0x1A, .drainRefused),
     (ctlBit val 5 && (st = 2 || st = 3), 0x47, .drainRefused),
     (ctlBit val 6 && st = 3, 0x47, .drainRefused),
     (clears && (st = 0 || st = 1), 0x41, .drainRefused),
     (ctlBit val 8 && faultHolds s n, 0x45, .unshedRefused),
     (ctlBit val 8 && partShed s n, 0x44, .unshedRefused)]
  (rules.find? (fun r => r.1)).map Prod.snd

/-- Whether a write waits for the checker: it sets ENABLE, or reopens a DRAINED port (R77, R140). -/
def ctrlChecked (s : State) (n : Nat) (val : Word) : Bool :=
  setsEnable s n val || (ctlBit val 6 && s.get (PORT.STATUS_DRAIN_STATE n) = 2)

/-- A refused write: REASON, the journal entry, and no field changes (R140). -/
def State.ctrlRefused (s : State) (n : Nat) (f : Fail) (type : EvType) : State :=
  let s := s.set (PORT.STATUS_REASON n) f.reason
  if type = .enableResult then s.enableResult (Src.port n) n (PORT.STATUS n) (some f)
  else s.post (Src.port n) { type := type, inst := n, payload := [f.reason] }

/-- What an accepted write of CTRL does: its fields, then its requests, in the order of their bits. -/
def State.applyPortCtrl (s : State) (n : Nat) (val : Word) : State :=
  let hold := ctlBit val 10 && !s.flag (PORT.CTRL_PERST_HOLD n)
  let clears := !ctlBit val 0 && s.flag (PORT.CTRL_ENABLE n)
  let sets := setsEnable s n val
  let st := s.get (PORT.STATUS_DRAIN_STATE n)
  let s := s.set (PORT.STATUS_REASON n) 0
  let s := s.wr (PORT.CTRL n) ((s.rd (PORT.CTRL n) &&& 1) ||| (val &&& 0xC0E))
  let s := if sets then s.enablePort n else s
  let s := if clears ∧ st = 2 then s.disablePort n else s
  let s := if hold then s.assertPerst n else s
  let s := if ctlBit val 4 ∧ linkUp s n then (s.set (PORT.STATUS_LTSSM n) 3).count n 36 1 else s
  let s := if ctlBit val 5 ∧ st = 0 then s.startDrain n 0 else s
  let s := if ctlBit val 6 ∧ st = 1 then
      ((s.set (PORT.STATUS_DRAIN_STATE n) 0).setPaux n { s.paux n with drainDl := none }).post (Src.port n)
        { type := .drainEnd, inst := n, payload := [3] }
    else if ctlBit val 6 ∧ st = 2 then s.set (PORT.STATUS_DRAIN_STATE n) 0
    else s
  let s := if ctlBit val 7 then s.shedPort n false 5 else s
  let s := if ctlBit val 8 ∧ (s.paux n).collector then (s.setPaux n { s.paux n with collector := false }).leaveShed n 0 else s
  if ctlBit val 9 ∧ s.get (PORT.CFG_ROLE n) = 0 then s.hotReset n else s

/-- Whether a write to port `n` waits for the checker: later writes to the same port wait behind it (R140). -/
def portPending (s : State) (n : Nat) : Bool :=
  s.img.checks.any (fun c => match c with
    | .enable e => decide (PORT.CFG n ≤ e.off) && decide (e.off < PORT.CFG n + 0x1000)
    | .commit _ _ _ _ _ | .partner _ _ _ => false)

/-- A write of another register of port `n` is carried out: it is accepted (R144). -/
def State.portStored (s : State) (n : Nat) (store : State → State) : State := (store s).set (PORT.STATUS_REASON n) 0

/-- A write of `PORT[n].CTRL` that reaches the block (R140). -/
def State.actPortCtrl (s : State) (path : Path) (n : Nat) (val : Word) : State :=
  if portPending s n then s.enqueueCheck path (PORT.CTRL n) val
  else match ctrlRefusal s n val with
    | some (code, ty) => s.ctrlRefused n ⟨code, PORT.CTRL n⟩ ty
    | none => if ctrlChecked s n val then s.enqueueCheck path (PORT.CTRL n) val else s.applyPortCtrl n val

/-- The tests of an ENABLE that concern the port itself: its lanes, its octet's domain, its quadrant's REFCLK (R120, R143). -/
def portEnableTests (s : State) (n : Nat) : Option Fail :=
  let k := s.get (PORT.CFG_OCTET n)
  let at_ : Nat := PORT.CTRL n
  firstFail [(2 ≤ s.get (PORT.CFG_ROLE n), ⟨0x01, at_⟩), (!s.flag (LANE.STATUS_POWERED k), ⟨0x18, at_⟩),
    (!s.flag (LANE.STATUS_REFCLK_OK k), ⟨0x43, at_⟩)]

/-- A write of `PORT[n].CTRL` through its path. -/
def State.portWrite (s : State) (path : Path) (n : Nat) (val : Word) : State :=
  s.writing path (PORT.CTRL n) val (fun s => s.actPortCtrl path n val)

/-- PORT_ENABLE. -/
def execPortEnable (path : Path) (n : Fin 96) (s : State) : Res :=
  .next (s.portWrite path n (strobe s (PORT.CTRL_ENABLE n) 0xC0F))

/-- PORT_DISABLE. -/
def execPortDisable (path : Path) (n : Fin 96) (s : State) : Res :=
  .next (s.portWrite path n (unset s (PORT.CTRL_ENABLE n) 0xC0F))

/-- PORT_RETRAIN. -/
def execPortRetrain (path : Path) (n : Fin 96) (s : State) : Res :=
  .next (s.portWrite path n (strobe s (PORT.CTRL_RETRAIN n) 0xC0F))

/-- PORT_DRAIN. -/
def execPortDrain (path : Path) (n : Fin 96) (s : State) : Res :=
  .next (s.portWrite path n (strobe s (PORT.CTRL_DRAIN n) 0xC0F))

/-- PORT_REOPEN. -/
def execPortReopen (path : Path) (n : Fin 96) (s : State) : Res :=
  .next (s.portWrite path n (strobe s (PORT.CTRL_REOPEN n) 0xC0F))

/-- PORT_SHED. -/
def execPortShed (path : Path) (n : Fin 96) (s : State) : Res :=
  .next (s.portWrite path n (strobe s (PORT.CTRL_SHED n) 0xC0F))

/-- PORT_UNSHED. -/
def execPortUnshed (path : Path) (n : Fin 96) (s : State) : Res :=
  .next (s.portWrite path n (strobe s (PORT.CTRL_UNSHED n) 0xC0F))

/-- PORT_HOT_RESET. -/
def execPortHotReset (path : Path) (n : Fin 96) (s : State) : Res :=
  .next (s.portWrite path n (strobe s (PORT.CTRL_HOT_RESET n) 0xC0F))

/-- PERST_HOLD_WRITE. -/
def execPerstHoldWrite (path : Path) (n : Fin 96) (hold : Bool) (s : State) : Res :=
  .next (s.portWrite path n (if hold then strobe s (PORT.CTRL_PERST_HOLD n) 0xC0F else unset s (PORT.CTRL_PERST_HOLD n) 0xC0F))

/-! ### PERST and REFCLK (R133, R145) -/

/-- Whether the wait of R133 is over: 100 ms since slot power good, or since ENABLE where no slot channel powers the port. -/
def perstWaited (s : State) (n : Nat) : Bool :=
  let a := s.paux n
  match (if s.get (PORT.CFG_SLOT n) = 0xFF then a.enableAt else a.pgAt) with
  | some t => t + usFt 100000 ≤ s.adv
  | none => false

/-- The REFCLK of octet `k` was found stable at least 100 µs ago (R133). REFCLK_OK itself tells of 100 µs of stability (R145); DESIGN CHOICE: R133's 100 µs
begin where REFCLK_OK is set (log entry 108). -/
def refclkWaited (s : State) (k : Nat) : Bool :=
  s.flag (LANE.STATUS_REFCLK_OK k) && (match SMap.get (fun _ => none) s.pwr.refclkAt (k / 8) with
    | some t => decide (t + usFt 100 ≤ s.adv)
    | none => false)

/-- PERST_RELEASE: `PE_PERST_N` is released once the conditions of R133 hold; never in BARE (R128) or PARKED. -/
def execPerstRelease (n : Fin 96) (s : State) : Res :=
  .next (if s.mode ≠ 0 ∧ s.mode ≠ 7 ∧ s.get (PORT.CFG_ROLE n) = 0 ∧ s.get (PORT.CFG2_PERST n) ≠ 0xFF ∧ perstWaited s n ∧
      refclkWaited s (s.get (PORT.CFG_OCTET n)) ∧ s.flag (PORT.CTRL_ENABLE n) ∧ ¬ s.flag (PORT.CTRL_PERST_HOLD n) then
    s.setPaux n { s.paux n with perstLow := false }
   else s)

/-- The level of output `PE_PERST_N[p]`: floating (none) in PARKED and while VDD_IO is off; driven low while its port holds it so, in BARE, and where no
port has it; else high (R128, R133, R146). -/
def perstPin (s : State) (p : Nat) : Option Bool :=
  if s.mode = 7 ∨ ¬ s.flag PWR.DOMAIN_MISC_VDD_IO_GOOD then none
  else some (s.mode ≠ 0 && (List.range 96).any (fun n => s.get (PORT.CFG_ROLE n) = 0 && s.get (PORT.CFG2_PERST n) = p && !(s.paux n).perstLow))

/-- REFCLK_STABLE: the octets of the quadrant show whether its REFCLK is present and stable (R117, R145). -/
def execRefclkStable (r : RefclkReport) (s : State) : Res :=
  let at_ := if r.ok then (match SMap.get (fun _ => none) s.pwr.refclkAt r.quadrant.val with
      | some t => some t
      | none => some s.adv)
    else none
  let s := { s with pwr := { s.pwr with refclkAt := SMap.set (fun _ => none) s.pwr.refclkAt r.quadrant.val at_ } }
  .next ((List.range 8).foldl (fun s j => s.set (LANE.STATUS_REFCLK_OK (8 * r.quadrant.val + j)) (bit r.ok)) s)

/-! ### Link up and down (R129, R131, R132, R136) -/

/-- The cap on a port's rate: CFG.RATE, TARGET_RATE where not 0, and 32.0 GT/s without Flit Mode (R122, R131). -/
def rateCap (s : State) (n : Nat) : Nat :=
  let c := s.get (PORT.CFG_RATE n)
  let t := s.get (PORT.CTRL_TARGET_RATE n)
  let c := if t = 0 then c else min c t
  if s.flag (PORT.CTRL_NO_FLIT n) then min c 5 else c

/-- Whether port `n` trains: enabled with ROLE 0 or 1 and not shed; in BARE the recovery port alone (R128, R129). -/
def trains (s : State) (n : Nat) : Bool :=
  if s.mode = 0 then n = 0 && s.get (PORT.CFG_ROLE 0) = 1
  else s.mode ≠ 7 && s.get (PORT.CFG_ROLE n) < 2 && s.flag (PORT.CTRL_ENABLE n) && !s.flag (PORT.STATUS_SHED n)

/-- Record a bit map of the port's lanes in a per-lane field of its octets. -/
def State.laneBits (s : State) (n : Nat) (f : Nat → RF) (bits : Nat) : State :=
  let k := s.get (PORT.CFG_OCTET n)
  let v := bits * 2 ^ s.get (PORT.CFG_LANE n)
  let s := s.set (f k) (s.get (f k) ||| v % 256)
  if s.get (PORT.CFG_WIDTH n) = 4 then s.set (f (k + 1)) (s.get (f (k + 1)) ||| v / 256 % 256) else s

/-- A per-lane field of the port's octets takes a bit map for the port's lanes, and keeps the lanes of other ports (R145). -/
def State.lanesTake (s : State) (n : Nat) (f : Nat → RF) (bits : Nat) : State :=
  let k := s.get (PORT.CFG_OCTET n)
  let lanes := (2 ^ lanesOf (s.get (PORT.CFG_WIDTH n)) - 1) * 2 ^ s.get (PORT.CFG_LANE n)
  let put := fun (s : State) (o m : Nat) => s.set (f o) (s.get (f o) - (s.get (f o) &&& m))
  let s := put s k (lanes % 256)
  let s := if s.get (PORT.CFG_WIDTH n) = 4 then put s (k + 1) (lanes / 256 % 256) else s
  s.laneBits n f (bits % 2 ^ lanesOf (s.get (PORT.CFG_WIDTH n)))

/-- Whether a rate, a width and an encoding are ones the port's configuration permits (R122, R131, R132, R129). -/
def linkPermits (s : State) (n rate width : Nat) (flit : Bool) : Bool :=
  trains s n && decide (1 ≤ rate) && decide (rate ≤ rateCap s n) && decide (width ≤ s.get (PORT.CFG_WIDTH n)) && (rate ≠ 6 || flit) &&
    (!flit || (!s.flag (PORT.CTRL_NO_FLIT n) && s.mode ≠ 0))

/-- Show a link at a rate, a width and an encoding, and bring LINE_RATE up to date (R144, R207). -/
def State.linkShows (s : State) (n rate width : Nat) (flit : Bool) : State :=
  (((s.set (PORT.STATUS_CUR_RATE n) rate).set (PORT.STATUS_CUR_WIDTH n) width).set (PORT.STATUS_FLIT n) (bit flit)).refreshRate n

/-- Training completes, and an upstream port's host sees what is present (R224): what training found on the lanes, with a CE on the octet's source for a degradation (R121, R131, R132). `eqFail` are the lanes that
failed equalisation twice, so that the rate is the next lower one. -/
def State.linkTrained (s : State) (n rate width : Nat) (flit : Bool) (eqFail polarity detected : Nat) (reversed : Bool) : State :=
  let before := linkCode s n
  let s := ((s.set (PORT.STATUS_LINK_UP n) 1).set (PORT.STATUS_LTSSM n) 4).set (PORT.STATUS_L0P n) 0
  let s := s.linkShows n rate width flit
  let s := s.set (CORE.PORTBUF_SHARE n) (shareFrom s n)
  let s := (s.lanesTake n LANE.STATUS_RX_DETECT detected).lanesTake n LANE.STATUS_POLARITY polarity
  let s := s.set (LANE.STATUS_REVERSED (s.get (PORT.CFG_OCTET n))) (bit reversed)
  let s := if s.get (PORT.CFG_WIDTH n) = 4 then s.set (LANE.STATUS_REVERSED (s.get (PORT.CFG_OCTET n) + 1)) (bit reversed) else s
  let s := s.laneBits n LANE.STATUS_EQ_FAIL eqFail
  let low := (eqFail ≠ 0 ∧ rate < rateCap s n) ∨ width < s.get (PORT.CFG_WIDTH n)
  let s := if low then (s.set (PORT.STATUS_DEGRADED n) 1).raiseFault (s.get (PORT.CFG_OCTET n)) CE n else s
  let s := (s.portLinkEvent n before 1 0).presenceOf n
  if s.get (PORT.CFG_ROLE n) = 1 then s.presenceIn (s.get (PORT.CFG_PART n)) else s

/-- The LTSSM of a port goes from one state to another with no change of what it has trained to: Detect, Polling, Configuration and Loopback while its link
is down; Recovery, L0 and L1 while it is up (R123, R144); the entry to L2 of a PCI-PM power-down takes the link out of DL_Active as a commanded loss
(log entry 109). -/
def State.linkState (s : State) (n st : Nat) : State :=
  if linkUp s n then
    (if st = 3 ∨ st = 4 ∨ st = 5 then s.set (PORT.STATUS_LTSSM n) st
     else if st = 6 then s.linkGone n 6 0 (if s.get (PORT.CFG_ROLE n) = 1 then .upstream else .linkDown)
     else s)
  else if trains s n ∧ (st ≤ 3 ∨ st = 8) then s.set (PORT.STATUS_LTSSM n) st
  else s

/-- PORT_LINK_UP: news of a port's link at a rate, a width and an encoding. `trained`: training completes (R131, R132). `adapted`: the partner has changed
the rate or width of a link that is up, no degradation (R132). `l0p`: lanes are idled or woken under L0p, in Flit Mode alone; the trained width stays (R123,
R132). `ltssm`: the link changes state (R144). -/
def execPortLinkUp (n : Fin 96) (rate width : Fin 8) (flit : Bool) (news : LinkNews) (s : State) : Res :=
  .next (match news with
    | .trained eqFail polarity detected reversed =>
      if linkPermits s n rate width flit then s.linkTrained n rate width flit eqFail.toNat polarity.toNat detected.toNat reversed else s
    | .adapted =>
      if linkUp s n ∧ linkPermits s n rate width flit ∧ s.get (PORT.STATUS_FLIT n) = bit flit then
        ((s.linkShows n rate width flit).set (PORT.STATUS_LTSSM n) 4).portLinkEvent n 1 1 0
      else s
    | .l0p =>
      if linkUp s n ∧ s.flag (PORT.STATUS_FLIT n) ∧ width.val ≤ s.get (PORT.STATUS_CUR_WIDTH n) then
        s.set (PORT.STATUS_L0P n) (bit (width.val ≠ s.get (PORT.STATUS_CUR_WIDTH n)))
      else s
    | .ltssm st => s.linkState n st)

/-- Reset of the virtual switch of an upstream port's partition (R134): its switch ports' configuration space returns to its defaults, each
downstream port of the partition sends Hot Reset, and what is queued toward or outstanding through the upstream port ends. -/
def State.upstreamReset (s : State) (n ltssm : Nat) : State :=
  let p := s.get (PORT.CFG_PART n)
  let s := s.linkGone n ltssm 4 .upstream
  let lo := 1024 * (33 * p + 1)
  let s := { s with cfg := s.cfg.filter (fun e => ¬ (lo ≤ e.1 ∧ e.1 < lo + 1024 * 32)) }
  let s := s.setPaux n { s.paux n with mcReceive := 0, mps := 128 }
  let members := (partPorts s p).filter (fun m => m ≠ n ∧ s.get (PORT.CFG_ROLE m) = 0)
  let s := members.foldl (fun s m => (s.setPaux m { s.paux m with mcReceive := 0, mps := 128 }).hotReset m) s
  (List.range 32).foldl (fun s d =>
    if s.get (PART.VDSP_KIND p d) ≠ 0 then s.slotShows (33 * p + d) (vdspPresent s p d) (vdspLink s p d) false else s) s

/-- UPSTREAM_HOT_RESET: Hot Reset received on an upstream port, or its link lost. -/
def execUpstreamHotReset (port : Fin 96) (dlDown : Bool) (s : State) : Res :=
  .next (if s.get (PORT.CFG_ROLE port) = 1 ∧ s.mode ≠ 7 then s.upstreamReset port (if dlDown then 0 else 9) else s)

/-- A surprise link loss of a downstream port (R136): SURPRISE_DOWN, Surprise Down in AER unless the port is a hot-plug one, and UC on the
octet's source. -/
def State.surpriseDown (s : State) (n : Nat) : State :=
  let s := s.linkGone n 0 0 .linkDown
  let s := s.set (PORT.STATUS_SURPRISE_DOWN n) 1
  let fn := portFn s n
  let s := if s.flag (PORT.CFG_HOTPLUG n) then s else s.cfgWr fn 65 (withField (s.cfgRd fn 65) aerSurprise 1 1)
  s.raiseFault (s.get (PORT.CFG_OCTET n)) UC n

/-- PORT_LINK_DOWN: a link that was up goes down of itself. -/
def execPortLinkDown (n : Fin 96) (s : State) : Res :=
  .next (if linkUp s n then (if s.get (PORT.CFG_ROLE n) = 0 then s.surpriseDown n else s.upstreamReset n 0) else s)

/-! ### Drains (R138) -/

/-- Nothing is queued for port `n` and nothing sent through it awaits a completion. -/
def drained (s : State) (n : Nat) : Bool := !s.core.pkts.any (queuedFor n) && !s.core.out.any (fun r => r.port = n)

/-- DRAIN_COMPLETE. -/
def execDrainComplete (n : Fin 96) (s : State) : Res :=
  .next (if s.get (PORT.STATUS_DRAIN_STATE n) = 1 ∧ drained s n then s.drainEnds n 0 0 0 else s)

/-- The drain of a port meets its deadline (R138): Completer Abort for every non-posted request left, the rest discarded; DRAIN_STATS. -/
def State.drainExpires (s : State) (n : Nat) : State :=
  let q := countNp s (queuedFor n)
  let np := q.1 + (s.core.out.filter (fun r => r.port = n)).length
  let s := (s.endAll (queuedFor n) .deadline n).endOuts n .deadline true
  let s := (s.addSat (PORT.DRAIN_STATS_NP_ABORTED n) np).addSat (PORT.DRAIN_STATS_P_DISCARDED n) q.2
  s.drainEnds n 1 np q.2

/-- DRAIN_DEADLINE. -/
def execDrainDeadline (n : Fin 96) (s : State) : Res :=
  .next (if s.get (PORT.STATUS_DRAIN_STATE n) = 1 ∧ s.due (s.paux n).drainDl then s.drainExpires n else s)

/-! ### Downstream Port Containment (R141, R142) -/

/-- DPC Trigger Enable of port `n`, as the host sets it in DPC Control (R141; place of the Base Specification, log entry 6). -/
def dpcEnabled (s : State) (n : Nat) : Bool := fieldOf (s.cfgRd (portFn s n) 0xA1) 16 2 ≠ 0

/-- DPC_TRIGGER: DPC triggers on a downstream port, where the host has enabled it, and sheds it. -/
def execDpcTrigger (n : Fin 96) (s : State) : Res :=
  .next (if s.get (PORT.CFG_ROLE n) = 0 ∧ s.mode ≠ 7 ∧ dpcEnabled s n then s.shedPort n true 3 else s)

/-- The host clears DPC Trigger Status of port `n`. -/
def State.clearDpc (s : State) (n : Nat) : State :=
  if s.flag (PORT.STATUS_DPC n) then
    (s.set (PORT.STATUS_DPC n) 0).leaveShed n 1
  else s

/-- DPC_CLEAR. -/
def execDpcClear (n : Fin 96) (s : State) : Res := .next (s.clearDpc n)

end Sys2Proof.Machine
end

