-- ==== Sys2Proof/Machine/Wire.lean ====
section
/-! DEFINITION. What travels on a bundle as bits: link packets and control flits (R273 to R278), the striping, scrambling, stuffing and fill of superblocks (R250 to R258), and training frames (R263). -/
namespace Sys2Proof.Machine
open Sys2Proof

/-! ### Units (R273 to R278) -/

/-- Cut bytes into flits of 32. -/
def flitsOf (bs : List Byte) : List (List Byte) := (List.range (bs.length / 32)).map (fun i => (bs.drop (32 * i)).take 32)

/-- TYPE of a channel's packets (R274). -/
def chanType : Chan → Nat
  | .req => 1
  | .rsp => 2
  | .mgt => 3

/-- A sequenced packet as flits (R275). -/
def packetFlits (seq : Nat) (c : Chan) (np : Bool) (p : Tfp) : List (List Byte) :=
  let n := tfpFlits p
  let content := tfpBytes p
  let pad := 32 * n - 12 - content.length
  let body := beBytes 8 (pack [(8, chanType c), (8, n), (16, seq), (8, bit np), (5, pad), (19, 0)]) ++ content ++ List.replicate pad 0
  flitsOf (body ++ beBytes 4 (crc32c body))

/-- A control flit: its 28 bytes from the most significant field down, then the CRC-32C over them (R278). -/
def controlFlit (fields : List (Nat × Nat)) : List Byte :=
  let used := fields.foldl (fun n e => n + e.1) 0
  let b := beBytes 28 (pack (fields ++ [(224 - used, 0)]))
  b ++ beBytes 4 (crc32c b)

def idleFlit : List Byte := controlFlit [(8, 0)]
def ackFlit (seq pause : Nat) : List Byte := controlFlit [(8, 0x10), (16, seq), (4, pause)]
def nakFlit (seq pause : Nat) (resync : Bool) : List Byte := controlFlit [(8, 0x11), (16, seq), (4, pause), (1, bit resync)]
def pauseFlit (pause : Nat) : List Byte := controlFlit [(8, 0x12), (4, pause)]
def timeFlit (f : TimeFlit) : List Byte :=
  controlFlit [(8, 0x13), (2, f.kind), (16, f.seq), (2, f.state), (4, f.hops), (16, f.errBound), (32, f.holdMs), (64, f.tTx), (64, f.tRx), (11, f.srcDev)]
def trainFlit (f : TrainFlit) : List Byte :=
  controlFlit [(8, 0x14), (4, f.proto), (2, f.state), (1, f.role), (1, bit f.devValid), (11, f.devid), (3, f.mode), (1, f.side), (16, f.nextRx)]
def replayFlit (first count : Nat) : List Byte := controlFlit [(8, 0x15), (16, first), (16, count)]

/-! ### Superblocks (R250 to R258) -/

/-- The comma, most significant bit first. -/
def commaBits : List Bool := (List.range 32).reverse.map (fun i => (0xFF00F00D : Nat).testBit i)

/-- The scrambler's seed on logical lane `k` (R252). -/
def laneSeed (k : Nat) : Nat := 0x7FFFFFFF ^^^ (k * 0x01111111)

/-- Scramble or descramble payload bits (R252). -/
def scramble : Nat → List Bool → List Bool
  | _, [] => []
  | s, d :: ds =>
    let key := s.testBit 30 != s.testBit 27
    (d != key) :: scramble ((2 * s + bit key) % 2 ^ 31) ds

/-- Stuff payload bits: after 7 identical bits one of the opposite value (R253). `last`, `run`: the run that precedes. -/
def stuff : Bool → Nat → List Bool → List Bool
  | _, _, [] => []
  | last, run, b :: bs =>
    let r := if b = last then run + 1 else 1
    if r = 7 then b :: (!b) :: stuff (!b) 1 bs else b :: stuff b r bs

/-- Destuff: `n` payload bits to take. Answers the payload bits, the code violations, the last bit of the payload region and what follows it
(R253, R261). -/
def destuff : Bool → Nat → Nat → List Bool → List Bool × Nat × Bool × List Bool
  | last, run, n, [] => if n = 0 ∧ run ≠ 7 then ([], 0, last, []) else ([], 1, last, [])
  | last, run, n, b :: bs =>
    if run = 7 then
      let r := destuff b 1 n bs
      (r.1, r.2.1 + bit (b = last), r.2.2)
    else if n = 0 then ([], 0, last, b :: bs)
    else
      let r := destuff b (if b = last then run + 1 else 1) (n - 1) bs
      (b :: r.1, r.2)

/-- The fill of `f` bits after a payload region that ends in `last` (R254). -/
def fillBits (last : Bool) (f : Nat) : List Bool :=
  (List.range f).map (fun i => if i + 1 = f then false else if i % 2 = 0 then !last else last)

/-- L of a period: the smallest multiple of 4 that is at least 2,081 + the largest stuffing (R251). -/
def periodLen (stuffed : List Nat) : Nat := ceilDiv (2081 + stuffed.foldl max 0) 4 * 4

/-- The bits of a payload byte list, most significant bit of each byte first. -/
def payloadBits (bs : List Byte) : List Bool := bs.flatMap bitsOf

/-- Bits back to bytes. -/
def packBits : List Bool → List Byte
  | b7 :: b6 :: b5 :: b4 :: b3 :: b2 :: b1 :: b0 :: bs =>
    BitVec.ofNat 8 ([b7, b6, b5, b4, b3, b2, b1, b0].foldl (fun n b => 2 * n + bit b) 0) :: packBits bs
  | _ => []

/-- The payload bytes of active lane `j` of `w` (R257). -/
def stripe (w j : Nat) (bs : List Byte) : List Byte := (List.range 256).map (fun i => (bs[i * w + j]?).getD 0)

/-- The byte stream of `w` lanes' payloads (R257). -/
def unstripe (w : Nat) (lanes : List (List Byte)) : List Byte :=
  (List.range (256 * w)).map (fun i => (((lanes[i % w]?).getD [])[i / w]?).getD 0)

/-- The bits of every active lane of one superblock period (R250 to R254); `first` is the lowest active logical lane. -/
def superblock (w first : Nat) (bs : List Byte) : List (List Bool) :=
  let regions := (List.range w).map (fun j => stuff true 1 (scramble (laneSeed (first + j)) (payloadBits (stripe w j bs))))
  let len := periodLen (regions.map (fun r => r.length - 2048))
  regions.map (fun r => commaBits ++ r ++ fillBits (r.getLast?.getD true) (len - 32 - r.length))

/-- The place where the 33-bit pattern 0, comma begins in a lane's bits (R255). -/
def findComma : List Bool → Option Nat
  | [] => none
  | b :: bs => if b = false ∧ bs.take 32 = commaBits then some 0 else (findComma bs).map (· + 1)

/-- One period of a received lane: the place of the 0 before its comma among the bits that follow the previous payload region, whether the comma lies in
its window, the code violations, the payload bytes, the bits after the payload region and that region's last bit. -/
structure LanePeriod where
  place    : Option Nat
  inWindow : Bool
  viols    : Nat
  bytes    : List Byte
  tail     : List Bool
  last     : Bool
deriving DecidableEq, Repr

/-- Read a period on logical lane `k`, whose receiver is `rx`: the comma is found by its 33-bit pattern alone (R255); after a payload region it must begin
within 344 UI of that region's end (R259), and the bits before it are the fill (R254). Wrong stuff bits, a wrong fill and a comma outside its window
are code violations (R261). Without a comma no byte is read. -/
def readLane (k : Nat) (rx : LaneRx) (bits : List Bool) : LanePeriod :=
  let held := rx.tail ++ bits
  match findComma held with
  | none => { place := none, inWindow := false, viols := 0, bytes := List.replicate 256 0, tail := [], last := rx.last }
  | some i =>
    let (payload, v, last, rest) := destuff true 1 2048 (held.drop (i + 33))
    let known : Bool := decide (1 ≤ rx.commas)
    let inside := !known || decide (i < 344)
    let fill := known && inside && decide (held.take (i + 1) ≠ fillBits rx.last (i + 1))
    { place := some i, inWindow := inside, viols := v + bit fill + bit (!inside), bytes := packBits (scramble (laneSeed k) payload), tail := rest, last := last }

/-! ### Training frames (R263) -/

/-- The eight bytes of a training frame. -/
def frameBytes (lane phase reqPre reqPost curPre curPost width : Nat) (rxDone : Bool) (rxFail : Nat) : List Byte :=
  let b := beBytes 7 (pack [(8, 0xB4), (4, lane), (3, phase), (4, reqPre), (5, reqPost), (4, curPre), (5, curPost), (2, width), (1, bit rxDone),
    (16, rxFail), (4, 0)])
  b ++ beBytes 1 (crc8 b)

/-- A frame as a number when its SYNC and CRC check, also when it arrives inverted; the flag tells which (R247, R263). -/
def frameOf (bs : List Byte) : Option (Nat × Bool) :=
  let ok := fun (l : List Byte) => l.length = 8 && ofBe (l.take 1) = 0xB4 && crc8 (l.take 7) = ofBe (l.drop 7)
  let inv := bs.map (fun b => ~~~b)
  if ok bs then some (ofBe bs, false) else if ok inv then some (ofBe inv, true) else none

end Sys2Proof.Machine
end

