-- ==== Sys2Proof/Machine/Train.lean ====
section
/-! DEFINITION. What the training of a bundle is made of (R262 to R271): its states and steps, coefficients, frames and rounds, widths, the way into IDENT, and
DOWN. -/
namespace Sys2Proof.Machine
open Sys2Proof

/-! ### States (R271) -/

/-- The state of the PHY. -/
def phyState (s : State) (b : Nat) : Nat := s.get (FBL.PHY_STATUS_STATE b)

/-- A bundle's PHY state. -/
def State.phy (s : State) (b : Nat) : Phy := SMap.get (fun _ => {}) s.phys b

/-- Replace a bundle's PHY state. -/
def State.setPhy (s : State) (b : Nat) (p : Phy) : State := { s with phys := SMap.set (fun _ => {}) s.phys b p }

/-- The step of training the bundle is at, by the state numbers of `PHY_STATUS`: a narrowing runs IDENT, CHECK and ALIGN in state 7 (R267). -/
def trainStep (s : State) (b : Nat) : Nat := if phyState s b = 7 then (s.phy b).sub else phyState s b

/-- Logical lane of physical receive lane `l`. -/
def logicalLane (s : State) (b l : Nat) : Nat := if s.flag (FBL.PHY_STATUS_REVERSED b) then 15 - l else l

/-- Record failed logical lanes. -/
def State.failLanes (s : State) (b lanes : Nat) : State := s.set (FBL.LANE_MAP_FAILED b) (s.get (FBL.LANE_MAP_FAILED b) ||| lanes)

/-- The receiver of logical lane `k`. -/
def laneRx (s : State) (b k : Nat) : LaneRx := SMap.get (fun _ => {}) (s.phy b).rx k

/-! ### Width (R266) -/

/-- Lanes and lowest active logical lane of a width: 0 sixteen, 1 lower eight, 2 upper eight. -/
def activeLanes (w : Nat) : Nat × Nat := if w = 0 then (16, 0) else if w = 1 then (8, 0) else (8, 8)

/-- The lanes of a width as a map. -/
def widthLanes (w : Nat) : Nat := if w = 0 then 0xFFFF else if w = 1 then 0x00FF else if w = 2 then 0xFF00 else 0

/-- Whether every active lane is in lock (R259). -/
def allLocked (s : State) (b : Nat) : Bool :=
  let (w, first) := activeLanes (s.get (FBL.PHY_STATUS_WIDTH b))
  (List.range w).all (fun j => 3 ≤ (laneRx s b (first + j)).commas)

/-- The widths the configuration and `PHY_CTRL`.NARROW allow, in order of preference (R266, R272). Width 16 is out during a narrowing and after one, until
RETRAIN or a new ENABLE (R268). -/
def widthsAllowed (s : State) (b : Nat) : List Nat :=
  let cfg := match laneOf (imageTables s) (112 + b) with
    | some e => if e.width = 5 then [0, 1, 2] else if e.width = 6 then [1] else if e.width = 7 then [2] else []
    | none => []
  let n := s.get (FBL.PHY_CTRL_NARROW b)
  cfg.filter (fun w => (n ≠ 1 || w = 1) && (n ≠ 2 || w = 2) && (w ≠ 0 || !((s.phy b).narrowed || phyState s b = 7)))

/-- The lanes failed on either side. -/
def failedLanes (s : State) (b : Nat) : Nat := s.get (FBL.LANE_MAP_FAILED b) ||| (s.phy b).peerFail

/-- The WIDTH this side offers: the first it allows that holds no lane its own receiver has failed, or none (R263, R266). -/
def widthOffer (s : State) (b : Nat) : Nat := ((widthsAllowed s b).find? (fun w => widthLanes w &&& s.get (FBL.LANE_MAP_FAILED b) = 0)).getD 3

/-- Whether a partner that offers a width allows width `w`: one that offers sixteen has WIDTH code 5 and allows the halves too; one that offers a half
allows that half (R266; log entry 125). Before any offer nothing is ruled out. -/
def offerAllows (offer : Option Nat) (w : Nat) : Bool := offer = none || offer = some 0 || offer = some w

/-- The first width that both sides allow and that holds no failed lane (R266). -/
def chooseWidth (s : State) (b : Nat) : Option Nat :=
  (widthsAllowed s b).find? (fun w => offerAllows (s.phy b).peerWidth w && decide (widthLanes w &&& failedLanes s b = 0))

/-- Set WIDTH; the line rate follows (R180). -/
def State.setWidth (s : State) (b w : Nat) : State := (s.set (FBL.PHY_STATUS_WIDTH b) w).refreshRate (96 + b)

/-! ### Coefficients, frames and rounds (R262, R263) -/

/-- The coefficients a training starts with on every lane: PRE 2 and POST 8 (R262). -/
def startCoefs : SMap (Option (Nat × Nat)) := (List.range 16).map (fun l => (l, some (2, 8)))

/-- The coefficients a request leads to: POST reduced where PRE + POST would exceed 31 (R262). -/
def coefLimit (pre post : Nat) : Nat × Nat := (pre, if 31 < pre + post then 31 - pre else post)

/-- Train physical lane `l` to coefficients (R262, R263). -/
def State.setCoef (s : State) (b l pre post : Nat) : State :=
  let p := s.phy b
  s.setPhy b { p with coefs := SMap.set (fun _ => none) p.coefs l (some (coefLimit pre post)) }

/-- The coefficients in use on physical lane `l`: the register's with COEF_FIXED, else the trained ones; before any training, the register's
(R262, R272). -/
def coefOf (s : State) (b l : Nat) : Nat × Nat :=
  let fixed := coefLimit (s.get (FBL.TX_COEF_PRE b l)) (s.get (FBL.TX_COEF_POST b l))
  if s.flag (FBL.PHY_CTRL_COEF_FIXED b) then fixed else (SMap.get (fun _ => none) (s.phy b).coefs l).getD fixed

/-- `TX_COEF[l]` as it reads: the values in use (R272). -/
def coefWord (s : State) (b l : Nat) : Nat := (coefOf s b l).1 + 2 ^ 4 * (coefOf s b l).2 + 2 ^ 9 * (63 - (coefOf s b l).1 - (coefOf s b l).2)

/-- A training frame on every lane, sent `times` times: the coefficients requested and in use, the width, RX_DONE, and the failed lanes (R263). -/
def trainFrames (s : State) (b phase width times : Nat) : List Output :=
  (List.range 16).map (fun k =>
    let r := SMap.get (fun _ => (2, 8)) (s.phy b).reqs k
    let c := coefOf s b k
    .frame b phase times (frameBytes k phase r.1 r.2 c.1 c.2 width ((s.phy b).myDone || 2 ≤ phase) (s.get (FBL.LANE_MAP_FAILED b))))

/-- Send a training frame on every lane. -/
def State.sendFrames (s : State) (b phase width times : Nat) : State := (trainFrames s b phase width times).foldl State.emit s

/-- Send a round: 16 frames on every lane that offer this side's width, then 65,536 UI of PRBS31 from the generator of R252 with each lane's seed (R263). -/
def State.sendRound (s : State) (b phase : Nat) : State :=
  ((List.range 16).map (fun k => Output.prbs b k (laneSeed k) 65536)).foldl State.emit (s.sendFrames b phase (widthOffer s b) 16)

/-! ### Moves (R264, R265, R269, R271) -/

/-- Move the PHY of bundle `b` to a state; changes into UP, NARROW or DOWN are journaled (R270). -/
def State.phyTo (s : State) (b st cause : Nat) : State :=
  let before := phyState s b
  let s := s.set (FBL.PHY_STATUS_STATE b) st
  if st = 6 ∨ st = 7 ∨ st = 8 then
    s.post (Src.bundle b) { type := .bundlePhy, inst := 112 + b, aux := before * 256 + st,
                            payload := [cause, s.get (FBL.PHY_STATUS_WIDTH b), s.get (FBL.LANE_MAP_FAILED b)] }
  else s

/-- Begin IDENT: what this training has found out about the lanes goes, and IDENT frames are sent (R264 step 4, R267). -/
def State.toIdent (s : State) (b : Nat) : State :=
  let p := s.phy b
  (s.setPhy b { p with stepAt := s.adv, frames := [], rounds := 0, myDone := false, peerDone := false, peerFail := 0, peerWidth := none, peerChosen := none,
                       reqs := [], badLanes := 0, chosen := none, rx := [], sub := if phyState s b = 7 then 2 else 0 }).sendFrames b 0 (widthOffer s b) 32

/-- Enter IDENT for attempt `n`: the coefficients start anew, and with the first attempt the map of failed lanes (R262, R264, R265, R272). -/
def State.phyIdent (s : State) (b n : Nat) : State :=
  let p := s.phy b
  let s := s.setPhy b { p with coefs := startCoefs, identAt := s.adv, trainAt := if n = 1 then s.adv else p.trainAt }
  let s := s.set (FBL.PHY_STATUS_ATTEMPTS b) n
  let s := if n = 1 then s.set (FBL.LANE_MAP_FAILED b) 0 else s
  (s.phyTo b 2 0).toIdent b

/-- A failure found during ALIGN returns the bundle to IDENT in the same attempt, a narrowing to its own IDENT (R269). -/
def State.backToIdent (s : State) (b : Nat) : State := if phyState s b = 7 then s.toIdent b else (s.phyTo b 2 0).toIdent b

/-- A retrain of the PHY: from step 4, the attempt count reset (R264, R269); OFF stays OFF. -/
def State.phyRetrain (s : State) (b : Nat) : State := if phyState s b = 0 then s else s.phyIdent b 1

/-- The PHY enters DOWN: its clock runs and nothing else; UC on source 32 + b (R265, R266, R268). -/
def State.phyDown (s : State) (b cause : Nat) : State :=
  let s := s.set (FBL.PHY_STATUS_DOWN_CAUSE b) cause
  let s := s.setWidth b 3
  (s.phyTo b 8 cause).raiseFault (32 + b) UC (112 + b)


end Sys2Proof.Machine
end

