-- ==== Sys2Proof/Machine/Link.lean ====
section
/-! DEFINITION. The link layer of the bundles (R273 to R303): sequence numbers, the replay store, acknowledgement, PAUSE, RESYNC, start,
retrain, loss, restart, and the placing of flits into a superblock period. -/
namespace Sys2Proof.Machine
open Sys2Proof

/-! ### State of a bundle -/

/-- A bundle's link state. -/
def State.link (s : State) (b : Nat) : Link := SMap.get (fun _ => {}) s.links b

/-- Spill shares that extend the replay store of bundle `b` (R293). -/
def replayShares (s : State) (b : Nat) : Nat := (s.part.owners.filter (fun e => e.cls = 5 ∧ e.owner = 7 ∧ e.ownerInst = b)).length

/-- Flits held in a replay store. -/
def storeFlits (l : Link) : Nat := l.store.foldl (fun n e => n + e.flits) 0

/-- Replace a bundle's link state; OLDEST and `LL_STORE` follow (R303). -/
def State.setLink (s : State) (b : Nat) (l : Link) : State :=
  let s := { s with links := SMap.set (fun _ => {}) s.links b l }
  let s := s.set (FBL.LL_TXSEQ_OLDEST b) (match l.store with
    | e :: _ => e.seq
    | [] => s.get (FBL.LL_TXSEQ_NEXT b))
  let s := s.set (FBL.LL_STORE_OUTSTANDING b) l.store.length
  (s.set (FBL.LL_STORE_SHARES b) (replayShares s b)).set (FBL.LL_STORE_SPILLING b) (bit (8192 < storeFlits l))

/-- Change a bundle's link state. -/
def State.onLink (s : State) (b : Nat) (f : Link → Link) : State := s.setLink b (f (s.link b))

/-- The link-layer state. -/
def llState (s : State) (b : Nat) : Nat := s.get (FBL.LL_STATUS_STATE b)

/-- (x − y) mod 65,536 of sequence numbers. -/
def seqSub (x y : Nat) : Nat := (x + 65536 - y % 65536) % 65536

/-- The replay timer in FT units: REPLAY_TIMER × 0.5 µs (R291, R303). -/
def replayTime (s : State) (b : Nat) : Nat := roundDiv (s.get (FBL.LL_LIMIT_REPLAY_TIMER b) * 2 ^ 32) 2000000

/-- The replay timer starts again while packets are outstanding. -/
def State.armReplay (s : State) (b : Nat) : State :=
  s.onLink b (fun l => { l with replayDl := if l.store.any Sent.out then some (s.adv + replayTime s b) else none })

/-- The twin pair leaves WAIT_LINK, PARTNER_LOST or REFUSED for HELLO when the twin link becomes ACTIVE (R394); TW_HELLO is due (R396). -/
def State.twinLinkUp (s : State) (b : Nat) : State :=
  let p := s.get TWIN.STATUS_PAIR
  if s.twin.enable ∧ s.twin.bundle = b ∧ (p = 1 ∨ p = 6 ∨ p = 7) then
    ({ s with twin := { s.twin with helloDl := some s.adv } }).pairTo 2 0
  else s

/-- Move the link layer of bundle `b` to a state: journaled (R299); presence and the line rate follow. -/
def State.llTo (s : State) (b st : Nat) : State :=
  let before := llState s b
  let s := s.set (FBL.LL_STATUS_STATE b) st
  let s := if before = st then s else
    s.post (Src.bundle b) { type := .bundleLink, inst := 112 + b, aux := before * 256 + st, payload := [s.get (FBL.LL_STATUS_DOWN_CAUSE b), s.get (FBL.PHY_STATUS_WIDTH b)] }
  let s := if st = 2 ∧ before ≠ 2 ∧ before ≠ 3 then s.twinLinkUp b else s
  (s.refreshRate (96 + b)).presenceOf (112 + b)

/-! ### Loss (R297) -/

/-- Packets of the replay store as packets of the core, to be ended. -/
def storePkts (s : State) (b : Nat) : List Pkt :=
  (s.link b).store.map (fun e =>
    { id := s.core.nextId, body := .tfp e.p e.chan e.np, dest := 32 + 2 * b, egress := 112 + b, tc := e.p.hdr.tc, kind := tfpCls e.chan e.np,
      ro := false, colour := e.p.hdr.colour, gens := [], sub := none, ingress := 120, cells := cellsOf (32 * e.flits), place := .egress,
      origin := .none_ })

/-- R297: end every packet of the replay store and every packet queued for the bundle; the counts go to `LL_DOWN_REC`. -/
def State.flushBundle (s : State) (b : Nat) : State :=
  let ps := storePkts s b
  let q := countNp s (queuedFor (112 + b))
  let np := (ps.filter (fun p => p.kind = 1)).length + q.1
  let other := (ps.filter (fun p => p.kind ≠ 1)).length + q.2
  let s := s.onLink b (fun l => { l with store := [], carry := [], replay := none })
  let s := ps.foldl (fun s p => s.endPkt p .bundleDown (96 + b)) s
  let s := s.endAll (queuedFor (112 + b)) .bundleDown (96 + b)
  (s.set (FBL.LL_DOWN_REC_NP_ENDED b) (sat 16 np)).set (FBL.LL_DOWN_REC_DISCARDED b) (sat 16 other)

/-- The link layer enters DOWN (R297, R299): the flush, the end of a drain by link loss (R384), UC, and unless the PHY is down itself, PHY DOWN with cause LINK. -/
def State.linkDown (s : State) (b cause : Nat) : State :=
  let s := s.set (FBL.LL_STATUS_DOWN_CAUSE b) cause
  let s := (s.flushBundle b).llTo b 6
  let s := if s.get (BRG.BUNDLE_DRAIN_STATUS_STATE b) = 1 then
      ({ s with brg := { s.brg with drainDl := SMap.set (fun _ => none) s.brg.drainDl b none } }.set (BRG.BUNDLE_DRAIN_STATUS_STATE b) 2).post (Src.bundle b)
        { type := .drainEnd, inst := 112 + b, payload := [2] }
    else s
  let s := s.addSat (FBL.LL_ERR2_DOWNS b) 1
  let ms := max 1 (s.get (FBL.LL_CTRL_DOWN_HOLD_MS b))
  let s := s.onLink b (fun l => { l with holdDl := some (s.adv + usFt (1000 * ms)), replayDl := none, resyncDl := none, resyncNak := none, initDl := none,
                                         retrainDl := none, trainAt := none, nakDue := none })
  let s := s.raiseFault (32 + b) UC (112 + b)
  if cause = 2 ∨ phyState s b = 8 then s else s.phyDown b 4

/-- The link layer goes OFF (R298, R299): what it holds is ended. -/
def State.linkToOff (s : State) (b : Nat) : State :=
  let s := if llState s b = 0 then s else (s.flushBundle b).llTo b 0
  let r := (s.link b).reenableDl
  s.setLink b { reenableDl := r }

/-- The PHY goes OFF and the link layer with it (R269, R271). -/
def State.phyOff (s : State) (b : Nat) : State :=
  let s := s.linkToOff b
  let s := s.setPhy b {}
  let s := (s.setWidth b 3).set (FBL.PHY_STATUS_CLK_OK b) 0
  let s := (s.set (FBL.PHY_STATUS_ATTEMPTS b) 0).set (FBL.PHY_STATUS_REVERSED b) 0
  s.phyTo b 0 0

/-! ### Start (R296) -/

/-- A fresh start: SEQ 0, an empty store, INIT. -/
def State.linkFresh (s : State) (b : Nat) : State :=
  let s := (s.set (FBL.LL_TXSEQ_NEXT b) 0).set (FBL.LL_RXSEQ_NEXT b) 0
  let s := (s.set (FBL.LL_STATUS_SEQ_STALL b) 0).set (FBL.LL_STATUS_STORE_STALL b) 0
  let s := (s.set (FBL.LL_STATUS_PAUSE_RX b) 0).set (FBL.LL_STATUS_PAUSE_TX b) 0
  let rx := (s.link b).rx
  let s := s.setLink b { initDl := some (s.adv + usFt 1000), trainAt := some s.adv, lastGood := s.adv, rx := rx }
  s.llTo b 1

/-- The PHY has reached UP: a fresh start, or the resume of R296. -/
def State.linkPhyUp (s : State) (b : Nat) : State :=
  let st := llState s b
  if st = 0 ∨ st = 6 then s.linkFresh b
  else if st = 4 then
    s.onLink b (fun l => { l with resuming := true, ready := false, readySent := false, peerReady := false, retrainDl := none, trainAt := some s.adv,
                                  carry := [] })
  else if st = 1 then s.onLink b (fun l => { l with trainAt := some s.adv, ready := false, readySent := false, peerReady := false })
  else s

/-- The retrain of a packet whose REPLAY_LIMIT trigger falls in this cycle is used up by the one that begins (R295, R300). -/
def useRetrain (s : State) (b : Nat) (store : List Sent) (timer : Option Nat) : List Sent :=
  match store with
  | e :: rest => if s.due timer ∧ s.get (FBL.LL_LIMIT_REPLAY_LIMIT b) ≤ e.resends then { e with retrained := true } :: rest else store
  | [] => []

/-- The PHY leaves UP for training: an ACTIVE or RESYNC link keeps its state in RETRAIN, its replay timer frozen at what it had left (R296, R299, R300). -/
def State.linkRetrains (s : State) (b : Nat) : State :=
  if llState s b = 2 ∨ llState s b = 3 then
    (s.onLink b (fun l => { l with store := useRetrain s b l.store l.replayDl, replayLeft := l.replayDl.map (· - s.adv),
                                   retrainDl := some (s.adv + usFt 1000), replayDl := none, resyncDl := none, resyncNak := none, resuming := true,
                                   ready := false, readySent := false, peerReady := false, carry := [], replay := none })).llTo b 4
  else s

/-- The link layer requests a retrain of the PHY (R295, R299): counted, CE. -/
def State.llRetrain (s : State) (b : Nat) : State :=
  let s := s.addSat (FBL.LL_ERR2_RETRAINS b) 1
  let s := (s.linkRetrains b).phyRetrain b
  s.raiseFault (32 + b) CE (112 + b)

/-- Start a replay from `seq` (R291, R295): the retrain or the loss at the limits, else REPLAY opens the next period. With nothing
unacknowledged from `seq` on there is nothing to replay. -/
def State.startReplay (s : State) (b seq : Nat) : State :=
  let l := s.link b
  match l.store with
  | [] => s
  | e :: rest =>
    if ¬ l.store.any (fun x => x.seq = seq ∧ x.out) then s
    else if s.get (FBL.LL_LIMIT_REPLAY_LIMIT b) ≤ e.resends ∧ ¬ e.retrained then
      (s.setLink b { l with store := { e with retrained := true } :: rest }).llRetrain b
    else if e.retrained ∧ s.get (FBL.LL_LIMIT_RETRAIN_LIMIT b) ≤ l.failures + 1 then
      (s.setLink b { l with failures := l.failures + 1 }).linkDown b 1
    else
      let s := s.setLink b { l with replay := some seq, failures := if e.retrained then l.failures + 1 else l.failures }
      (s.addSat (FBL.LL_ERR2_REPLAYS b) 1).armReplay b

/-- Acknowledge every packet up to and including `seq` (R291): freed, and the failure count ends with the oldest. -/
def State.ackUpTo (s : State) (b seq : Nat) : State :=
  let l := s.link b
  match l.store with
  | [] => s
  | e :: _ =>
    let d := seqSub seq e.seq
    if d < l.store.length ∧ (l.store.take (d + 1)).all Sent.out then
      let rest := l.store.drop (d + 1)
      let cur := if rest.any (fun x => x.seq = l.cursor) ∨ l.cursor = s.get (FBL.LL_TXSEQ_NEXT b) then l.cursor
        else match rest with
          | x :: _ => x.seq
          | [] => s.get (FBL.LL_TXSEQ_NEXT b)
      let s := s.setLink b { l with store := rest, cursor := cur, failures := 0 }
      ((s.set (FBL.LL_STATUS_SEQ_STALL b) 0).set (FBL.LL_STATUS_STORE_STALL b) 0).armReplay b
    else s

/-! ### Receiving (R284 to R291) -/

/-- Cells of channel `v` (0 REQ, 1 RSP, 2 MGT, 3 REQ_NP) in the ingress buffer of bundle `b` (R284). -/
def chanCells (s : State) (b v : Nat) : Nat :=
  let inRx := fun (r : RxPkt) => if v = 3 then decide (r.chan = .req) && r.np else decide (chanType r.chan = v + 1)
  let held := fun (p : Pkt) => p.ingress = 112 + b && p.copy = 0 && p.place ≠ .egress && p.place ≠ .stage &&
    (if v = 3 then p.kind = 1 else if v = 0 then p.kind < 2 else p.kind = v + 1)
  ((s.link b).rx.filter inRx).foldl (fun n r => n + r.cells) 0 + (s.core.pkts.filter held).foldl (fun n p => n + p.cells) 0

/-- The pause mask, level by level with its hysteresis; a change makes a PAUSE flit due (R285). In RETRAIN it is frozen (R300). -/
def State.refreshPause (s : State) (b : Nat) : State :=
  if llState s b = 4 then s else
  let old := s.get (FBL.LL_STATUS_PAUSE_TX b)
  let new := (List.range 4).foldl (fun m v =>
    let n := chanCells s b v
    let on := if s.get (FBL.LL_PAUSE_XOFF b v) ≤ n then true else if n ≤ s.get (FBL.LL_PAUSE_XON b v) then false else old.testBit v
    m + bit on * 2 ^ v) 0
  if new = old then s else (s.set (FBL.LL_STATUS_PAUSE_TX b) new).onLink b (fun l => { l with pauseDue := true })

/-- READY has been sent and received: ACTIVE; a resumed link replays from the partner's NEXT_RX (R296). -/
def State.tryActive (s : State) (b : Nat) : State :=
  let l := s.link b
  if l.readySent ∧ l.peerReady ∧ (llState s b = 1 ∨ llState s b = 4) then
    let s := s.setLink b { l with ready := false, readySent := false, peerReady := false, resuming := false, trainAt := none, initDl := none, retrainDl := none,
                                  initTries := 0 }
    let s := (s.llTo b 2).refreshPause b
    if l.resuming then
      let s := s.onLink b (fun l => { l with replayDl := l.replayLeft.map (s.adv + ·), replayLeft := none })
      let s := s.ackUpTo b (seqSub l.peerNextRx 1)
      if (s.link b).store.any Sent.out then s.onLink b (fun l => { l with replay := some (s.get (FBL.LL_TXSEQ_OLDEST b)) }) else s
    else s
  else s

/-- A framing error (R277, R290): counted; an ACTIVE link enters RESYNC and sends NAK with RESYNC at once and every 1 µs. -/
def State.framingError (s : State) (b : Nat) : State :=
  if llState s b = 2 then
    let s := s.addSat (FBL.LL_ERR_CRC_ERR b) 1
    let s := s.onLink b (fun l => { l with nakDue := some (s.get (FBL.LL_RXSEQ_NEXT b), true), resyncNak := some (s.adv + usFt 1),
                                           resyncDl := some (s.adv + 4 * replayTime s b), nakSent := none })
    s.llTo b 3
  else s

/-- A good flit has arrived (R404). -/
def State.heard (s : State) (b : Nat) : State :=
  ({ s with links := SMap.modify (fun _ => {}) s.links b (fun l => { l with lastGood := s.adv }) }).twinHeard b

/-- Accept a packet in order, or refuse it for want of room (R284, R287). -/
def State.acceptPacket (s : State) (b : Nat) (q : LinkPacket) : State :=
  let v := chanType q.chan - 1
  let cells := cellsOf (32 * q.flits)
  if s.get (FBL.LL_PAUSE_XOFF b v) + 768 < chanCells s b v + cells then
    let s := s.onLink b (fun l => { l with nakDue := some (q.seq, false) })
    (s.addSat (FBL.LL_OVERFLOW_COUNT b) 1).raiseFault (32 + b) UC (112 + b)
  else
    let s := s.set (FBL.LL_RXSEQ_NEXT b) ((q.seq + 1) % 65536)
    let s := s.onLink b (fun l => { l with rx := l.rx ++ [RxPkt.mk q.p q.chan q.np cells], nakSent := none })
    s.refreshPause b

/-- LINK_PACKET_RECEIVE: framing, a reserved TYPE among it (R274, R277), then d of R289. -/
def execLinkPacketReceive (b : Fin 4) (p : LinkPacket) (s : State) : Res :=
  if llState s b ≠ 2 then .next s
  else if p.resvd ∨ ¬ p.crcOk ∨ p.flits = 0 ∨ 136 < p.flits ∨ 32 * p.flits - 12 < p.pad then .next (s.framingError b)
  else
    let s := s.heard b
    let next := s.get (FBL.LL_RXSEQ_NEXT b)
    let d := seqSub p.seq next
    .next (if d = 0 then s.acceptPacket b p
      else if 32768 ≤ d then s.addSat (FBL.LL_ERR_DUP b) 1
      else
        match (s.link b).nakSent with
        | some t => if s.adv < t + usFt 1 then s else s.onLink b (fun l => { l with nakDue := some (next, false), nakSent := some s.adv })
        | none => s.onLink b (fun l => { l with nakDue := some (next, false), nakSent := some s.adv }))

/-- A packet's engine takes it from the bundle's ingress buffer: its cells are free (R284). -/
def removeRx (p : Tfp) : List RxPkt → List RxPkt
  | [] => []
  | r :: rs => if r.p = p then rs else r :: removeRx p rs

/-- The engine of a packet received on bundle `b` takes it. -/
def State.takeRx (s : State) (b : Nat) (p : Tfp) : State :=
  if (s.link b).rx.any (fun r => r.p = p) then (s.onLink b (fun l => { l with rx := removeRx p l.rx })).refreshPause b else s

/-- Whether a control flit is heard: the link is ACTIVE (a RESYNC receiver discards every flit, R290). -/
def hearing (s : State) (b : Nat) : Bool := llState s b = 2

/-- IDLE_RECEIVE. -/
def execIdleReceive (b : Fin 4) (crcOk : Bool) (s : State) : Res :=
  .next (if crcOk then (if llState s b = 0 then s else s.heard b) else s.framingError b)

/-- ACK_RECEIVE. -/
def execAckReceive (b : Fin 4) (seq : BitVec 16) (pause : BitVec 4) (crcOk : Bool) (s : State) : Res :=
  .next (if ¬ hearing s b then s
    else if crcOk then ((s.heard b).set (FBL.LL_STATUS_PAUSE_RX b) pause.toNat).ackUpTo b seq.toNat
    else s.framingError b)

/-- Whether a replay is under way that has not yet resent `seq` (R291). -/
def replayPendingFor (s : State) (b seq : Nat) : Bool :=
  let l := s.link b
  match l.replay with
  | some f => seqSub seq f < 32768
  | none => l.store.any (fun e => e.seq = seq && e.out && seqSub seq l.cursor < 32768 && l.store.any (fun x => x.seq = l.cursor && x.out))

/-- NAK_RECEIVE: its RESYNC bit says why the partner asks, and changes nothing here. -/
def execNakReceive (b : Fin 4) (seq : BitVec 16) (pause : BitVec 4) (_resync crcOk : Bool) (s : State) : Res :=
  .next (if ¬ hearing s b then s
    else if crcOk then
      let s := (s.heard b).set (FBL.LL_STATUS_PAUSE_RX b) pause.toNat
      if replayPendingFor s b seq.toNat then s else s.startReplay b seq.toNat
    else s.framingError b)

/-- PAUSE_RECEIVE. -/
def execPauseReceive (b : Fin 4) (pause : BitVec 4) (crcOk : Bool) (s : State) : Res :=
  .next (if ¬ hearing s b then s
    else if crcOk then (s.heard b).set (FBL.LL_STATUS_PAUSE_RX b) pause.toNat
    else s.framingError b)

/-- REPLAY_RECEIVE: at a period start it ends RESYNC (R290), and packets from FIRST_SEQ on are judged by R289 again; it lets NAKs go out
again (R289). -/
def execReplayReceive (b : Fin 4) (_first count : BitVec 16) (periodStart crcOk : Bool) (s : State) : Res :=
  let ok := crcOk && 1 ≤ count.toNat && count.toNat ≤ 32767
  .next (if llState s b = 3 then
      (if ok ∧ periodStart then
        ((s.heard b).onLink b (fun l => { l with resyncDl := none, resyncNak := none, nakSent := none })).llTo b 2
       else s)
    else if llState s b = 2 then
      (if crcOk then (s.heard b).onLink b (fun l => { l with nakSent := none }) else s.framingError b)
    else s)

/-! ### TRAIN (R296) -/

/-- This side's TRAIN flit: READY once a valid partner TRAIN has been seen, else RESUME or INIT. -/
def ownTrain (s : State) (b : Nat) : TrainFlit :=
  let l := s.link b
  { proto := 1, state := if l.ready then 2 else if l.resuming then 1 else 0, role := bit (bundleRole s b [4]), devValid := s.flag GLB.DEVID_VALID,
    devid := ownDev s, mode := s.mode, side := s.get TWIN.STATUS_SIDE, nextRx := s.get (FBL.LL_RXSEQ_NEXT b) }

/-- The link is refused: REASON, UC (R296, R299). -/
def State.linkRefused (s : State) (b reason : Nat) : State :=
  let s := s.set (FBL.LL_STATUS_REASON b) reason
  let ms := max 1 (s.get (FBL.LL_CTRL_DOWN_HOLD_MS b))
  let s := s.onLink b (fun l => { l with holdDl := some (s.adv + usFt (1000 * ms)), initDl := none, retrainDl := none, trainAt := none })
  (s.llTo b 5).raiseFault (32 + b) UC (112 + b)

/-- TRAIN_RECEIVE: in INIT and in RETRAIN with the PHY UP. A neighbour that was a manager and is in another mode now ends a conflict (R41). -/
def execTrainReceive (b : Fin 4) (f : TrainFlit) (crcOk : Bool) (s : State) : Res :=
  let st := llState s b
  if ¬ crcOk ∨ f.state = 3 ∨ ¬ (st = 1 ∨ st = 4) ∨ phyState s b ≠ 6 then .next (if crcOk then s else s.framingError b)
  else if f.proto ≠ 1 then .next (s.linkRefused b 0x71)
  else if f.role ≠ bit (bundleRole s b [4]) then .next (s.linkRefused b 0x70)
  else
    let s := s.heard b
    let s := if s.get (FBL.LL_PEER_MODE b) = 4 ∧ f.mode ≠ 4 then { s with mdma := { s.mdma with conflicts := s.mdma.conflicts.filter (· ≠ b.val) } } else s
    let s := (((s.set (FBL.LL_PEER_DEVID b) f.devid).set (FBL.LL_PEER_VALID b) (bit f.devValid)).set (FBL.LL_PEER_MODE b) f.mode)
    let s := (s.set (FBL.LL_PEER_SIDE b) f.side).set (FBL.LL_PEER_ROLE b) f.role
    if st = 4 ∧ f.state = 0 then
      let s := (s.set (FBL.LL_STATUS_REASON b) 0x75).set (FBL.LL_STATUS_DOWN_CAUSE b) 5
      .next ((s.flushBundle b).linkFresh b)
    else if st = 1 ∧ f.state = 1 then .next s
    else
      let s := s.onLink b (fun l => { l with ready := true, trainDue := true, peerReady := l.peerReady || f.state = 2,
                                             peerNextRx := if f.state = 1 then f.nextRx else l.peerNextRx })
      .next (s.tryActive b)

/-- TRAIN_SEND: every 100 ns in INIT or RETRAIN. -/
def execTrainSend (b : Fin 4) (s : State) : Res :=
  .next (if (llState s b = 1 ∨ llState s b = 4) ∧ phyState s b = 6 ∧ s.due (s.link b).trainAt then
    s.onLink b (fun l => { l with trainDue := true, trainAt := some (s.adv + nsFt 100) })
   else s)

/-! ### Timers (R290, R291, R298, R299) -/

/-- REPLAY_TIMER_EXPIRE. -/
def execReplayTimerExpire (b : Fin 4) (s : State) : Res :=
  .next (if (llState s b = 2 ∨ llState s b = 3) ∧ s.due (s.link b).replayDl then s.startReplay b (s.get (FBL.LL_TXSEQ_OLDEST b)) else s)

/-- RESYNC_NAK_TIMER. -/
def execResyncNakTimer (b : Fin 4) (s : State) : Res :=
  .next (if llState s b = 3 ∧ s.due (s.link b).resyncNak then
    s.onLink b (fun l => { l with nakDue := some (s.get (FBL.LL_RXSEQ_NEXT b), true), resyncNak := some (s.adv + usFt 1) })
   else s)

/-- RESYNC_TIMEOUT. -/
def execResyncTimeout (b : Fin 4) (s : State) : Res :=
  .next (if llState s b = 3 ∧ s.due (s.link b).resyncDl then s.llRetrain b else s)

/-- LINK_INIT_TIMEOUT: a PHY retrain, the third time DOWN. -/
def execLinkInitTimeout (b : Fin 4) (s : State) : Res :=
  .next (if llState s b = 1 ∧ s.due (s.link b).initDl then
    (if 2 ≤ (s.link b).initTries then s.linkDown b 3
     else
      let s := s.onLink b (fun l => { l with initTries := l.initTries + 1, initDl := some (s.adv + usFt 1000), ready := false, readySent := false,
                                             peerReady := false })
      (s.addSat (FBL.LL_ERR2_RETRAINS b) 1).phyRetrain b)
   else s)

/-- LINK_RETRAIN_TIMEOUT. -/
def execLinkRetrainTimeout (b : Fin 4) (s : State) : Res :=
  .next (if llState s b = 4 ∧ phyState s b ≠ 6 ∧ s.due (s.link b).retrainDl then s.linkDown b 4 else s)

/-- Clear ENABLE for a restart; it is set again 200 µs later (R298). -/
def State.linkRestarts (s : State) (b : Nat) : State :=
  let s := (s.set (FBL.PHY_CTRL_ENABLE b) 0).phyOff b
  s.onLink b (fun l => { l with reenableDl := some (s.adv + usFt 200) })

/-- AUTO_RESTART_EXPIRE. -/
def execAutoRestartExpire (b : Fin 4) (s : State) : Res :=
  .next (if (llState s b = 6 ∨ llState s b = 5) ∧ s.flag (FBL.LL_CTRL_AUTO_RESTART b) ∧ s.due (s.link b).holdDl then s.linkRestarts b else s)

/-- What RESTART does (R298): refused with STATE_FORBIDS outside DOWN and REFUSED. -/
def State.actLinkRestart (s : State) (b : Nat) : State :=
  if llState s b = 6 ∨ llState s b = 5 then (s.set (FBL.LL_STATUS_REASON b) 0).linkRestarts b
  else s.set (FBL.LL_STATUS_REASON b) 0x74

/-- LINK_RESTART. -/
def execLinkRestart (path : Path) (b : Fin 4) (s : State) : Res :=
  .next (s.writing path (FBL.LL_CTRL b) (strobe s (FBL.LL_CTRL_RESTART b) 0x3FE) (fun s => s.actLinkRestart b))

/-- Whether pause thresholds keep R286, given the word of each channel. -/
def pauseOk (w : Nat → Word) : Bool :=
  let off := fun (v : Nat) => fieldOf (w v) 0 16
  let on := fun (v : Nat) => fieldOf (w v) 16 16
  (List.range 4).all (fun v => on v < off v) && off 3 ≤ off 0 && off 0 + off 1 + off 2 + 3 * 768 ≤ 32768

/-- What a write of `LL_PAUSE[v]` does (R286, R303). -/
def State.actLlPause (s : State) (b v : Nat) (val : Word) : State :=
  if pauseOk (fun u => if u = v then val else s.rd (FBL.LL_PAUSE b u)) then
    ((s.wr (FBL.LL_PAUSE b v) val).set (FBL.LL_STATUS_REASON b) 0).refreshPause b
  else s.set (FBL.LL_STATUS_REASON b) 0x72

/-- LL_PAUSE_WRITE. -/
def execLlPauseWrite (path : Path) (b v : Fin 4) (val : Word) (s : State) : Res :=
  .next (s.writing path (FBL.LL_PAUSE b v) val (fun s => s.actLlPause b v val))

/-- What a write of `LL_LIMIT` does (R302). -/
def State.actLlLimit (s : State) (b : Nat) (val : Word) : State :=
  if fieldOf val 0 4 = 0 ∨ fieldOf val 4 4 = 0 ∨ fieldOf val 8 6 = 0 then s.set (FBL.LL_STATUS_REASON b) 0x73
  else (s.wr (FBL.LL_LIMIT b) (val &&& 0x3FFF)).set (FBL.LL_STATUS_REASON b) 0

/-- LL_LIMIT_WRITE. -/
def execLlLimitWrite (path : Path) (b : Fin 4) (val : Word) (s : State) : Res :=
  .next (s.writing path (FBL.LL_LIMIT b) val (fun s => s.actLlLimit b val))

/-! ### Sending (R279, R291, R292) -/

/-- Whether a channel is paused for the transmitter: by the partner's mask, or all of them in RESYNC (R285, R290). -/
def chanPaused (s : State) (b : Nat) (c : Chan) (np : Bool) : Bool :=
  let m := s.get (FBL.LL_STATUS_PAUSE_RX b)
  llState s b ≠ 2 || m.testBit (chanType c - 1) || (c = .req && np && m.testBit 3)

/-- Whether the transmitter may take a new packet (R285, R292). -/
def linkTakes (s : State) (b : Nat) (p : Tfp) (c : Chan) (np : Bool) : Bool :=
  let l := s.link b
  !chanPaused s b c np && l.store.length < 32767 && storeFlits l + tfpFlits p ≤ 8192 * (1 + replayShares s b)

/-- The stalls of R292 as `LL_STATUS` shows them, for a packet that waits. -/
def State.noteStall (s : State) (b : Nat) (p : Tfp) : State :=
  let l := s.link b
  let s := s.set (FBL.LL_STATUS_SEQ_STALL b) (bit (32767 ≤ l.store.length))
  s.set (FBL.LL_STATUS_STORE_STALL b) (bit (8192 * (1 + replayShares s b) < storeFlits l + tfpFlits p))

/-- A new packet takes the next SEQ and enters the replay store (R288, R291), where it holds its generations until it is first placed in a period (R24). -/
def State.linkSend (s : State) (b : Nat) (p : Tfp) (c : Chan) (np : Bool) (gens : List (Option Nat)) : State :=
  let n := s.get (FBL.LL_TXSEQ_NEXT b)
  let l := s.link b
  let s := s.set (FBL.LL_TXSEQ_NEXT b) ((n + 1) % 65536)
  s.setLink b { l with store := l.store ++ [{ seq := n, p := p, chan := c, np := np, flits := tfpFlits p, gens := gens }],
                       cursor := if l.store.any (fun e => e.seq = l.cursor) then l.cursor else n }

/-- The control flits that wait, in the order of R279; REPLAY opens its period (R291). Answers them as bytes with what each being sent does. -/
def controlsDue (s : State) (b : Nat) (replayNow : Bool) : List (List Byte × (State → State)) :=
  let l := s.link b
  let pause := s.get (FBL.LL_STATUS_PAUSE_TX b)
  let st := llState s b
  let on := st = 2 ∨ st = 3
  let replay := match l.replay with
    | some f => if replayNow then
        [(replayFlit f (l.store.filter (fun e => e.out && seqSub e.seq f < 32768)).length,
          fun (s : State) => s.onLink b (fun l => { l with replay := none, cursor := f }))]
      else []
    | none => []
  let nak := match l.nakDue with
    | some (q, r) => if on then [(nakFlit q pause r, fun (s : State) => s.onLink b (fun l => { l with nakDue := none }))] else []
    | none => []
  let pz := if l.pauseDue ∧ on then [(pauseFlit pause, fun (s : State) => s.onLink b (fun l => { l with pauseDue := false }))] else []
  let ack := if on then [(ackFlit (seqSub (s.get (FBL.LL_RXSEQ_NEXT b)) 1) pause, fun (s : State) => s)] else []
  let train := if l.trainDue ∧ (st = 1 ∨ st = 4) then
      [(trainFlit (ownTrain s b), fun (s : State) => (s.onLink b (fun l => { l with trainDue := false, readySent := l.readySent || l.ready })).tryActive b)]
    else []
  let time := if on then l.timeDue.map (fun f =>
      (timeFlit { f with tTx := s.time.ft }, fun (s : State) =>
        let s := s.onLink b (fun l => { l with timeDue := l.timeDue.drop 1 })
        if f.kind = 1 then { s with time := { s.time with reqTx := some s.time.ft } } else s))
    else []
  replay ++ nak ++ pz ++ ack ++ train ++ time

/-- The packet at the cursor, if the transmitter may place it now. -/
def nextToPlace (s : State) (b : Nat) : Option Sent :=
  let l := s.link b
  match l.store.find? (fun e => e.seq = l.cursor) with
  | some e => if l.replay.isSome ∨ chanPaused s b e.chan e.np then none else some e
  | none => none

/-- Place packets into the `room` flits left of a period; `fuel` bounds the packets. Answers the flits placed. -/
def State.placePackets (b : Nat) : Nat → Nat → State → List (List Byte) × State
  | 0, _, s => ([], s)
  | fuel + 1, room, s =>
    if room = 0 then ([], s)
    else match nextToPlace s b with
      | none => ([], s)
      | some e =>
        let fl := packetFlits e.seq e.chan e.np e.p
        let s := s.onLink b (fun l =>
          { l with store := l.store.map (fun x => if x.seq = e.seq then { x with out := true, resends := if x.out then x.resends + 1 else x.resends } else x),
                   cursor := (l.cursor + 1) % 65536, carry := fl.drop room })
        let s := if (s.link b).replayDl.isNone then s.armReplay b else s
        let r := State.placePackets b fuel (room - min room fl.length) s
        (fl.take room ++ r.1, r.2)

/-- LINK_PERIOD_TRANSMIT: the bytes of one superblock period (R279, R291): the rest of the unit in progress, at most 4 control flits between
units, replayed and new packets, IDLE. -/
def execLinkPeriodTransmit (b : Fin 4) (s : State) : Res :=
  let st := llState s b
  if phyState s b ≠ 6 ∨ st = 0 ∨ st = 5 ∨ st = 6 then .next s
  else
    let s := s.refreshPause b
    let n := if s.get (FBL.PHY_STATUS_WIDTH b) = 0 then 128 else 64
    let l := s.link b
    let head := l.carry.take n
    let s := s.onLink b (fun l => { l with carry := l.carry.drop n })
    let room := n - head.length
    let ctl := if room = 0 then [] else (controlsDue s b (l.carry = [])).take (min 4 room)
    let s := ctl.foldl (fun s c => c.2 s) s
    let room := room - ctl.length
    let (data, s) := if (s.link b).carry = [] then State.placePackets b 128 room s else ([], s)
    let fill := List.replicate (room - data.length) idleFlit
    .next (s.onLink b (fun l => { l with period := (head ++ ctl.map Prod.fst ++ data ++ fill).flatten }))

/-! ### AUTO_RESTART_REENABLE and what ENABLE does (R248, R264) -/

/-- The refusal of ENABLE on a bundle (R248): mode, owner, LANE_PORT. -/
def phyRefusal (s : State) (b : Nat) : Nat :=
  let owner := (s.part.owners.find? (fun e => e.cls = 6 ∧ e.inst = b)).map OwnerEnt.owner
  let owned := (bundleRole s b [3] && owner = some 8) || (bundleRole s b [4] && owner = some 9)
  if s.mode < 3 ∨ s.mode = 7 then 0x16
  else if s.flag (BRG.BUNDLE_DRAIN_STATUS_RESERVED_SW b) then 0x1A
  else if (laneOf (imageTables s) (112 + b)).isNone then (if owner.isSome then 0x18 else 0x03)
  else if ¬ owned then 0x03
  else 0

/-- Start the bundle: domain on, PLL starting, CLOCK (R264). -/
def State.phyStart (s : State) (b : Nat) : State :=
  let s := s.set (FBL.PHY_CTRL_ENABLE b) 1
  let s := s.set PWR.DOMAIN_MISC_BUNDLE (s.get PWR.DOMAIN_MISC_BUNDLE ||| 2 ^ b)
  let s := (s.setPhy b { coefs := startCoefs }).set (FBL.PHY_STATUS_DOWN_CAUSE b) 0
  s.phyTo b 1 0

/-- AUTO_RESTART_REENABLE. -/
def execAutoRestartReenable (b : Fin 4) (s : State) : Res :=
  .next (if s.due (s.link b).reenableDl then
    let s := s.onLink b (fun l => { l with reenableDl := none })
    if phyRefusal s b = 0 ∧ phyState s b = 0 then s.phyStart b else s
   else s)

end Sys2Proof.Machine
end

