-- ==== Sys2Proof/Machine/Phy.lean ====
section
/-! DEFINITION. The physical layer of the bundles (R247 to R272): enabling, training, width, narrowing, loss, and superblocks sent and
received. -/
namespace Sys2Proof.Machine
open Sys2Proof

/-! ### PHY_CTRL (R248, R264, R271) -/

/-- What an accepted write of `PHY_CTRL` does: setting ENABLE starts the bundle; clearing it takes the bundle OFF; RETRAIN restarts at step 4. -/
def State.applyPhyCtrl (s : State) (b : Nat) (val : Word) : State :=
  let on := s.flag (FBL.PHY_CTRL_ENABLE b)
  let s := s.set (FBL.PHY_STATUS_REASON b) 0
  let s := s.wr (FBL.PHY_CTRL b) (val &&& 0xFF1D)
  let s := if bitOf val.toNat 0 ∧ ¬ on then s.phyStart b else s
  let s := if ¬ bitOf val.toNat 0 ∧ on then (s.onLink b (fun l => { l with reenableDl := none })).phyOff b else s
  if bitOf val.toNat 1 ∧ bitOf val.toNat 0 then
    let s := s.linkRetrains b
    (s.setPhy b { s.phy b with narrowed := false }).phyRetrain b
  else s

/-- A write of `PHY_CTRL`: one that sets ENABLE is tested by the checker (R77, R248), which refuses it on a reserved bundle (R37, R388); one that clears
it is never refused (R384). A refused write changes no field. -/
def State.actPhyCtrl (s : State) (path : Path) (b : Nat) (val : Word) : State :=
  s.enableWrite path (FBL.PHY_CTRL b) val (s.flag (FBL.PHY_CTRL_ENABLE b)) (fun s => s.applyPhyCtrl b val)

/-- A write of `PHY_CTRL` through its path. -/
def State.phyWrite (s : State) (path : Path) (b : Nat) (val : Word) : State :=
  s.writing path (FBL.PHY_CTRL b) val (fun s => s.actPhyCtrl path b val)

/-- PHY_ENABLE. -/
def execPhyEnable (path : Path) (b : Fin 4) (s : State) : Res := .next (s.phyWrite path b (strobe s (FBL.PHY_CTRL_ENABLE b) 0xFF1D))

/-- PHY_DISABLE. -/
def execPhyDisable (path : Path) (b : Fin 4) (s : State) : Res := .next (s.phyWrite path b (unset s (FBL.PHY_CTRL_ENABLE b) 0xFF1D))

/-- BUNDLE_RETRAIN. -/
def execBundleRetrain (path : Path) (b : Fin 4) (s : State) : Res := .next (s.phyWrite path b (strobe s (FBL.PHY_CTRL_RETRAIN b) 0xFF1D))

/-! ### Clocks (R264, R265, R268) -/

/-- BUNDLE_PLL_LOCK: the clock lane runs and IDENT frames are sent (R264 step 2); with the partner's clock stable already, training enters IDENT. -/
def execBundlePllLock (b : Fin 4) (s : State) : Res :=
  .next (if phyState s b = 1 ∧ ¬ (s.phy b).pll then
    let s := s.setPhy b { s.phy b with pll := true }
    if s.flag (FBL.PHY_STATUS_CLK_OK b) then s.phyIdent b 1 else s.sendFrames b 0 (widthOffer s b) 32
   else s)

/-- PARTNER_CLOCK_STABLE: from CLOCK with the PLL locked, or from DOWN once the clock had been absent for 100 µs (R265). -/
def execPartnerClockStable (b : Fin 4) (s : State) : Res :=
  let p := s.phy b
  let back : Bool := match p.clkLost with
    | some t => decide (t + usFt 100 ≤ s.adv)
    | none => false
  let st := phyState s b
  .next (if st = 0 then s
    else
      let go : Bool := (st = 1 ∧ p.pll) ∨ (st = 8 ∧ back)
      let s := s.set (FBL.PHY_STATUS_CLK_OK b) 1
      let s := s.setPhy b { p with clkLost := none }
      if go then s.phyIdent b 1 else s)

/-- PARTNER_CLOCK_LOSS: a bundle UP or narrowing enters DOWN with cause CLOCK, and its link layer with cause PHY (R268, R299). -/
def execPartnerClockLoss (b : Fin 4) (s : State) : Res :=
  let st := phyState s b
  .next (if st = 0 then s
    else
      let s := s.set (FBL.PHY_STATUS_CLK_OK b) 0
      let s := s.setPhy b { s.phy b with clkLost := some s.adv }
      if st = 6 ∨ st = 7 then
        let s := s.phyDown b 1
        if llState s b ≠ 0 ∧ llState s b ≠ 6 then s.linkDown b 2 else s
      else s)

/-- The PHY enters DOWN in training or service: the link layer follows with cause PHY (R299). -/
def State.phyFails (s : State) (b cause : Nat) : State :=
  let s := s.phyDown b cause
  if llState s b ≠ 0 ∧ llState s b ≠ 6 then s.linkDown b 2 else s

/-! ### Training (R262 to R267) -/

/-- The frames of each orientation that physical lane `l` has brought in a row: naming itself straight, and reversed. -/
def framesOf (s : State) (b l : Nat) : Nat × Nat := SMap.get (fun _ => (0, 0)) (s.phy b).frames l

/-- Whether the lanes are wired in reverse: more lanes have brought their 32 frames reversed than straight (R247). -/
def seemsReversed (s : State) (b : Nat) : Bool :=
  let n := fun (f : Nat × Nat → Nat) => ((List.range 16).filter (fun l => 32 ≤ f (framesOf s b l))).length
  decide (n Prod.fst < n Prod.snd)

/-- Whether physical lane `l` has brought 32 valid frames in a row in the bundle's orientation; a lane wired the other way never has (R247, R264). -/
def laneHeard (s : State) (b l : Nat) (reversed : Bool) : Bool := 32 ≤ (if reversed then (framesOf s b l).2 else (framesOf s b l).1)

/-- The orientation in force: found in training, kept by a narrowing. -/
def orientation (s : State) (b : Nat) : Bool := if phyState s b = 7 then s.flag (FBL.PHY_STATUS_REVERSED b) else seemsReversed s b

/-- IDENT ends (R264 step 4): the lane map is fixed and lanes without 32 frames fail. A training goes on with the coefficient search, a narrowing with
CHECK (R267). -/
def State.identEnds (s : State) (b : Nat) : State :=
  let rev := orientation s b
  let s := s.set (FBL.PHY_STATUS_REVERSED b) (bit rev)
  let bad := (List.range 16).foldl (fun m l => if laneHeard s b l rev then m else m ||| 2 ^ logicalLane s b l) 0
  let s := s.failLanes b bad
  let s := s.setPhy b { s.phy b with rounds := 0, myDone := false, peerDone := false, badLanes := 0 }
  if phyState s b = 7 then (s.setPhy b { s.phy b with sub := 4 }).sendRound b 2
  else (s.phyTo b 3 0).sendRound b 1

/-- Whether every usable lane, one that has not failed, has brought its frames (R264 step 4). -/
def identReady (s : State) (b : Nat) : Bool :=
  let rev := orientation s b
  (List.range 16).all (fun l => laneHeard s b l rev || bitOf (s.get (FBL.LANE_MAP_FAILED b)) (if rev then 15 - l else l))

/-- IDENT ends after 10 µs whatever has arrived (R264 step 4). -/
def State.identDue (s : State) (b : Nat) : State :=
  if trainStep s b = 2 ∧ (s.phy b).stepAt + usFt 10 ≤ s.adv then s.identEnds b else s

/-- IDENT: a valid frame on physical lane `l` that names `lane`. -/
def State.identFrame (s : State) (b l lane : Nat) (inverted : Bool) : State :=
  let p := s.phy b
  let s := s.set (FBL.LANE_MAP_INVERTED b) (withField (BitVec.ofNat 32 (s.get (FBL.LANE_MAP_INVERTED b))) l 1 (bit inverted)).toNat
  let n := framesOf s b l
  let now := (if lane = l then n.1 + 1 else 0, if lane = 15 - l then n.2 + 1 else 0)
  let s := s.setPhy b { p with frames := SMap.set (fun _ => (0, 0)) p.frames l now }
  if identReady s b then s.identEnds b else s

/-- Both sides have finished the coefficient search, or 128 rounds have passed: CHECK (R264 step 5). -/
def State.maybeCheck (s : State) (b : Nat) : State :=
  let p := s.phy b
  if phyState s b = 3 ∧ ((p.myDone ∧ p.peerDone) ∨ 128 ≤ p.rounds) then
    ((s.setPhy b { p with rounds := 0, badLanes := 0 }).phyTo b 4 0).sendRound b 2
  else s

/-- The bundle narrows (R267): its map goes out in IDENT frames on all its lanes, the coefficients are kept. -/
def State.narrows (s : State) (b lanes : Nat) : State :=
  let s := (s.failLanes b lanes).linkRetrains b
  let s := s.setPhy b { s.phy b with trainAt := s.adv }
  (s.phyTo b 7 0).toIdent b

/-- A lane failure: of a bundle UP at width 16 it starts a narrowing; at width 8 a failure of an active lane takes it DOWN (R267, R268). -/
def State.laneFails (s : State) (b lanes : Nat) : State :=
  let w := s.get (FBL.PHY_STATUS_WIDTH b)
  if phyState s b ≠ 6 ∨ lanes &&& widthLanes w = 0 then s.failLanes b lanes
  else if w = 0 then s.narrows b lanes
  else (s.failLanes b lanes).phyFails b 5

/-- No width qualifies: DOWN with cause NO_WIDTH and REASON LANE_CONFLICT (R266). -/
def State.noWidth (s : State) (b : Nat) : State := (s.set (FBL.PHY_STATUS_REASON b) 0x01).phyFails b 2

/-- The width is settled and superblocks start: ALIGN (R264 step 7). -/
def State.startAlign (s : State) (b w : Nat) : State :=
  let s := (s.setWidth b w).setPhy b { s.phy b with rx := [], sub := if phyState s b = 7 then 5 else 0 }
  if phyState s b = 7 then s else s.phyTo b 5 0

/-- With its rounds checked, this side chooses the width anew whenever it learns of a failed lane, says it in DONE frames, and starts when the partner's
DONE names the same (R264, R266). A narrowing with no half left waits for NARROW_COMPLETE. -/
def State.settleWidth (s : State) (b : Nat) : State :=
  match chooseWidth s b with
  | none => if phyState s b = 7 then s.setPhy b { s.phy b with chosen := none } else s.noWidth b
  | some w =>
    let s := if (s.phy b).chosen = some w then s else (s.setPhy b { s.phy b with chosen := some w }).sendFrames b 3 w 1
    if (s.phy b).peerChosen = some w then s.startAlign b w else s

/-- A frame of PHASE CHECK or DONE: what it offers or names (R263, R266). -/
def State.widthFrame (s : State) (b : Nat) (done : Bool) (width : Nat) : State :=
  let p := s.phy b
  let p := { p with peerDone := true, peerWidth := if done then p.peerWidth else some width, peerChosen := if done then some width else p.peerChosen }
  let s := s.setPhy b p
  if trainStep s b = 4 ∧ p.chosen.isSome then s.settleWidth b else s.maybeCheck b

/-- TRAINING_FRAME_RECEIVE: a frame whose SYNC and CRC check is used as its PHASE and this bundle's step say (R263, R264, R267). An IDENT frame that reaches
a bundle UP at width 16 says that the partner narrows. -/
def execTrainingFrameReceive (b : Fin 4) (lane : Fin 16) (f : TrainFrame) (s : State) : Res :=
  match (if f.crcOk then frameOf f.bytes else none) with
  | none =>
    .next ((if trainStep s b = 2 then s.setPhy b { s.phy b with frames := SMap.set (fun _ => (0, 0)) (s.phy b).frames lane (0, 0) } else s).identDue b)
  | some (v, inv) =>
    let ph := bitsHiLo v 51 49
    let st := trainStep s b
    let known := s.setPhy b { s.phy b with peerFail := bitsHiLo v 27 12 }
    .next ((if 4 ≤ ph then s
      else if ph = 0 then
        (if st = 2 then known.identFrame b lane (bitsHiLo v 55 52) inv
         else if st = 6 ∧ s.get (FBL.PHY_STATUS_WIDTH b) = 0 then known.narrows b 0
         else s)
      else if ph = 1 then
        (if st = 3 then
          let s := known.setCoef b (bitsHiLo v 55 52) (bitsHiLo v 48 45) (bitsHiLo v 44 40)
          let p := s.phy b
          (s.setPhy b { p with peerDone := p.peerDone || bitsHiLo v 28 28 = 1, peerWidth := some (bitsHiLo v 30 29) }).maybeCheck b
         else s)
      else if st = 3 ∨ st = 4 then known.widthFrame b (ph = 3) (bitsHiLo v 30 29)
      else s).identDue b)

/-- The next coefficient requests of this side's search, which is its own: free values within the limits (R262, R263). -/
def State.freshReqs (s : State) (b : Nat) : State :=
  (List.range 16).foldl (fun (s : State) k =>
    let (v, s) := s.fresh
    let p := s.phy b
    s.setPhy b { p with reqs := SMap.set (fun _ => (2, 8)) p.reqs k (coefLimit (v % 16) (v / 16 % 32)) }) s

/-- The logical lanes on which a round found PRBS errors. -/
def errLanes (errs : List Nat) : Nat := (List.range 16).foldl (fun m k => if 0 < (errs[k]?).getD 0 then m ||| 2 ^ k else m) 0

/-- A round of the coefficient search: it goes on, and when it ends is its own choice, after 128 rounds at the latest (R263, R264). -/
def State.coefRound (s : State) (b : Nat) : State :=
  let p := s.phy b
  let (v, s) := s.fresh
  let s := (s.setPhy b { p with rounds := p.rounds + 1, myDone := p.myDone || v % 2 = 1 || 127 ≤ p.rounds }).freshReqs b
  let t := s.maybeCheck b
  if phyState t b = 3 then t.sendRound b 1 else t

/-- A round of CHECK: a lane with any PRBS error fails, and after 16 rounds the width is chosen (R264, R266). -/
def State.checkRound (s : State) (b bad : Nat) : State :=
  let p := s.phy b
  let s := s.setPhy b { p with rounds := p.rounds + 1, badLanes := p.badLanes ||| bad }
  if p.rounds + 1 < 16 then s.sendRound b 2
  else if p.rounds + 1 = 16 then (s.failLanes b (s.phy b).badLanes).settleWidth b
  else s

/-- COEF_ROUND_END: a round of COEF or of CHECK ends (R263). -/
def execCoefRoundEnd (b : Fin 4) (errs : List Nat) (s : State) : Res :=
  .next (if trainStep s b = 2 then s.identDue b
    else if trainStep s b = 3 then s.coefRound b
    else if trainStep s b = 4 then s.checkRound b (errLanes errs)
    else s)

/-- TRAIN_ATTEMPT_TIMEOUT: 2 ms in an attempt (R265). -/
def execTrainAttemptTimeout (b : Fin 4) (s : State) : Res :=
  let st := phyState s b
  .next (if 2 ≤ st ∧ st ≤ 5 ∧ (s.phy b).identAt + usFt 2000 ≤ s.adv then
    (if s.get (FBL.PHY_STATUS_ATTEMPTS b) < 3 then s.phyIdent b (s.get (FBL.PHY_STATUS_ATTEMPTS b) + 1) else s.phyFails b 3)
   else s)

/-- The PHY reaches UP: journaled, TRAIN_TIME, and the link layer starts (R264 step 8, R272). -/
def State.phyUp (s : State) (b : Nat) : State :=
  let s := s.set (FBL.TRAIN_TIME_US b) (sat 16 (ftUs (s.adv - (s.phy b).trainAt)))
  ((s.phyTo b 6 0).refreshRate (96 + b)).linkPhyUp b

/-- NARROW_COMPLETE: UP at width 8 once every lane of the half both sides keep is in lock, or DOWN with no half left (R267). -/
def execNarrowComplete (b : Fin 4) (s : State) : Res :=
  .next (if phyState s b ≠ 7 then s
    else if (chooseWidth s b).isNone then s.noWidth b
    else if trainStep s b = 5 ∧ allLocked s b then
      let s := s.set (FBL.PHY_STATUS_NARROWED b) 1
      let s := s.setPhy b { s.phy b with sub := 0, narrowed := true }
      ((s.addSat (FBL.PHY_ERR_NARROWS b) 1).phyUp b).raiseFault (32 + b) CE (112 + b)
    else s.identDue b)

/-! ### Superblocks (R250 to R261) -/

/-- SUPERBLOCK_TRANSMIT: on every active lane, comma, scrambled stuffed payload and fill; the bytes are those of the link layer's period, idle
flits before it has any (R257, R279). -/
def execSuperblockTransmit (b : Fin 4) (s : State) : Res :=
  .next (if trainStep s b = 5 ∨ trainStep s b = 6 then
    let (w, first) := activeLanes (s.get (FBL.PHY_STATUS_WIDTH b))
    let p := (s.link b).period
    let bs := if p.length = 256 * w then p else (List.replicate (8 * w) idleFlit).flatten
    (s.emit (.lanes b (superblock w first bs))).onLink b (fun l => { l with period := [] })
   else s)

/-- Violations of a lane within the last 1 ms (R261). -/
def violsOf (s : State) (l : List (Nat × Nat)) : List (Nat × Nat) := l.filter (fun e => s.adv < e.1 + usFt 1000)

/-- The receiver of a lane after a period: lock after three commas in a row in their window, missed commas of a locked lane, violations (R259, R261). -/
def nextRx (s : State) (rx : LaneRx) (r : LanePeriod) : LaneRx :=
  let good := r.place.isSome && r.inWindow
  { tail := r.tail, last := r.last,
    commas := if good then rx.commas + 1 else if 3 ≤ rx.commas then rx.commas else bit r.place.isSome,
    misses := if !good && 3 ≤ rx.commas then rx.misses + 1 else 0,
    viols := violsOf s rx.viols ++ (if r.viols = 0 then [] else [(s.adv, r.viols)]) }

/-- Take one lane of a period: the counters, and whether the lane fails, after two misses in a row or too many violations (R259, R261). -/
def State.takeLane (s : State) (b k : Nat) (r : LanePeriod) : Bool × State :=
  let rx := nextRx s (laneRx s b k) r
  let s := s.addSat (FBL.PHY_ERR_CODE_VIOL b) r.viols
  let s := s.addSat (FBL.RX_STATUS_VIOL b k) r.viols
  let s := if 0 < rx.misses then s.addSat (FBL.PHY_ERR_COMMA_MISS b) 1 else s
  let s := s.setPhy b { s.phy b with rx := SMap.set (fun _ => {}) (s.phy b).rx k rx }
  (2 ≤ rx.misses || max 1 (s.get (FBL.PHY_CTRL_VIOL_LIMIT b)) < rx.viols.foldl (fun a e => a + e.2) 0, s)

/-- The bits that a logical lane receives, with its sampling phase: those of its physical lane, inverted where its polarity is (R247). -/
def laneBits (s : State) (b k : Nat) (lanes : List LaneBits) : Nat × List Bool :=
  match lanes.find? (fun e => logicalLane s b e.lane = k) with
  | some e => (e.phase, if bitOf (s.get (FBL.LANE_MAP_INVERTED b)) e.lane then e.bits.map (!·) else e.bits)
  | none => (0, [])

/-- What each active lane of a period holds: its logical lane, and what its receiver reads (R253 to R259). -/
def lanesRead (s : State) (b : Nat) (lanes : List LaneBits) : List (Nat × LanePeriod) :=
  let (w, first) := activeLanes (s.get (FBL.PHY_STATUS_WIDTH b))
  (List.range w).map (fun j => (first + j, readLane (first + j) (laneRx s b (first + j)) (laneBits s b (first + j) lanes).2))

/-- Take every lane of a period: the map of the lanes that fail. -/
def State.takeLanes (s : State) (b : Nat) (got : List (Nat × LanePeriod)) : Nat × State :=
  got.foldl (fun (acc : Nat × State) e =>
    let (f, s) := acc.2.takeLane b e.1 e.2
    (if f then acc.1 ||| 2 ^ e.1 else acc.1, s)) (0, s)

/-! ### Skew (R260) -/

/-- The UI at which each lane's comma arrived, counted from the first bit of the period that SUPERBLOCK_RECEIVE brought. -/
def arrivals (s : State) (b : Nat) (got : List (Nat × LanePeriod)) : List (Nat × Int) :=
  got.filterMap (fun e => e.2.place.map (fun i => (e.1, (i : Int) - (laneRx s b e.1).tail.length)))

/-- The earliest and the latest of some arrivals. -/
def spanOf (l : List (Nat × Int)) : Int × Int :=
  match l with
  | [] => (0, 0)
  | e :: es => es.foldl (fun m x => (min m.1 x.2, max m.2 x.2)) (e.2, e.2)

/-- Insert into an ascending list. -/
def insertInt (x : Int) : List Int → List Int
  | [] => [x]
  | y :: ys => if x ≤ y then x :: y :: ys else y :: insertInt x ys

/-- Twice the median of some arrivals. -/
def medianTwice (l : List (Nat × Int)) : Int :=
  let xs := (l.map Prod.snd).foldr insertInt []
  (xs[(xs.length - 1) / 2]?).getD 0 + (xs[xs.length / 2]?).getD 0

/-- The lane farthest from the median; of several, the lowest (log entry 123). -/
def farthest (l : List (Nat × Int)) : Option Nat :=
  let m := medianTwice l
  (l.foldl (fun (best : Option (Nat × Nat)) e =>
    let d := (2 * e.2 - m).natAbs
    match best with
    | some (_, d') => if d' < d then some (e.1, d) else best
    | none => some (e.1, d)) none).map Prod.fst

/-- The lanes that remain once the commas lie within a span of 32 UI, the lanes farthest from the median failing first (R260). -/
def withinSpan : Nat → List (Nat × Int) → List (Nat × Int)
  | 0, l => l
  | n + 1, l =>
    if (spanOf l).2 - (spanOf l).1 ≤ 32 then l
    else withinSpan n (l.filter (fun e => decide (some e.1 ≠ farthest l)))

/-- Align the commas of one period: SKEW and PHASE of each lane, and the map of the lanes that fail for lying outside the span (R260, R272). -/
def State.deskew (s : State) (b : Nat) (at_ : List (Nat × Int)) (phases : Nat → Nat) : Nat × State :=
  let keep := withinSpan 16 at_
  let bad := at_.foldl (fun m e => if keep.contains e then m else m ||| 2 ^ e.1) 0
  let s := keep.foldl (fun (s : State) e =>
    (s.set (FBL.RX_STATUS_SKEW b e.1) (e.2 - (spanOf keep).1).toNat).set (FBL.RX_STATUS_PHASE b e.1) (phases e.1 % 64)) s
  (bad, s)

/-- SUPERBLOCK_RECEIVE: one period's bits of the lanes, read, aligned and judged. In ALIGN, all active lanes in lock make the bundle UP (a narrowing waits
for NARROW_COMPLETE), and a lane that fails returns it to IDENT in the same attempt (R269). In UP the bytes go to the link layer, and a lane that
fails narrows the bundle or takes it DOWN; at width 16 the loss of every comma at once is the partner's narrowing and fails no lane (R267; log
entry 124). -/
def execSuperblockReceive (b : Fin 4) (lanes : List LaneBits) (s : State) : Res :=
  let st := trainStep s b
  if st ≠ 5 ∧ st ≠ 6 then .next s
  else
    let got := lanesRead s b lanes
    let (skewed, s1) := s.deskew b (arrivals s b got) (fun k => (laneBits s b k lanes).1)
    let (bad, s) := s1.takeLanes b got
    let bad := bad ||| skewed
    if st = 5 then
      .next (if bad ≠ 0 then (s.failLanes b bad).backToIdent b
        else if phyState s b = 5 ∧ allLocked s b then s.phyUp b
        else s)
    else
      let s := s.onLink b (fun l => { l with rxBytes := unstripe got.length (got.map (fun e => e.2.bytes)) })
      let lost := got.all (fun e => decide (2 ≤ (laneRx s b e.1).misses))
      .next (if bad = 0 then s
        else if lost ∧ s.get (FBL.PHY_STATUS_WIDTH b) = 0 then s.narrows b 0
        else s.laneFails b bad)

end Sys2Proof.Machine
end

