-- ==== Sys2Proof/Machine/Outbound.lean ====
section
/-! DEFINITION. From a request to where it goes: what a request meets in its partition (R215, R304), the request as a bridged packet (R305,
R306, R311, R324), the translation of a binding (R214), and how a request that finds no way on ends (R553). -/
namespace Sys2Proof.Machine
open Sys2Proof

/-! ### Requests and bridged bodies (R311) -/

/-- OP of a request the bridge carries; Memory Read Lock, I/O Requests and Deferrable Memory Writes have none. -/
def opOf (k : TlpKind) : Option Nat :=
  match k with
  | .memRd => some 0
  | .memWr => some 1
  | .fetchAdd => some 2
  | .swap => some 3
  | .cas => some 4
  | .cfgRd => some 5
  | .cfgWr => some 6
  | .msg => some 7
  | .memRdLk | .dmWr | .ioRd | .ioWr | .cpl => none

/-- The TLP type of an OP. -/
def kindOfOp (op : Nat) : Option TlpKind := [TlpKind.memRd, .memWr, .fetchAdd, .swap, .cas, .cfgRd, .cfgWr, .msg][op]?

/-- The request body of a TLP, at an address and with a Requester ID; LENGTH 0 means 1,024. A message routed by ID has its target where a PCIe header has it, in
the first two of the eight bytes of ADDR (log entry 5). -/
def bodyOf (t : Tlp) (op addr rid : Nat) : ReqBody :=
  { op := op, tlpTc := t.tc, ido := t.ido, ro := t.ro, ns := t.ns, at_ := t.at_, lenDw := t.lenDw % 1024, firstBe := t.firstBe, lastBe := t.lastBe,
    pasid := t.pasid, msgCode := t.msgCode, msgRoute := t.msgRoute,
    addr := if op = 5 ∨ op = 6 then t.dest * 2 ^ 48 + t.dword % 1024 * 2 ^ 38 else if op = 7 ∧ t.msgRoute = 2 then t.dest * 2 ^ 48 else addr, rid := rid, tag := t.tag % 16384 }

/-- The TLP a request body stands for, with a Requester ID; without ECRC, EP when the packet is poisoned (R311, R314). -/
def tlpOfBody (r : ReqBody) (k : TlpKind) (rid : Nat) (poison : Bool) (data : List Byte) : Tlp :=
  { kind := k, addr := if k = .cfgRd ∨ k = .cfgWr then 0 else if k = .msg ∧ r.msgRoute = 2 then r.addr % 2 ^ 48 else r.addr, lenDw := if r.lenDw = 0 then 1024 else r.lenDw, firstBe := r.firstBe,
    lastBe := r.lastBe, rid := rid, tag := r.tag, tc := r.tlpTc, ro := r.ro, ido := r.ido, ns := r.ns, at_ := r.at_, pasid := r.pasid, ep := poison,
    dest := r.addr / 2 ^ 48, dword := r.addr / 2 ^ 38 % 1024, msgCode := r.msgCode, msgRoute := r.msgRoute, data := data }

/-- The answer cells a request reserves: 2 per 64 bytes of a read or an atomic's result, else 1 (R324). -/
def answerCells (t : Tlp) : Nat :=
  match t.kind with
  | .memRd | .memRdLk | .fetchAdd | .swap => 2 * max 1 (ceilDiv (4 * t.lenDw) 64)
  | .cas => 2 * max 1 (ceilDiv (2 * t.lenDw) 64)
  | _ => 1

/-! ### Ends before the core (R553) -/

/-- A request as a packet of the core that has not been classified: for its end, or to be completed by its route. `page` of its end is the
caller's. -/
def rawPkt (s : State) (t : Tlp) (ingress colour : Nat) (origin : Origin) : Pkt :=
  { id := s.core.nextId, body := .tlp t, dest := xbarOf s ingress, egress := ingress, tc := t.tc, kind := tlpCls t, ro := t.ro, colour := colour,
    gens := [], sub := none, ingress := ingress, cells := cellsOf (tlpBytes t), place := .voq, origin := origin }

/-- A request enters the core toward a port, or ends by the state of that port, on the port's page. -/
def State.admitTo (s : State) (p : Pkt) : State :=
  match (if p.egress < 96 then targetRefusal s p.egress else none) with
  | some path => s.endPkt p path p.egress
  | none => s.enter p

/-- A drop on the fabric side raises one event on source 40 per re-arm of `BRG.LATE_REC` (R316, R329). -/
def State.dropEvent (s : State) : State :=
  if s.brg.raised then s else ({ s with brg := { s.brg with raised := true } }).raiseFault 40 CE 0xFFFF

/-- A packet ends for want of a way on: NO_ROUTE in `BRG.DROP`, and its end (R315, R316). -/
def State.endNoRoute (s : State) (p : Pkt) (page : Nat) : State := ((s.addSat BRG.DROP_NO_ROUTE 1).endPkt p .noRoute page).dropEvent

/-- Why the bundle of route `d` takes no packet, and its page: the state of its PRIMARY, or of its ALTERNATE where it has no PRIMARY (R553); none where
the route names no bundle. -/
def routeRefusal (s : State) (d : Nat) : Option (EndPath × Nat) :=
  let b := if s.get (BRG.ROUTE_PRIMARY d) < 4 then s.get (BRG.ROUTE_PRIMARY d) else s.get (BRG.ROUTE_ALTERNATE d)
  if s.brg.deadRoute.contains d ∨ 4 ≤ b then none
  else some (if s.flag (BRG.BUNDLE_DRAIN_STATUS_SHED b) then .routeShed
    else if s.get (BRG.BUNDLE_DRAIN_STATUS_STATE b) ≠ 0 then .routeDrain else .routeDown, 96 + b)

/-- A packet toward DevID `d` ends because no bundle of its route is usable (R315): counted on that bundle's page by its state (R553), with cause NO_ROUTE; on
`page` where the route names no bundle. -/
def State.endUnrouted (s : State) (p : Pkt) (d page : Nat) : State :=
  match routeRefusal s d with
  | some (path, b) => ((s.addSat BRG.DROP_NO_ROUTE 1).endPkt p path b).dropEvent
  | none => s.endNoRoute p page

/-! ### Out through a window or a lent port (R305, R306) -/

/-- The bridged packet of request `t`: its header and body, toward DEVID.PORTID, with WINDOW `w` (0x7FF none) and TFP class `tc`. -/
def bridgedOf (s : State) (t : Tlp) (op ingress colour rid addr dev port tc w : Nat) (acked : Bool) : Tfp :=
  let kind := if tlpCls t = 1 then 0x03 else if acked ∧ op = 1 then 0x02 else 0x01
  ⟨{ kind := kind, tc := tc, poison := t.ep, dstDev := dev, srcDev := ownDev s, dstPort := port, srcPort := ingress, colour := colour,
     gen := genField (reqStamp s true), window := w }, .req (bodyOf t op addr rid) t.data⟩

/-- The host-view Routing ID of the function that binding `i` lends; 0 without a binding. -/
def boundRid (s : State) (i : Option Nat) : Nat :=
  match i with
  | some i => hostRid s (rdBind (liveRd s) i)
  | none => 0

/-- Send request `t` over the fabric, or end it: OP_UNSUPPORTED for a type the bridge does not carry, NO_ROUTE without a usable bundle. `org`
is what its end owes; `rem` the header of the bridged packet it came in as, `reqRid` the requester to whom an answer goes. -/
def State.bridgeOut (s : State) (t : Tlp) (ingress colour rid addr dev port tc w : Nat) (acked : Bool) (bind : Option Nat) (part reqRid : Nat)
    (rem : Option TfpHdr) (org : Origin) (lock : Bool) (page : Nat) : State :=
  match opOf t.kind with
  | none => s.endPkt (rawPkt s t ingress colour org) .opUnsupported page
  | some op =>
    match routeBundle s dev with
    | none => s.endUnrouted (rawPkt s t ingress colour org) dev page
    | some b =>
      let q := bridgedOf s t op ingress colour rid addr dev port tc w acked
      let np := tlpCls t = 1 ∨ q.hdr.kind = 0x02
      let e : TagEntry := { isOut := true, xidGen := 0, rid := reqRid, tag := t.tag, ingress := ingress, part := part, window := if w = 0x7FF then none else some w,
                            dev := dev, port := port, bind := bind, cpl := boundRid s bind, acked := q.hdr.kind = 0x02, addr := addr, tc := t.tc, cells := answerCells t, rem := rem }
      s.enter { id := 0, body := .tfp q .req np, dest := 32 + 2 * b, egress := 112 + b, tc := tc, kind := if np then 1 else 0, ro := t.ro, colour := colour,
                gens := reqStamp s true, sub := matchSub s ingress colour tc (some addr), ingress := ingress,
                cells := cellsOf (32 * tfpFlits q), place := .voq, origin := org, lockPass := lock, orig := if ingress < 96 then some { t with rid := reqRid } else none,
                need := if np then some e else none }

/-- Send a request into window `w` (R305). -/
def State.windowOut (s : State) (t : Tlp) (ingress colour rid reqRid addr : Nat) (w : Nat × WinEnt) (bind : Option Nat) (rem : Option TfpHdr)
    (org : Origin) (lock : Bool) (page : Nat) : State :=
  s.bridgeOut t ingress colour rid (w.2.remote + (addr - w.2.base)) w.2.devid w.2.portid w.2.tc w.1 (w.2.mode = 1) bind w.2.part reqRid rem org lock page

/-! ### Inside a partition (R214, R215, R304) -/

/-- What a request meets in its partition. -/
inductive Hit where
  | port (n : Nat)
  | bound (i : Nat) (b : BindEnt)
  | window (w : Nat) (e : WinEnt)
  | mgmt
  | none_
deriving DecidableEq, Repr

/-- What an addressed request of partition p, entering at `n`, meets: a binding, a window, the management function, or the virtual switch's
decode (R304, R465). -/
def hitOf (s : State) (p n : Nat) (t : Tlp) : Hit :=
  let io := t.kind = .ioRd ∨ t.kind = .ioWr
  match bindAt s p t.addr with
  | some (i, b) => .bound i b
  | none => match windowAt s p t.addr with
    | some (w, e) => .window w e
    | none => match (if io then none else mgmtBar s p t.addr) with
      | some _ => .mgmt
      | none => match addrRoute s p n t.addr io with
        | some m => .port m
        | none => .none_

/-- Send a request through a binding (R214): the proxy RID, the device address, a tag entry for a non-posted one; through the window that
holds the device range when the function is lent by another switch (R219). Only a TFP packet reserves answer cells (R324). -/
def State.boundOut (s : State) (t : Tlp) (p ingress colour reqRid : Nat) (i : Nat) (b : BindEnt) (rem : Option TfpHdr) (org : Origin) (lock : Bool)
    (page : Nat) : State :=
  let addr := b.devBase + (t.addr - b.hostBase)
  if 112 ≤ b.target then
    match windowOfBind s b with
    | some w => s.windowOut t ingress colour (proxyRid s p) reqRid addr w (some i) rem org lock page
    | none => s.endPkt (rawPkt s t ingress colour org) .noDest page
  else
    let u := { t with addr := addr, rid := proxyRid s p }
    let e : TagEntry := { isOut := true, xidGen := 0, rid := reqRid, tag := t.tag, ingress := ingress, part := p, serial := serialOf s b.target, port := b.target,
                          bind := some i, cpl := hostRid s b, addr := addr, tc := t.tc, rem := rem }
    s.admitTo { id := s.core.nextId, body := .tlp u, dest := xbarOf s b.target, egress := b.target, tc := t.tc, kind := tlpCls u, ro := t.ro, colour := colour,
                gens := reqStamp s false, sub := matchSub s ingress colour t.tc (some t.addr), ingress := ingress,
                cells := cellsOf (tlpBytes u), serial := serialOf s b.target, place := .voq, origin := org, lockPass := lock,
                orig := if ingress < 96 then some { t with rid := reqRid } else none, need := if tlpCls u = 1 then some e else none }

/-- Send a request to a port of its own hierarchy, unchanged. -/
def State.portOut (s : State) (t : Tlp) (ingress m colour : Nat) (org : Origin) (lock : Bool) (need : Option TagEntry) : State :=
  s.admitTo { id := s.core.nextId, body := .tlp t, dest := xbarOf s m, egress := m, tc := t.tc, kind := tlpCls t, ro := t.ro, colour := colour,
              gens := reqStamp s false, sub := matchSub s ingress colour t.tc (pktAddr (.tlp t)), ingress := ingress,
              cells := cellsOf (tlpBytes t), serial := serialOf s m, place := .voq, origin := org, lockPass := lock,
              need := need.map (fun e => { e with port := m, ingress := m }) }

/-! ### Completions toward a requester -/

/-- Send the answer of a completion that entered at PortID `ing` over the fabric: a packet of that ingress, which may match a whole-flow subscriber there and
keeps its order (R155, R182, R183); with no usable bundle it is counted as NO_ROUTE. One that the switch formed itself enters at crossbar port 40. -/
def State.sendTfpIn (s : State) (p : Tfp) (ing colour : Nat) : State :=
  match routeBundle s p.hdr.dstDev with
  | none => s.addSat BRG.DROP_NO_ROUTE 1
  | some b =>
    if ing = 120 then s.sendTfp p 120 .none_
    else
      let g := tfpStamp s .rsp
      let q : Tfp := { p with hdr := { p.hdr with gen := genField g } }
      s.enter { id := 0, body := .tfp q .rsp false, dest := 32 + 2 * b, egress := 112 + b, tc := q.hdr.tc, kind := 2, ro := false, colour := colour, gens := g,
                sub := matchSub s ing colour q.hdr.tc none, ingress := ing, cells := cellsOf (32 * tfpFlits q), place := .voq, origin := .none_ }

/-- Whether a completion is the last of its request: an error, no data, or its remaining byte count is all there (PCI Express). -/
def cplLast (t : Tlp) : Bool :=
  t.status ≠ 0 || t.data = [] || (if t.byteCount = 0 then 4096 else t.byteCount) ≤ t.data.length - t.lowerAddr % 4

/-- The colour of a completion that entered at PortID `ing`: that of its Completer ID as a requester there, 0x000 elsewhere (log entry 48). -/
def cplColour (s : State) (ing : Nat) (t : Tlp) : Nat := if ing < 96 then colourOf s ing t.cplRid else 0

/-- A completion that entered at PortID `ing` on its way to port `n`: it may match a whole-flow subscriber (R182); its colour is that of its
Completer ID as a requester at `ing`, 0x000 from a bundle (log entry 48); its class `tc` is that of the TLP, or of the TFP packet that carried it (R178). Those
of crossbar port 40 take the management queue (R154). -/
def cplPkt (s : State) (t : Tlp) (ing n tc : Nat) (org : Origin) : Pkt :=
  let c := cplColour s ing t
  { mkTlpPkt s t ing n org .voq with
    tc := tc, colour := c, gens := cplStamp s, sub := if ing = 120 then none else matchSub s ing c tc none,
    kind := if ing = 120 then 3 else 2, place := if ing = 120 then .mgmtq else .voq }

/-- Send a completion that entered at `ing` to port `n`: discarded at a shed port or one whose link is down (R136, R425). Answers whether it was sent. -/
def State.cplTo (s : State) (t : Tlp) (ing n : Nat) (org : Origin) (tc : Nat := t.tc) : Bool × State :=
  if s.flag (PORT.STATUS_SHED n) then (false, s.count n 15 1)
  else if ¬ linkUp s n then (false, s.count n 18 1)
  else (true, s.enter (cplPkt s t ing n tc org))

/-- Deliver the completion of OUT entry `x`, which came in at `ing`, toward its requester: the entry is held until the last one has left (R324); at a
shed port or one whose link is down it is discarded, and the entry freed. -/
def State.deliverCpl (s : State) (x : Nat) (e : TagEntry) (t : Tlp) (ing tc : Nat) : State :=
  let last := cplLast t
  let s := if last then s.setTag x (some { e with answered := true }) else s
  if 96 ≤ e.ingress then s.when last (fun s => s.freeTag x)
  else
    let (sent, s) := s.cplTo t ing e.ingress (if last then .tagged x else .port e.ingress) tc
    s.when (!sent && last) (fun s => s.freeTag x)

/-- The Completer ID of an answer: for a binding the host-view Routing ID, as it was when the request was translated, for the binding may have gone since
(R216, R221); the upstream switch port's for a plain window (R326). -/
def completerOf (s : State) (e : TagEntry) : Nat := if e.bind.isSome then e.cpl else upRid s e.part

end Sys2Proof.Machine
end

