-- ==== Sys2Proof/Machine/Bridge.lean ====
section
/-! DEFINITION. The fabric bridge where packets arrive from a bundle (R304 to R334): transit, issuing a bridged request, answers, notices, the
fence, the tag table, slot sidebands, and bundle drains (R384). -/
namespace Sys2Proof.Machine
open Sys2Proof

/-! ### Arrival (R310, R315, R316) -/

/-- A packet received on bundle `b` as a packet that is not yet in the core, for its end or for its onward way. -/
def arrived (s : State) (b : Nat) (p : Tfp) : Pkt :=
  let c := tfpChan p.hdr.kind
  { id := s.core.nextId, body := .tfp p c.1 c.2, dest := 32 + 2 * b, egress := 112 + b, tc := p.hdr.tc, kind := tfpCls c.1 c.2, ro := tfpRo p,
    colour := bundleColour s b p.hdr.colour, gens := [], sub := none, ingress := 112 + b, cells := cellsOf (32 * tfpFlits p), place := .voq, origin := .none_ }

/-- A packet of a reserved kind: discarded, counted in `BRG.DROP`.NO_ROUTE, UC on source 40 (R310). -/
def State.reservedKind (s : State) (b : Nat) : State := (s.addSat BRG.DROP_NO_ROUTE 1).raiseFault 40 UC (112 + b)

/-- A packet received on bundle `b` with the bundle's colour, where an entry gives it one, in place of the carried one (R212). The header of an RMA packet is
sealed with its colour (R366) and keeps it (log entry 120). -/
def recolour (s : State) (b : Nat) (p : Tfp) : Tfp :=
  if 0x20 ≤ p.hdr.kind ∧ p.hdr.kind < 0x40 then p else { p with hdr := { p.hdr with colour := bundleColour s b p.hdr.colour } }

/-- The TLP a bridged request stands for, for the guard. -/
def guardTlp (p : Tfp) : Option Tlp :=
  match p.body with
  | .req r d => (kindOfOp r.op).map (fun k => tlpOfBody r k r.rid p.hdr.poison d)
  | _ => none

/-- The check of a request in transit: passed unless TRANSIT_CHECK is set and the guard refuses (R228). -/
def State.transitGuard (s : State) (b : Nat) (p : Tfp) : Bool × State :=
  match (if s.flag (GUARD.UNIT_CTRL_TRANSIT_CHECK (96 + b)) then guardTlp p else none) with
  | none => (true, s)
  | some t =>
    let r := s.guardCheck (96 + b) (bundleColour s b p.hdr.colour) (needOf t) (decide (tlpCls t = 1)) (rangeOf t).1 (rangeOf t).2 t.rid (carriedGuard p.hdr)
    (r.1.isSome, r.2)

/-- The TRANSIT bit of a channel. -/
def transitBit (c : Chan) : Nat := match c with | .req => 0 | .rsp => 1 | .mgt => 2

/-- Forward a packet in transit, or end it (R316): no REQ or RSP traffic while the DevID is invalid (R14; it ends as at a target without one, log entry
117); no MGT traffic on a bundle with a manager conflict (R41). -/
def State.transit (s : State) (b : Nat) (p : Tfp) : State :=
  let p := recolour s b p
  let d := p.hdr.dstDev
  let c := tfpChan p.hdr.kind
  let a := arrived s b p
  let open_ := !s.brg.deadRoute.contains d && (s.get (BRG.ROUTE_TRANSIT d)).testBit (transitBit c.1)
  if c.1 ≠ .mgt ∧ ¬ s.flag GLB.DEVID_VALID then s.endPkt a .mode (96 + b)
  else if ¬ open_ ∨ d = 0x7FF then s.endNoRoute a (96 + b)
  else if 15 ≤ p.hdr.hops then ((s.addSat BRG.DROP_HOP_LIMIT 1).endPkt a .hopLimit (96 + b)).dropEvent
  else match routeBundle s d with
    | none => s.endUnrouted a d (96 + b)
    | some e =>
      if e = b ∨ (c.1 = .mgt ∧ s.mdma.conflicts.contains e) then s.endNoRoute a (96 + b)
      else
        let (ok, s) := s.transitGuard b p
        if ok then
          let q := { p with hdr := { p.hdr with hops := p.hdr.hops + 1 } }
          s.enter { a with body := .tfp q c.1 c.2, dest := 32 + 2 * e, egress := 112 + e, gens := tfpStamp s c.1,
                           sub := matchSub s (112 + b) a.colour p.hdr.tc (pktAddr (.tfp p c.1 c.2)), place := if c.1 = .mgt then .mgmtq else .voq }
        else s.endPkt a .guard (96 + b)

/-- Whether the alias takes a DevID for the partner's (R409). -/
def aliased (s : State) (d : Nat) : Bool := s.flag TWIN.PEER_ALIAS_ACTIVE && d = s.get TWIN.PEER_ALIAS_DEVID

/-- Whether a packet is addressed to this device, by its own DevID or the alias. -/
def forHere (s : State) (d : Nat) : Bool := d ≠ 0x7FF && (d = ownDev s || aliased s d)

/-- Whether a PortID's bit in `TWIN.DUAL` is set (R410). -/
def dualPort (s : State) (n : Nat) : Bool := n < 96 && (s.rd (TWIN.DUAL (n / 32))).toNat.testBit (n % 32)

/-- A packet of REQ or RSP arrives on bundle `b`: discarded at a shed bundle (R426); kept out while the bridge is idle (R308); here, in
transit, or without a route. -/
def State.receive (s : State) (b : Nat) (p : Tfp) (here : Tfp → State → State) : State :=
  let s := s.takeRx b p
  let p := recolour s b p
  if s.flag (BRG.BUNDLE_DRAIN_STATUS_SHED b) then s.count (96 + b) (if (tfpChan p.hdr.kind).2 then 14 else 15) 1
  else if s.mode < 3 ∨ s.mode = 7 then s
  else if forHere s p.hdr.dstDev then here p s
  else if p.hdr.dstDev = 0x7FF then s.endNoRoute (arrived s b p) (96 + b)
  else s.transit b p

/-- Whether the target cannot take bridged packets: SHADOW, or no valid DevID and no alias (R409; cause TARGET_MODE). -/
def targetMode (s : State) : Bool := s.mode = 5 || !(s.flag GLB.DEVID_VALID || s.flag TWIN.PEER_ALIAS_ACTIVE)

/-- The first end at each single-ported PortID reached through the alias is journaled (R410). -/
def State.noteDual (s : State) (n : Nat) : State :=
  if s.twin.dualSeen.contains n then s
  else ({ s with twin := { s.twin with dualSeen := s.twin.dualSeen ++ [n] } }).post Src.twin { type := .shed, inst := n, payload := [4, 3] }

/-! ### Requests (R305, R307, R311, R325) -/

/-- The Requester ID of a request the bridge issues at port `n` (R325). -/
def issueRid (s : State) (n : Nat) : Nat := if s.get (PORT.CFG_ROLE n) = 1 then mgmtRid s (s.get (PORT.CFG_PART n)) else bridgeRid s

/-- Type 0 or Type 1 of a configuration request issued at port `n` (R225). -/
def cfgTypeAt (s : State) (n dest : Nat) : Bool := dest / 256 ≠ (busRange s (portFn s n)).1

/-- The IN entry a non-posted request takes (R323). -/
def inEntry (p : Tfp) (n : Nat) : TagEntry :=
  { isOut := false, xidGen := 0, rid := 0, tag := 0, ingress := n, dev := p.hdr.srcDev, port := n, rem := some p.hdr }

/-- Send a request to partition p's management function: to the management queue of crossbar port 40 (R154). -/
def State.mgmtOut (s : State) (t : Tlp) (p ingress colour : Nat) (org : Origin) : State :=
  s.enter { id := s.core.nextId, body := .tlp t, dest := 40, egress := 120, tc := t.tc, kind := tlpCls t, ro := t.ro, colour := colour,
            gens := reqStamp s false, sub := none, ingress := ingress, cells := cellsOf (tlpBytes t), place := .mgmtq, origin := org, part := p }

/-- A message for the management function: a Vendor-Defined Type 1 one is discarded, any other is an Unsupported Request in its AER (R469). -/
def State.mgmtMessage (s : State) (p : Nat) (t : Tlp) : State := if t.msgCode = 0x7F then s else s.aerLog (33 * p) aerUr t

/-- A message routed by ID inside partition p: to the management function, to a bound function in device view (R216), over the fabric when it is on another
switch (R219), or by bus number. -/
def State.messageById (s : State) (t : Tlp) (p ingress colour reqRid : Nat) (rem : Option TfpHdr) (org : Origin) (lock : Bool) (page : Nat) : State :=
  if t.dest = mgmtRid s p then s.mgmtMessage p t
  else match bindOfHostRid s p t.dest with
    | some (i, b) =>
      let u := { t with dest := b.devRid }
      if b.target < 96 then s.portOut u ingress b.target colour org lock none
      else match windowOfBind s b with
        | some w => s.windowOut u ingress colour t.rid reqRid w.2.base w (some i) rem org lock page
        | none => s.endPkt (rawPkt s t ingress colour org) .noDest page
    | none =>
      if idRoute s p t.dest = ingress then s.endPkt (rawPkt s t ingress colour org) .noDest page
      else s.portOut t ingress (idRoute s p t.dest) colour org lock none

/-- A request a bound function sends, with its host-view Requester ID already in place, routed inside partition p (R215, R216). `reqRid` is
the requester its answer goes to, `rem` and `need` those of a request that came over the fabric. -/
def State.functionOut (s : State) (t : Tlp) (p ingress colour reqRid : Nat) (rem : Option TfpHdr) (need : Option TagEntry) (org : Origin) (lock : Bool)
    (page : Nat) : State :=
  let byAddr := fun (s : State) => match hitOf s p ingress t with
    | .port m => s.portOut t ingress m colour org lock need
    | .bound i b => s.boundOut t p ingress colour reqRid i b rem org lock page
    | .window w e => s.windowOut t ingress colour t.rid reqRid t.addr (w, e) none rem org lock page
    | .mgmt => s.mgmtOut t p ingress colour org
    | .none_ => s.endPkt (rawPkt s t ingress colour org) .noDest page
  match t.kind with
  | .msg =>
    if t.msgRoute = 1 then byAddr s
    else if t.msgRoute = 2 then s.messageById t p ingress colour reqRid rem org lock page
    else s.portOut t ingress (upstreamOf s p) colour org lock need
  | .cfgRd | .cfgWr | .cpl => s.endPkt (rawPkt s t ingress colour org) .noDest page
  | _ => byAddr s

/-- Where a request for this device goes once its body is known: `k` its type. -/
def State.issue (s : State) (b : Nat) (p : Tfp) (r : ReqBody) (data : List Byte) (k : TlpKind) : State :=
  let a := arrived s b p
  let page := 96 + b
  let acked := p.hdr.kind = 0x02
  let org := fun (addr : Nat) => Origin.bridged p.hdr acked none addr
  let n := p.hdr.dstPort
  let bound := if p.hdr.window = 0x7FF then bindOfRemote s p.hdr.srcDev p.hdr.srcPort r.rid else none
  if p.hdr.window = 0x7FF ∧ bound.isNone then s.endPkt a .noBinding page
  else
    let rid := match bound with
      | some (_, e) => hostRid s e
      | none => issueRid s n
    let t0 := tlpOfBody r k rid p.hdr.poison data
    let t := if k = .cfgRd ∨ k = .cfgWr then { t0 with cfgType1 := cfgTypeAt s n t0.dest } else t0
    let toMgmt : Bool := match bound with
      | some (_, e) => decide (hitOf s e.part (112 + b) t = .mgmt)
      | none => false
    let (v, s) := if toMgmt then (some false, s)
      else s.guardCheck (96 + b) a.colour (needOf t) (decide (tlpCls t = 1)) (rangeOf t).1 (rangeOf t).2 r.rid (carriedGuard p.hdr)
    match v with
    | none => s.endPkt a .guard page
    | some lock =>
      match bound with
      | some (_, e) =>
        s.functionOut t e.part (112 + b) a.colour r.rid (some p.hdr) (if tlpCls t = 1 then some (inEntry p e.target) else none) (org t.addr) lock page
      | none =>
        if 96 ≤ n then s.endNoRoute a page
        else match targetRefusal s n with
          | some path => s.endPkt a path n
          | none =>
            s.enter { id := 0, body := .tlp t, dest := xbarOf s n, egress := n, tc := p.hdr.tc, kind := tlpCls t, ro := t.ro, colour := a.colour,
                      gens := reqStamp s false, sub := matchSub s (112 + b) a.colour p.hdr.tc (pktAddr (.tlp t)),
                      ingress := 112 + b, cells := cellsOf (tlpBytes t), serial := serialOf s n, place := .voq, origin := org t.addr, lockPass := lock,
                      need := if tlpCls t = 1 then some (inEntry p n) else none }

/-- A bridged request addressed to this device. -/
def State.requestHere (s : State) (b : Nat) (p : Tfp) : State :=
  let a := arrived s b p
  let byAlias := p.hdr.dstDev ≠ ownDev s
  match p.body with
  | .req r data =>
    if targetMode s then s.endPkt a .mode (96 + b)
    else if byAlias ∧ ¬ dualPort s p.hdr.dstPort then (s.endPkt a .shed (96 + b)).noteDual p.hdr.dstPort
    else match kindOfOp r.op with
      | none => s.endPkt a .opUnsupported (96 + b)
      | some k => s.issue b p r data k
  | _ => s.reservedKind b

/-- A request row: a packet of another kind is one of a reserved kind here. -/
def State.requestReceive (s : State) (b : Nat) (p : Tfp) (kind : Nat) : State :=
  if p.hdr.kind = kind then s.receive b p (fun p s => s.requestHere b p) else (s.takeRx b p).reservedKind b

/-- BR_POSTED_RECEIVE. -/
def execBrPostedReceive (b : Fin 4) (p : Tfp) (s : State) : Res := .next (s.requestReceive b p 0x01)

/-- BR_ACKED_RECEIVE. -/
def execBrAckedReceive (b : Fin 4) (p : Tfp) (s : State) : Res := .next (s.requestReceive b p 0x02)

/-- BR_NP_RECEIVE. -/
def execBrNpReceive (b : Fin 4) (p : Tfp) (s : State) : Res := .next (s.requestReceive b p 0x03)

/-! ### Completions of IN entries (R326) -/

/-- A completion that entered at `port` with its outstanding request: returned as BR_CPL, the entry freed on the last (R326). -/
def State.returnCpl (s : State) (port : Nat) (r : NpRec) (t : Tlp) (h : TfpHdr) (x : Option Nat) : State :=
  let last := cplLast t
  let s := if last then
      { s with core := { s.core with out := s.core.out.filter (fun o => ¬ (o.port = r.port ∧ o.rid = r.rid ∧ o.tag = r.tag)) } }
    else s
  let s := s.sendTfpIn (answerTfp s 0x04 h { status := t.status, byteCount := t.byteCount % 8192, lowerAddr := t.lowerAddr, lenDw := t.lenDw % 1024,
                                             cplRid := t.cplRid } t.data t.ep) port (cplColour s port t)
  match x with
  | some i => if last then s.freeTag i else s
  | none => s

/-- The request a completion that arrives at port `n` belongs to. -/
def npOf (s : State) (n : Nat) (t : Tlp) : Option NpRec := s.core.out.find? (fun r => r.port = n && r.rid = t.dest && r.tag = t.tag)

/-- IN_COMPLETION_RECEIVE: a completion that arrives at a target port for an IN entry. A completion under an older insertion serial is
discarded at R18. -/
def execInCompletionReceive (port : Fin 96) (t : Tlp) (s : State) : Res :=
  .next (match npOf s port t with
    | some r => match r.origin with
      | .bridged h _ x _ => if r.serial = serialOf s port then s.returnCpl port r t h x
        else (s.when (cplLast t) (fun s =>
          let s := { s with core := { s.core with out := s.core.out.filter (fun o => ¬ (o.port = r.port ∧ o.rid = r.rid ∧ o.tag = r.tag)) } }
          match x with
          | some i => s.freeTag i
          | none => s)).count port 24 1
      | _ => s
    | none => s)

/-! ### Answers at the origin (R320, R321, R326 to R328) -/

/-- A late answer: counted, and recorded when it carries an error (R328, R329). -/
def State.lateAnswer (s : State) (p : Tfp) (a : AnsBody) : State :=
  let s := s.addSat BRG.LATE_LATE_RSP 1
  if a.status = 0 then s
  else
    let s := if s.flag BRG.LATE_REC_VALID then s
      else s.wr BRG.LATE_REC (BitVec.ofNat 32 (1 + 2 * (a.status % 8) + 16 * (a.cause % 16) + 256 * (p.hdr.srcDev % 2048)))
    s.dropEvent

/-- Whether a packet still wants an entry, a tag or its release at the head of its non-posted lane (R320, R323). -/
def atHead (p : Pkt) : Bool := p.place = .tagWait || (p.place = .voq && p.need.isSome)

/-- What waits at the head of a non-posted lane tries again (R320, R323). -/
def State.retryWaiting (s : State) : State :=
  (s.core.pkts.filter atHead).foldl (fun s p => match s.pkt? p.id with
    | some q => if atHead q ∧ ¬ npAhead s q then s.tryEntry q else s
    | none => s) s

/-- The acknowledgement of an ACKED write: its entry is freed; a failure marks the fence (R320, R321). -/
def State.ackedEnds (s : State) (x : Nat) (e : TagEntry) (failed : Bool) (gen : Nat) : State :=
  let s := match e.window with
    | some w =>
      let s := if failed then s.fenceFail w e.rid gen else s
      s.set (Win.ACKED_OUT w) (s.get (Win.ACKED_OUT w) - 1)
    | none => s
  (s.freeTag x).retryWaiting

/-- An answer from bundle `b` to a non-posted request: delivered to the requester with the Requester ID and tag restored (R326), or sent on over the fabric
when the request had come from there. -/
def State.answerNp (s : State) (b x tc : Nat) (e : TagEntry) (a : AnsBody) (data : List Byte) (poison : Bool) : State :=
  let st := if a.status = 3 ∨ 5 ≤ a.status then 4 else a.status
  let t := { cplTlp e.rid e.tag st e.tc (completerOf s e) a.byteCount a.lowerAddr data with ep := poison }
  match e.rem with
  | some h =>
    let s := s.sendTfpIn (answerTfp s 0x04 h { a with status := st } data poison) (112 + b) (bundleColour s b h.colour)
    if cplLast t then (s.freeTag x).retryWaiting else s
  | none => (s.deliverCpl x e t (112 + b) tc).retryWaiting

/-- An answer addressed to this device, of kind `k`. -/
def State.answerHere (s : State) (b : Nat) (p : Tfp) : State :=
  match p.body with
  | .ans a data =>
    if targetMode s then s.count (96 + b) 27 1
    else match s.tag? p.hdr.xid with
      | none => s.lateAnswer p a
      | some e =>
        if ¬ e.isOut ∨ e.xidGen ≠ p.hdr.xidGen ∨ e.answered then s.lateAnswer p a
        else if p.hdr.kind = 0x07 then
          (if e.acked then s.ackedEnds p.hdr.xid e true p.hdr.gen else s.answerNp b p.hdr.xid p.hdr.tc e { a with status := 4 } [] false)
        else if p.hdr.kind = 0x05 ∧ e.acked then s.ackedEnds p.hdr.xid e (a.status ≠ 0) p.hdr.gen
        else if p.hdr.kind = 0x04 ∧ ¬ e.acked then s.answerNp b p.hdr.xid p.hdr.tc e a data p.hdr.poison
        else s.lateAnswer p a
  | _ => s.reservedKind b

/-- An answer row. -/
def State.answerReceive (s : State) (b : Nat) (p : Tfp) (kind : Nat) : State :=
  if p.hdr.kind = kind then s.receive b p (fun p s => s.answerHere b p) else (s.takeRx b p).reservedKind b

/-- BR_CPL_RECEIVE. -/
def execBrCplReceive (b : Fin 4) (p : Tfp) (s : State) : Res := .next (s.answerReceive b p 0x04)

/-- BR_WACK_RECEIVE. -/
def execBrWackReceive (b : Fin 4) (p : Tfp) (s : State) : Res := .next (s.answerReceive b p 0x05)

/-- BR_END_RECEIVE. -/
def execBrEndReceive (b : Fin 4) (p : Tfp) (s : State) : Res := .next (s.answerReceive b p 0x07)

/-- BR_RWF_RECEIVE: the failed writes of a window are counted and recorded for its partition (R322). -/
def execBrRwfReceive (b : Fin 4) (p : Tfp) (s : State) : Res :=
  .next (if p.hdr.kind = 0x06 then
    s.receive b p (fun p s => match p.body with
      | .notice n =>
        if targetMode s then (s.count (96 + b) 27 1).addSat BRG.LATE_NOTICE_LOST 1
        else if n.window < 2047 then s.rwfRecord n.window n.cause n.count p.hdr.srcDev n.addr p.hdr.gen
        else s
      | _ => s.reservedKind b)
   else (s.takeRx b p).reservedKind b)

/-! ### The tag table, notices and the fence (R321 to R323, R329) -/

/-- TAG_WAIT_RELEASE. -/
def execTagWaitRelease (pkt : Nat) (s : State) : Res :=
  .next (match s.pkt? pkt with
    | some p => if atHead p ∧ ¬ npAhead s p then s.tryEntry p else s
    | none => s)

/-- RWF_NOTICE_SEND: the 10 µs of an accumulator are over: a count it has gathered goes out and opens another 10 µs, else it is free (R322). -/
def execRwfNoticeSend (dev window : Nat) (s : State) : Res :=
  .next (match s.brg.notices.find? (fun a => a.dev = dev ∧ a.window = window) with
    | some a =>
      if s.adv < a.due then s
      else if a.count = 0 then { s with brg := { s.brg with notices := s.brg.notices.filter (fun c => ¬ (c.dev = dev ∧ c.window = window)) } }
      else
        let s := { s with brg := { s.brg with notices := s.brg.notices.map (fun (c : NoticeAcc) =>
          if c.dev = dev ∧ c.window = window then NoticeAcc.mk dev window 0 0 0 (s.adv + usFt 10) else c) } }
        s.sendTfp (noticeTfp s { kind := 0x01, srcDev := dev, window := window, srcPort := 120, dstPort := 120, colour := 0xFFF } a.cause a.count a.addr)
          120 .none_
    | none => s)

/-- A read of `BRG.FENCE[w]`: the snapshot of the window's partition takes the requesters, then the fence clears (R321). -/
def State.readFence (s : State) (w : Nat) : State :=
  let p := s.get (Win.PART w)
  let l := SMap.get (fun _ => []) s.brg.fences w
  let s := s.wr (BRG.FENCE_SNAP_INFO p) (BitVec.ofNat 32 (w + 2048 * l.length + 2 ^ 15 * s.get (BRG.FENCE_ALL w) + 2 ^ 16))
  let r := fun (i : Nat) => (l[i]?).getD 0 % 65536
  let s := (List.range 4).foldl (fun s k => s.wr (BRG.FENCE_SNAP_RID p k) (BitVec.ofNat 32 (r (2 * k) + 65536 * r (2 * k + 1)))) s
  { s.wr (BRG.FENCE w) 0 with brg := { s.brg with fences := SMap.set (fun _ => []) s.brg.fences w [] } }

/-- An OUT entry ends with Completer Abort: an ACKED write marks its fence. -/
def State.abortEntry (s : State) (x : Nat) : State :=
  match s.tag? x with
  | some e =>
    if ¬ e.isOut ∨ e.answered then s
    else if e.acked then s.ackedEnds x e true 0
    else ((s.freeTag x).failEntry e 0 4 0).retryWaiting
  | none => s

/-- What a write of `BRG.TAG_CTRL` does: IN_RESERVE and RECLAIM_DEVID, and RECLAIM (R329, R335). The reclaim ends its entries at once and is
done within 50 µs. -/
def State.actTagCtrl (s : State) (val : Word) : State :=
  let r := fieldOf val 0 14
  if r < 1024 ∨ 8192 < r then s.set BRG.STATUS_REASON 0x83
  else if bitOf val.toNat 14 ∧ s.flag BRG.STATUS_RECLAIM_BUSY then s.set BRG.STATUS_REASON 0x86
  else
    let s := (s.wr BRG.TAG_CTRL (val &&& 0x07FF3FFF)).set BRG.STATUS_REASON 0
    if bitOf val.toNat 14 then
      let s := (s.set BRG.STATUS_RECLAIM_BUSY 1)
      let d := fieldOf val 16 11
      (s.brg.tags.filter (fun e => match e.2 with
        | some g => g.isOut && (g.window.isSome || g.bind.isNone) && g.dev = d
        | none => false)).foldl (fun s e => s.abortEntry e.1) s
    else s

/-- TAG_RECLAIM. -/
def execTagReclaim (path : Path) (s : State) : Res :=
  .next (s.writing path BRG.TAG_CTRL (strobe s BRG.TAG_CTRL_RECLAIM 0x7FF3FFF) (fun s =>
    if s.mode < 3 then s.set BRG.STATUS_REASON 0x16 else s.actTagCtrl (strobe s BRG.TAG_CTRL_RECLAIM 0x7FF3FFF)))

/-- TAG_RECLAIM_DONE: within 50 µs of the reclaim. -/
def execTagReclaimDone (s : State) : Res :=
  .next (if s.flag BRG.STATUS_RECLAIM_BUSY then
    s.set BRG.STATUS_RECLAIM_BUSY 0
   else s)

/-! ### Slot sidebands (R330, R331) -/

/-- A sideband packet. -/
def sbTfp (s : State) (kind dev port : Nat) (b : SbBody) : Tfp :=
  ⟨{ kind := kind, dstDev := dev, srcDev := ownDev s, dstPort := port, srcPort := 120, colour := 0xFFF }, .sideband b⟩

/-- The valid entries of `BRG.SB_WATCH`. -/
def watched (s : State) : List Nat := (List.range 64).filter (fun i => s.flag (BRG.SB_WATCH_CFG_VALID i))

/-- One entry of a poll: an answer still awaited is a miss, and MISS_LIMIT of them in a row make the entry stale; then the poll goes out. -/
def State.pollOne (s : State) (q i : Nat) : State :=
  let m := if s.brg.awaiting.contains i then SMap.get (fun _ => 0) s.brg.misses i + 1 else 0
  let limit := max 1 (s.get BRG.SB_CTRL_MISS_LIMIT)
  let s := { s with brg := { s.brg with misses := SMap.set (fun _ => 0) s.brg.misses i m,
                                        awaiting := if s.brg.awaiting.contains i then s.brg.awaiting else s.brg.awaiting ++ [i] } }
  let s := if limit ≤ m ∧ ¬ s.flag (BRG.SB_WATCH_CFG_STALE i) then (s.set (BRG.SB_WATCH_CFG_STALE i) 1).raiseFault 40 CE 0xFFFF else s
  let n := s.get (BRG.SB_WATCH_CFG_PORTID i)
  s.sendTfp (sbTfp s 0x08 (s.get (BRG.SB_WATCH_CFG_DEVID i)) n ⟨n, q, 0⟩) 120 .none_

/-- SB_POLL_SEND: at a firing of the sideband alarm while polling is on. -/
def execSbPollSend (s : State) : Res :=
  .next (if s.brg.pollDue then
    let q := (s.brg.pollSeq + 1) % 65536
    let s := { s with brg := { s.brg with pollDue := false } }
    if s.flag BRG.SB_CTRL_ENABLE ∧ 3 ≤ s.mode ∧ s.mode ≠ 7 then
      (watched s).foldl (fun s i => s.pollOne q i) { s with brg := { s.brg with pollSeq := q } }
    else s
   else s)

/-- The slot channel that powers port `n`. -/
def slotOf (s : State) (n : Nat) : Option Nat := if n < 96 ∧ s.get (PORT.CFG_SLOT n) < 16 then some (s.get (PORT.CFG_SLOT n)) else none

/-- Bits [40:12] of the sideband body for port `n` (R330). Without a slot channel presence is that of the link. -/
def sbState (s : State) (n : Nat) : Nat :=
  let present := match slotOf s n with
    | some c => s.get (SLOT.STATUS_PRESENT c)
    | none => bit (linkUp s n)
  let st := match slotOf s n with
    | some c => s.get (SLOT.STATUS_STATE c)
    | none => 0xF
  serialOf s n % 65536 + 2 ^ 16 * s.get (PORT.STATUS_SHED n) + 2 ^ 17 * s.get (PORT.STATUS_DRAIN_STATE n) + 2 ^ 19 * st +
    2 ^ 23 * bit (s.brg.attnPorts.contains n) + 2 ^ 24 + 2 ^ 25 * bit (s.brg.wakePorts.contains n) + 2 ^ 26 * bit (s.paux n).perstLow +
    2 ^ 27 * bit (linkUp s n) + 2 ^ 28 * present

/-- SB_POLL_RECEIVE: the answer is taken in the cycle of arrival; what was latched for the port is answered with it. -/
def execSbPollReceive (b : Fin 4) (p : Tfp) (s : State) : Res :=
  .next (match p.body with
    | .sideband q =>
      if p.hdr.kind = 0x08 then
        s.receive b p (fun p s =>
          if targetMode s ∨ 96 ≤ q.port then s
          else
            let v := sbState s q.port
            let s := { s with brg := { s.brg with wakePorts := s.brg.wakePorts.filter (· ≠ q.port), attnPorts := s.brg.attnPorts.filter (· ≠ q.port) } }
            s.sendTfp (sbTfp s 0x09 p.hdr.srcDev p.hdr.srcPort ⟨q.port, q.seq, v⟩) (112 + b.val) .none_)
      else (s.takeRx b p).reservedKind b
    | _ => (s.takeRx b p).reservedKind b)

/-- One entry takes an answer: a change raises its vector; the entry is not stale (R331). -/
def State.sbAnswer (s : State) (i v : Nat) : State :=
  let s := { s with brg := { s.brg with misses := SMap.set (fun _ => 0) s.brg.misses i 0, awaiting := s.brg.awaiting.filter (· ≠ i) } }
  let s := s.set (BRG.SB_WATCH_CFG_STALE i) 0
  if s.get (BRG.SB_WATCH_STATE_STATE i) = v % 2 ^ 29 then s
  else (s.set (BRG.SB_WATCH_STATE_STATE i) v).raiseVector (s.get (BRG.SB_WATCH_CFG_PART i)) (s.get (BRG.SB_WATCH_CFG_VECTOR i))

/-- SB_STATE_RECEIVE. -/
def execSbStateReceive (b : Fin 4) (p : Tfp) (s : State) : Res :=
  .next (match p.body with
    | .sideband q =>
      if p.hdr.kind = 0x09 then
        s.receive b p (fun p s =>
          if targetMode s then s
          else ((watched s).filter (fun i => s.get (BRG.SB_WATCH_CFG_DEVID i) = p.hdr.srcDev ∧ s.get (BRG.SB_WATCH_CFG_PORTID i) = q.port)).foldl
            (fun s i => s.sbAnswer i q.state) s)
      else (s.takeRx b p).reservedKind b
    | _ => (s.takeRx b p).reservedKind b)

/-! ### Table errors (R333) -/

/-- A tag entry ends with Completer Abort: of an IN entry, the request it issued ends, queued or outstanding. -/
def State.tagLost (s : State) (x : Nat) : State :=
  match s.tag? x with
  | none => s
  | some e =>
    if e.isOut then s.abortEntry x
    else
      let mine : Origin → Bool := fun o => match o with
        | .bridged _ _ i _ => decide (i = some x)
        | _ => false
      let s := (s.core.pkts.filter (fun p => mine p.origin && p.kind = 1)).foldl (fun s p => (s.dropPkt p.id)) s
      let s := { s with core := { s.core with
          ended := s.core.ended ++ (s.core.out.filter (fun (r : NpRec) => mine r.origin)).map (fun (r : NpRec) => EndedRec.mk r.port r.rid r.tag),
          out := s.core.out.filter (fun r => ¬ mine r.origin) } }
      match e.rem with
      | some h => s.failNp (.bridged h false (some x) 0) 0 0 0 0 4 0
      | none => s.freeTag x

/-- BRIDGE_ECC_ERROR. -/
def execBridgeEccError (what : BridgeEcc) (double : Bool) (s : State) : Res :=
  .next (if double then
    let s := s.set BRG.STATUS_ECC_UE 1
    let s := match what with
      | .tag x => s.tagLost x
      | .route d => { s with brg := { s.brg with deadRoute := if s.brg.deadRoute.contains d.val then s.brg.deadRoute else s.brg.deadRoute ++ [d.val] } }
      | .window w => { s with brg := { s.brg with deadWin := if s.brg.deadWin.contains w.val then s.brg.deadWin else s.brg.deadWin ++ [w.val] } }
    s.raiseFault 40 UC 0xFFFF
  else (s.set BRG.STATUS_ECC_CE 1).raiseFault 40 CE 0xFFFF)

/-! ### Bundle drains (R384, R391) -/

/-- A bundle's drain ends: 0 early, 1 deadline, 2 link loss, 3 reopened (R384). -/
def State.bundleDrainEnds (s : State) (b how np other : Nat) : State :=
  let s := s.set (BRG.BUNDLE_DRAIN_STATUS_STATE b) (if how = 3 then 0 else 2)
  let s := { s with brg := { s.brg with drainDl := SMap.set (fun _ => none) s.brg.drainDl b none } }
  s.post (Src.bundle b) { type := .drainEnd, inst := 112 + b, aux := np * 65536 + other, payload := [how] }

/-- A bundle's drain starts: its deadline is sampled. -/
def State.bundleDrainStarts (s : State) (b cause : Nat) : State :=
  let us := min 1000000 (max 1 (s.get (BRG.BUNDLE_DRAIN_DEADLINE_DEADLINE_US b)))
  let s := s.set (BRG.BUNDLE_DRAIN_STATUS_STATE b) 1
  let own := s.brg.ownDrains.filter (· ≠ b) ++ (if s.flag (BRG.BUNDLE_DRAIN_STATUS_RESERVED_SW b) then [b] else [])
  let s := { s with brg := { s.brg with drainDl := SMap.set (fun _ => none) s.brg.drainDl b (some (s.adv + usFt us)), ownDrains := own } }
  s.post (Src.bundle b) { type := .drainStart, inst := 112 + b, payload := [cause, us] }

/-- A refused write of a bundle's drain registers. -/
def State.bundleDrainRefused (s : State) (b code : Nat) : State :=
  (s.set (BRG.BUNDLE_DRAIN_STATUS_REASON b) code).post (Src.bundle b) { type := .drainRefused, inst := 112 + b, payload := [code] }

/-- What a write of `BRG.BUNDLE_DRAIN[b].CTRL` does (R308, R384, R388). -/
def State.actBundleDrain (s : State) (b : Nat) (val : Word) : State :=
  let st := s.get (BRG.BUNDLE_DRAIN_STATUS_STATE b)
  let drain := bitOf val.toNat 0
  let reopen := bitOf val.toNat 1
  if s.mode < 3 ∨ (s.flag (BRG.BUNDLE_DRAIN_STATUS_SHED b) ∧ (drain ∨ reopen)) then s.bundleDrainRefused b 0x16
  else if (s.flag (BRG.BUNDLE_DRAIN_STATUS_RESERVED_SW b) ∧ (drain ∨ reopen)) ∨ (drain ∧ (st = 1 ∨ st = 2)) then s.bundleDrainRefused b 0x1A
  else
    let s := s.set (BRG.BUNDLE_DRAIN_STATUS_REASON b) 0
    let s := if drain ∧ st = 0 then s.bundleDrainStarts b 0 else s
    if reopen ∧ (s.get (BRG.BUNDLE_DRAIN_STATUS_STATE b) = 1 ∨ st = 2) ∧ ¬ drain then s.bundleDrainEnds b 3 0 0 else s

/-- BUNDLE_DRAIN. -/
def execBundleDrain (path : Path) (b : Fin 4) (s : State) : Res :=
  .next (s.writing path (BRG.BUNDLE_DRAIN_CTRL b) (strobe s (BRG.BUNDLE_DRAIN_CTRL_DRAIN b) 0) (fun s => s.actBundleDrain b 1))

/-- BUNDLE_REOPEN. -/
def execBundleReopen (path : Path) (b : Fin 4) (s : State) : Res :=
  .next (s.writing path (BRG.BUNDLE_DRAIN_CTRL b) (strobe s (BRG.BUNDLE_DRAIN_CTRL_REOPEN b) 0) (fun s => s.actBundleDrain b 2))

/-- BUNDLE_DRAIN_COMPLETE: nothing is queued for the bundle and nothing unacknowledged. -/
def execBundleDrainComplete (b : Fin 4) (s : State) : Res :=
  .next (if s.get (BRG.BUNDLE_DRAIN_STATUS_STATE b) = 1 ∧ ¬ s.core.pkts.any (queuedFor (112 + b.val)) ∧ (s.link b).store = [] then s.bundleDrainEnds b 0 0 0
   else s)

/-- The deadline of a bundle's drain: what is still queued ends, and is counted (R384). -/
def State.bundleDrainExpires (s : State) (b : Nat) : State :=
  let q := countNp s (queuedFor (112 + b))
  let s := s.endAll (queuedFor (112 + b)) .deadline (96 + b)
  let s := (s.addSat (BRG.BUNDLE_DRAIN_STATS_NP_ABORTED b) q.1).addSat (BRG.BUNDLE_DRAIN_STATS_P_DISCARDED b) q.2
  s.bundleDrainEnds b 1 q.1 q.2

/-- BUNDLE_DRAIN_DEADLINE. -/
def execBundleDrainDeadline (b : Fin 4) (s : State) : Res :=
  .next (if s.get (BRG.BUNDLE_DRAIN_STATUS_STATE b) = 1 ∧ s.due (SMap.get (fun _ => none) s.brg.drainDl b) then s.bundleDrainExpires b else s)

end Sys2Proof.Machine
end

