-- ==== Sys2Proof/Machine/Faults.lean ====
section
/-! DEFINITION. The fault collector's commands (R419 to R435): events, clearing, re-arming, injection, and the shed commands of partitions and
bundles (R428). -/
namespace Sys2Proof.Machine
open Sys2Proof

/-- The partition that owns what a fault event reports: the ring or connection of source 41, the connection of source 42, the partition of source
49 (R424). -/
def ownerOf (s : State) (src inst : Nat) : Option Nat :=
  if src = 41 then (if inst < 64 ∧ s.flag (RMA.RING_OWNER_VALID inst) then some (s.get (RMA.RING_OWNER_PART inst)) else none)
  else if src = 42 then (if inst < 1024 then some (s.get (ConnW.PART inst)) else none)
  else none

/-- FAULT_EVENT: a block reports an event of class CE, UC or FATAL; 3 is treated as FATAL (R419 to R422). -/
def execFaultEvent (src : Fin 64) (cls : Fin 4) (inst : Nat) (s : State) : Res :=
  .next (s.raiseFaultFor src (min 2 cls) (inst % 2 ^ 16) (ownerOf s src (inst % 2 ^ 16)))

/-- Whether a source's status bit holds a FATAL capture that only a reset clears (R431). -/
def stuckFatal (s : State) (src : Nat) : Bool := (src = 36 || src = 37 || src = 52) && s.get (FLT.SRC_STAT_LATCHED src) = 3

/-- What a write of ones to the status word does (R431): the bits clear, LATCHED returns to 0, and FAULT_CLEAR carries the bits cleared, with the
STAT register of the first source cleared in AUX (R439). -/
def State.actStatusClear (s : State) (mask : Nat) : State :=
  let cleared := (List.range 64).filter (fun k => mask.testBit k && s.flag (statusBit k) && !stuckFatal s k)
  if cleared = [] then s
  else
    let bits := cleared.foldl (fun (m : Nat) k => m + 2 ^ k) 0
    let stat := (s.rd (FLT.SRC_STAT (cleared.headD 0))).toNat
    let s := cleared.foldl (fun (s : State) k => (s.set (statusBit k) 0).set (FLT.SRC_STAT_LATCHED k) 0) s
    let s := { s with flt := { s.flt with sheds := s.flt.sheds.filter (fun e => !cleared.contains e.1) } }
    s.post Src.collector { type := .faultClear, src := cleared.headD 0, aux := stat, payload := [bits % 2 ^ 32, bits / 2 ^ 32] }

/-- FAULT_STATUS_CLEAR: a write of `FLT.STATUS_LO` and of `FLT.STATUS_HI` with the mask's halves. -/
def execFaultStatusClear (path : Path) (mask : BitVec 64) (s : State) : Res :=
  let lo := mask.toNat % 2 ^ 32
  let hi := mask.toNat / 2 ^ 32
  let s := s.when (decide (lo ≠ 0)) (fun s => s.writing path FLT.STATUS_LO (BitVec.ofNat 32 lo) (fun s => s.actStatusClear lo))
  .next (s.when (decide (hi ≠ 0)) (fun s => s.writing path FLT.STATUS_HI (BitVec.ofNat 32 hi) (fun s => s.actStatusClear (2 ^ 32 * hi))))

/-- FIRST_REARM: writing 1 to VALID re-arms FIRST for the next capture (R432). -/
def execFirstRearm (path : Path) (s : State) : Res :=
  .next (s.writing path FLT.FIRST 1 (fun s => s.set FLT.FIRST_VALID 0))

/-- A write of `FLT.INJECT` (R433): GO needs the privileged-register-write class, also of the MSP. CLASS 0 is ignored at GO. One whose INSTANCE is a
reserved PortID is refused (R13): it changes nothing, and no register of the block has a REASON for it (log entry 113). -/
def State.actInject (s : State) (path : Path) (val : Word) : State :=
  if fieldOf val 8 16 < 128 ∧ reservedPort (fieldOf val 8 16) then s
  else
  let s := s.wr FLT.INJECT (val &&& 0x00FFFFFF)
  if ¬ bitOf val.toNat 31 then s
  else if ¬ hasClass s path 0 then s.privRefused path FLT.INJECT val.toNat
  else if s.get FLT.INJECT_CLASS = 0 then s
  else s.raiseFaultFor 63 (s.get FLT.INJECT_CLASS - 1) (s.get FLT.INJECT_INSTANCE)
    (if s.flag FLT.INJECT_PART_VALID then some (s.get FLT.INJECT_PART) else none)

/-- FAULT_INJECT. -/
def execFaultInject (path : Path) (s : State) : Res :=
  .next (s.writing path FLT.INJECT (strobe s FLT.INJECT_GO 0xFFFFFF) (fun s => s.actInject path (strobe s FLT.INJECT_GO 0xFFFFFF)))

/-- What `FLT.SHED_CMD` names. -/
def shedTarget (s : State) : Option ShedTarget :=
  if s.get FLT.SHED_CMD_KIND = 0 then some (.part (s.get FLT.SHED_CMD_TARGET))
  else if s.get FLT.SHED_CMD_TARGET < 4 then some (.bundle (s.get FLT.SHED_CMD_TARGET)) else none

/-- Release a partition (R428): a port whose shed no latched capture holds leaves it under R142. -/
def State.unshedPart (s : State) (p : Nat) : State :=
  let s := s.wr FLT.SHED_PART (s.rd FLT.SHED_PART &&& ~~~(1 <<< p : Word))
  let s := (partPorts s p).foldl (fun (s : State) n =>
    if s.flag (PORT.STATUS_SHED n) ∧ ¬ faultHolds s n then
      (s.setPaux n { s.paux n with collector := false }).leaveShed n 2
    else s) s
  s.post Src.collector { type := .unshed, inst := p, payload := [2] }

/-- Release a bundle (R428). -/
def State.unshedBundle (s : State) (b : Nat) : State :=
  let s := s.set (BRG.BUNDLE_DRAIN_STATUS_SHED b) 0
  let s := s.wr FLT.SHED_BUNDLE (s.rd FLT.SHED_BUNDLE &&& ~~~(1 <<< b : Word))
  s.post (Src.bundle b) { type := .unshed, inst := 112 + b, payload := [2] }

/-- A write of `FLT.SHED_CMD` (R428, R434): SHED acts at once; UNSHED is refused with FAULT_LATCHED while a latched capture holds the target shed, and
when SHED is written with it. -/
def State.actShedCmd (s : State) (val : Word) : State :=
  let s := s.wr FLT.SHED_CMD ((s.rd FLT.SHED_CMD &&& 0xFF00) ||| (val &&& 0x3F))
  match shedTarget s with
  | none => s
  | some t =>
    let shed := bitOf val.toNat 6
    let unshed := bitOf val.toNat 7
    let s := if shed then
        (match t with
         | .part p => s.shedPart p 2
         | .bundle b => s.shedBundle b 2
         | .port n => s.shedPort n false 2).set FLT.SHED_CMD_REASON 0
      else s
    if ¬ unshed then s
    else if shed ∨ s.flt.sheds.any (fun e => e.2 = t) then
      (s.set FLT.SHED_CMD_REASON 0x45).post Src.collector
        { type := .unshedRefused, inst := s.get FLT.SHED_CMD_TARGET + 112 * s.get FLT.SHED_CMD_KIND, payload := [s.get FLT.SHED_CMD_KIND, 0x45] }
    else
      (match t with
       | .part p => s.unshedPart p
       | .bundle b => s.unshedBundle b
       | .port _ => s).set FLT.SHED_CMD_REASON 0

/-- SHED_CMD_SHED. -/
def execShedCmdShed (path : Path) (s : State) : Res :=
  .next (s.writing path FLT.SHED_CMD (strobe s FLT.SHED_CMD_SHED 0x3F) (fun s => s.actShedCmd (strobe s FLT.SHED_CMD_SHED 0x3F)))

/-- SHED_CMD_UNSHED. -/
def execShedCmdUnshed (path : Path) (s : State) : Res :=
  .next (s.writing path FLT.SHED_CMD (strobe s FLT.SHED_CMD_UNSHED 0x3F) (fun s => s.actShedCmd (strobe s FLT.SHED_CMD_UNSHED 0x3F)))

end Sys2Proof.Machine
end

