-- ==== Sys2Proof/Machine/Flash.lean ====
section
/-! DEFINITION. The flash window (R44, R85, R91): programming through it, erasing a block, what is protected, and the end of an operation. -/
namespace Sys2Proof.Machine
open Sys2Proof

/-- The region a flash address lies in (R44): 0 slot A, 1 slot B, 2 the recovery image, 3 a boot pointer, 4 elsewhere. -/
def flashRegion (a : Nat) : Nat :=
  if a < 0x20000 then 3
  else if 0x100000 ≤ a ∧ a < 0x300000 then 2
  else if 0x400000 ≤ a ∧ a < 0xC00000 then 0
  else if 0xC00000 ≤ a ∧ a < 0x1400000 then 1
  else 4

/-- RECOVERY_WRITABLE of the active image (R48). -/
def recoveryWritable (s : State) : Bool :=
  match s.img.active with
  | some i => i.flags.testBit 1
  | none => false

/-- Whether an erase or program at an address is ignored (R85). -/
def flashProtected (s : State) (a : Nat) : Bool :=
  let r := flashRegion a
  let st := s.get IMG.STATUS_STAGE_STATE
  r = 3 || (decide (r < 2) && decide (r = s.get IMG.STATUS_ACTIVE_SLOT)) || (r = 2 && s.mode ≠ 0 && !recoveryWritable s) ||
    (decide (r < 2) && decide (r = inactiveSlot s) && (st = 1 || st = 4 || st = 5))

/-- An ignored erase or program at an address: counted, SEALED in `IMG.STATUS`.REASON, and journaled (R85). R85 names no counter: index 1 of page 138 is
the model's, DESIGN CHOICE (log entry 21). -/
def State.flashRefused (s : State) (a : Nat) : State :=
  ((s.set IMG.STATUS_REASON 0x17).count 138 1 1).imgEvent .flashRefused (s.rd IMG.ACTIVE_VERSION).toNat (flashRegion a) 0x17 (activeHash s)

/-- A verified inactive slot that is written to is EMPTY again (R85); CLASS shows 3, none, DESIGN CHOICE: R85 does not say what it shows (log entry 80). -/
def State.unverify (s : State) (a : Nat) : State :=
  if flashRegion a = inactiveSlot s ∧ s.get IMG.STATUS_STAGE_STATE = 2 then
    (({ s with img := { s.img with staged := none } }).set IMG.STATUS_STAGE_STATE 0).set IMG.STATUS_CLASS 3
  else s

/-- Start an erase or program. -/
def State.startFlash (s : State) (op : FlashOp) : State := ({ s with img := { s.img with flashOp := some op } }).set IMG.FLASH_CTRL_BUSY 1

/-- Program the page that is buffered, if any. -/
def State.flushPage (s : State) : State :=
  match s.img.page with
  | some (a, bs) => State.startFlash { s with img := { s.img with page := none } } (.program a bs)
  | none => s

/-- A window write enters the buffer of its 256-byte page. A page programs once all its bytes are written, or when another page, an erase or a STAGE
needs the buffer or the flash (R85; log entry 80). -/
def State.bufferWrite (s : State) (a : Nat) (bs : List Byte) : State :=
  let base := a / 256 * 256
  let s := match s.img.page with
    | some (b, _) => if b = base then s else s.flushPage
    | none => s
  let old : SMap Byte := match s.img.page with
    | some (_, m) => m
    | none => []
  let new := (numbered bs).foldl (fun (m : SMap Byte) (e : Nat × Byte) => SMap.put (SMap.drop m (a - base + e.1)) (a - base + e.1) e.2) old
  let s := { s with img := { s.img with page := some (base, new) } }
  if new.length = 256 ∧ s.img.flashOp.isNone then s.flushPage else s

/-- One access at a flash that is not busy; an erase behind a buffered page waits until that is programmed. -/
def State.takeFlash (s : State) : FlashOp → State
  | .write a bs => s.bufferWrite a bs
  | .flush => s.flushPage
  | .erase a =>
    if s.img.page.isSome then { s.flushPage with img := { s.flushPage.img with flashWait := [.erase a] } } else s.startFlash (.erase a)
  | .program a bs => s.startFlash (.program a bs)

/-- The accesses that waited proceed, until one makes the flash busy. -/
def State.nextFlash : List FlashOp → State → State
  | [], s => s
  | op :: ops, s =>
    let s := s.takeFlash op
    if s.img.flashOp.isSome then { s with img := { s.img with flashWait := s.img.flashWait ++ ops } } else State.nextFlash ops s

/-- An access asked for: it waits while the flash is busy (R91). -/
def State.askFlash (s : State) (op : FlashOp) : State :=
  if s.img.flashOp.isSome then { s with img := { s.img with flashWait := s.img.flashWait ++ [op] } } else s.takeFlash op

/-- The flash address of dword `k` of the window (R85). -/
def windowAddr (s : State) (k : Nat) : Nat := s.get IMG.FLASH_CTRL_BASE * 2 ^ 17 + 4 * k

/-- A write or an erase at an address is ignored where R85 protects it, else asked of the flash. -/
def State.changeFlash (s : State) (a : Nat) (op : FlashOp) : State := if flashProtected s a then s.flashRefused a else (s.unverify a).askFlash op

/-- A write into the flash window: its four bytes (R6, R85). -/
def State.actFlashWrite (s : State) (k : Nat) (val : Word) : State := s.changeFlash (windowAddr s k) (.write (windowAddr s k) (leBytes 4 val.toNat))

/-- Whether an operation is an erase. -/
def FlashOp.isErase : FlashOp → Bool
  | .erase _ => true
  | .write _ _ | .program _ _ | .flush => false

/-- Whether an erase runs or waits: ERASE reads 1, and written again it has no further effect (R9, R519). -/
def erasePending (s : State) : Bool := s.img.flashOp.any FlashOp.isErase || s.img.flashWait.any FlashOp.isErase

/-- A write of `IMG.FLASH_CTRL`: BASE and ERASE_HALF, then ERASE of the half they select (R85). -/
def State.actFlashCtrl (s : State) (val : Word) : State :=
  let s := (s.set IMG.FLASH_CTRL_BASE (fieldOf val 17 9)).set IMG.FLASH_CTRL_ERASE_HALF (fieldOf val 16 1)
  let a := windowAddr s 0 + 0x10000 * s.get IMG.FLASH_CTRL_ERASE_HALF
  if fieldOf val 28 1 = 1 ∧ ¬ erasePending s then s.changeFlash a (.erase a) else s

/-- FLASH_WINDOW_WRITE. -/
def execFlashWindowWrite (path : Path) (off : Fin 32768) (val : Word) (s : State) : Res :=
  .next (s.writing path (0x60000 + 4 * off.val) val (fun s => s.actFlashWrite off val))

/-- FLASH_ERASE: a write that sets ERASE and leaves the register's other fields. -/
def execFlashErase (path : Path) (s : State) : Res :=
  .next (s.writing path IMG.FLASH_CTRL (strobe s IMG.FLASH_CTRL_ERASE 0x3FF0000) (fun s => s.actFlashCtrl (strobe s IMG.FLASH_CTRL_ERASE 0x3FF0000)))

/-- Program one byte: an erased one takes the value; what one that holds another value becomes is open (log entry 4). -/
def State.programByte (s : State) (a : Nat) (b : Byte) : State :=
  if flashByte s a = 0xFF ∨ flashByte s a = b then { s with img := { s.img with flash := SMap.set (fun _ => 0xFF) s.img.flash a b } }
  else
    let (v, s) := s.fresh
    { s with img := { s.img with flash := SMap.set (fun _ => 0xFF) s.img.flash a (BitVec.ofNat 8 v) } }

/-- Carry out the operation in progress. -/
def State.flashDone (s : State) : State :=
  match s.img.flashOp with
  | none => s
  | some op =>
    let s := { s with img := { s.img with flashOp := none } }
    let s := match op with
      | .erase a => { s with img := { s.img with flash := SMap.keep (fun x => ¬ (a ≤ x ∧ x < a + 0x10000)) s.img.flash } }
      | .program a bs => bs.foldl (fun (s : State) (e : Nat × Byte) => s.programByte (a + e.1) e.2) s
      | .write _ _ | .flush => s
    s.set IMG.FLASH_CTRL_BUSY 0

/-- FLASH_OP_DONE: what waited goes on. -/
def execFlashOpDone (s : State) : Res :=
  .next (if s.img.flashOp.isSome then
      let t := s.flashDone
      State.nextFlash t.img.flashWait { t with img := { t.img with flashWait := [] } }
    else s)

end Sys2Proof.Machine
end

