-- ==== Sys2Proof/Machine/Rma.lean ====
section
/-! DEFINITION. Remote memory access (R337 to R372): rings and descriptors, segments, memory keys, connections, crypto keys, packets, timers
and table errors. -/
namespace Sys2Proof.Machine
open Sys2Proof

/-! ### The engine as a PCIe master (R337, R338, R343) -/

/-- Whether the engine carries RMA traffic (R337). -/
def rmaCarries (s : State) : Bool := (s.mode = 3 || s.mode = 4 || s.mode = 6) && s.flag GLB.DEVID_VALID

/-- Cut a range at multiples of `step`; `fuel` bounds the pieces. -/
def cutAt (step : Nat) : Nat → Nat → Nat → List (Nat × Nat)
  | 0, _, _ => []
  | fuel + 1, addr, len =>
    if len = 0 then [] else
      let n := min len (step - addr % step)
      (addr, n) :: cutAt step fuel (addr + n) (len - n)

/-- A memory request for the bytes from `addr`: its DWORD address, length and byte enables. -/
def memTlp (kind : TlpKind) (addr len rid tc : Nat) (ro : Bool) (pasid : Option Pasid) (data : List Byte) : Tlp :=
  let lead := addr % 4
  let total := lead + len
  let dws := max 1 (ceilDiv total 4)
  let mask := fun (lo hi : Nat) => (List.range 4).foldl (fun m i => if lo ≤ i ∧ i < hi then m + 2 ^ i else m) 0
  { kind := kind, addr := addr - lead, lenDw := dws, firstBe := if dws = 1 then mask lead total else mask lead 4,
    lastBe := if dws = 1 then 0 else mask 0 ((total - 1) % 4 + 1), rid := rid, tc := tc, ro := ro, pasid := pasid,
    data := if data = [] then [] else List.replicate lead 0 ++ data ++ List.replicate (4 * dws - total) 0 }

/-- A request of the engine as a packet toward a port. -/
def enginePkt (s : State) (t : Tlp) (n : Nat) (org : Origin) (lock : Bool) : Pkt :=
  { id := s.core.nextId, body := .tlp t, dest := xbarOf s n, egress := n, tc := t.tc, kind := tlpCls t, ro := t.ro, colour := 0xFFF,
    gens := reqStamp s false, sub := matchSub s 120 0xFFF t.tc (some t.addr), ingress := 120, cells := cellsOf (tlpBytes t),
    serial := serialOf s n, place := .voq, origin := org, lockPass := lock }

/-- Unit 101's check of an access (R338). -/
def State.engineGuard (s : State) (t : Tlp) : Option Bool × State :=
  s.guardCheck 101 0xFFF (needOf t) (decide (tlpCls t = 1)) (rangeOf t).1 (rangeOf t).2 t.rid

/-- Check every one of some writes; stops at the first refusal. Answers, unless one is refused, for each whether a LOCK region allowed it (R169, R241). -/
def State.guardAll (s : State) : List Tlp → Option (List Bool) × State
  | [] => (some [], s)
  | t :: ts => match s.engineGuard t with
    | (some lock, s) => match s.guardAll ts with
      | (some ls, s) => (some (lock :: ls), s)
      | (none, s) => (none, s)
    | (none, s) => (none, s)

/-- The address space of a ring: its PASID prefix or none (R339). -/
def ringPasid (s : State) (r : Nat) : Option Pasid :=
  if s.flag (RMA.RING_PASID_PV r) then some ⟨s.get (RMA.RING_PASID_PASID r), false, false⟩ else none

/-- Max Payload Size and Max Read Request Size of partition p's upstream port (R343, R348). -/
def upMps (s : State) (p : Nat) : Nat := max 128 (s.paux (upstreamOf s p)).mps
def upMrrs (s : State) (p : Nat) : Nat := 128 * 2 ^ min 5 (devCtl s (upFn p) / 4096 % 8)

/-- The tags of the engine and how many reads it may have outstanding (R343). -/
def rmaTags (s : State) : List Nat := if s.flag RMA.CTRL_TAG10 then (List.range 768).map (· + 256) else List.range 256

/-- Issue one wanted read, or leave it waiting for a tag (R343): the tag is one that is free, as the free value picks it. -/
def State.issueRead (s : State) (r : RmaRead) : State :=
  let wait := fun (s : State) => { s with rma := { s.rma with want := s.rma.want ++ [r] } }
  let pool := rmaTags s
  let used := s.rma.reads.map RmaRead.tag ++ tagsUsed s r.port r.rid
  let free := pool.filter (fun k => ¬ used.contains k)
  if pool.length ≤ s.rma.reads.length ∨ free = [] then wait s
  else
    let (v, s) := s.fresh
    let tag := (free[v % free.length]?).getD 0
    let t := { memTlp .memRd r.addr r.len r.rid r.tc r.ro r.pasid [] with tag := tag }
    match s.engineGuard t with
    | (none, s) => s.readLost r 2 0x06
    | (some lock, s) =>
      let s := { s with rma := { s.rma with reads := s.rma.reads ++ [{ r with tag := tag }] } }
      let s := s.set RMA.STATUS_READS_OUT s.rma.reads.length
      s.admitTo (enginePkt s t r.port (.rmaRead tag) lock)

/-- Issue the wanted reads for which there are tags. -/
def State.issueReads (s : State) : State :=
  let l := s.rma.want
  l.foldl (fun s r => s.issueRead r) { s with rma := { s.rma with want := [] } }

/-- Ask for reads. -/
def State.wantReads (s : State) (l : List RmaRead) : State := { s with rma := { s.rma with want := s.rma.want ++ l } }

/-! ### Rings and descriptors (R339 to R342) -/

/-- Entries of a ring. -/
def ringSize (s : State) (r : Nat) : Nat := 2 ^ s.get (RMA.RING_CTRL_SIZE_EXP r)

/-- The partition that owns a ring. -/
def ringPart (s : State) (r : Nat) : Nat := s.get (RMA.RING_OWNER_PART r)

/-- Ask for the next descriptor of a ring when its doorbell, its completion ring and the engine allow (R340). -/
def State.fetchNext (s : State) (r : Nat) : State :=
  let g := s.ring r
  let i := g.fetch % 65536
  let busy := (s.rma.want ++ s.rma.reads).any (fun x => x.what = 0 && x.ring = r)
  if s.flag (RMA.RING_STATUS_RUNNING r) ∧ rmaCarries s ∧ ¬ busy ∧ i ≠ s.get (RMA.RING_SQ_TAIL_COUNT r) ∧
      (i + 65536 - s.get (RMA.RING_CQ_HEAD_COUNT r)) % 65536 < ringSize s r then
    let p := ringPart s r
    s.wantReads [{ port := upstreamOf s p, rid := mgmtRid s p, what := 0, ring := r,
                   addr := s.rd64 (RMA.RING_SQ_BASE_LO r) / 4096 * 4096 + 64 * (i % ringSize s r), len := 64, pasid := ringPasid s r }]
  else s

/-- Whether a descriptor has completed. -/
def workDone (w : Work) : Bool := w.status.isSome

/-- Start a descriptor whose turn has come: NOP completes; one on a connection that is not ACTIVE completes CONN_STATE; a WRITE reads its
source (R342, R351). A resumed connection takes the descriptors it fetches again. -/
def State.startWork (s : State) (w : Work) : State :=
  let upd := fun (s : State) (f : Work → Work) => s.mapWorks (fun x => x.id = w.id) (fun x => f { x with started := true })
  let st := (s.conn w.conn).state
  if w.op = 3 then upd s (fun x => { x with status := some 0 })
  else if ¬ (st = 2 ∨ st = 6) then upd s (fun x => { x with status := some 7 })
  else
    let s := upd s id
    if w.op = 1 then
      let p := ringPart s w.ring
      s.wantReads ((List.range w.segs.length).flatMap (fun k => match w.segs[k]? with
        | some g => (cutAt (upMrrs s p) 4097 g.laddr g.len).map (fun c =>
            { port := upstreamOf s p, rid := mgmtRid s p, what := 1, ring := w.ring, work := w.id, seg := k, off := c.1 - g.laddr, addr := c.1, len := c.2,
              pasid := ringPasid s w.ring, tc := s.get (ConnW.TC w.conn), ro := w.flags.testBit 2 : RmaRead })
        | none => []))
    else s

/-- Whether a descriptor may start: every earlier one of its ring has, and with FENCE every earlier one of its ring and connection has
completed (R342). -/
def mayStartWork (s : State) (w : Work) : Bool :=
  !s.rma.works.any (fun x => x.ring = w.ring && x.id < w.id && !workDone x && (!x.started || (w.flags.testBit 1 && x.conn = w.conn)))

/-- Bring the engine forward: descriptors whose segments have all ended complete OK, others start, rings fetch, reads go out. Descriptors of a
ring that has been restarted since leave no record. -/
def State.rmaPump (s : State) : State :=
  let s := s.mapWorks (fun w => w.started && w.status = none && w.segs.all Seg.done && w.writes = 0) (fun w => { w with status := some 0 })
  let s := { s with rma := { s.rma with works := s.rma.works.filter (fun w => ¬ (64 ≤ w.ring ∧ w.status.isSome)) } }
  let s := (s.rma.works.filter (fun w => ¬ w.started ∧ w.status = none)).foldl (fun s w => if mayStartWork s w then s.startWork w else s) s
  let s := (List.range 64).foldl (fun s r => if s.flag (RMA.RING_STATUS_RUNNING r) then s.fetchNext r else s) s
  s.issueReads

/-- The segments of a WRITE or READ: at most 4,096 bytes, none across a 4 KiB boundary of REMOTE_ADDR (R342). -/
def segsOf (raddr laddr len : Nat) : List Seg :=
  (cutAt 4096 4098 raddr len).map (fun c => { raddr := c.1, laddr := laddr + (c.1 - raddr), len := c.2 })

/-- A descriptor of 64 bytes (R341), as the work of ring `r`; BAD_DESC for an operation, a flag or a length outside the table. -/
def workOf (s : State) (r : Nat) (d : List Byte) : Work :=
  let f := fun (o n : Nat) => ofLe ((d.drop o).take n)
  let op := f 0 1
  let len := f 4 4
  let bad := ¬ (op = 1 ∨ op = 2 ∨ op = 3) ∨ 8 ≤ f 1 1 ∨ 16777216 < len ∨ (len = 0 ∧ op ≠ 3)
  { id := s.rma.nextWork, ring := r, index := (s.ring r).fetch, op := op, flags := f 1 1, conn := f 2 2 % 1024, key := f 0x18 2 % 4096,
    kgen := f 0x1A 2 % 4096, tag := f 0x20 8, segs := if bad ∨ op = 3 then [] else segsOf (f 0x10 8) (f 8 8) len, started := bad,
    status := if bad then some 1 else none }

/-- A fetched descriptor joins the work of its ring (R342). -/
def State.takeDescriptor (s : State) (r : Nat) (d : List Byte) : State :=
  let g := s.ring r
  let s := { s with rma := { s.rma with works := s.rma.works ++ [workOf s r d], nextWork := s.rma.nextWork + 1 } }
  (s.setRing r { g with fetch := (g.fetch + 1) % 2 ^ 32 }).set (RMA.RING_SQ_HEAD_COUNT r) ((g.fetch + 1) % 65536)

/-- All the data of a read has come. -/
def State.readDone (s : State) (r : RmaRead) (data : List Byte) : State :=
  if r.what = 0 then s.takeDescriptor r.ring data
  else if r.what = 1 then
    s.mapWorks (fun w => w.id = r.work) (fun w => { w with segs := w.segs.modify r.seg (fun g => { g with parts := g.parts ++ [(r.off, data)] }) })
  else
    let s := { s with rma := { s.rma with serving := s.rma.serving.map (fun (x : RmaRx) => if x.id = r.work then { x with parts := x.parts ++ [(r.off, data)] } else x) } }
    s.serveEnded r.work 0

/-- Data of an outstanding read arrives: the read ends when all of it is there. -/
def State.readData (s : State) (tag : Nat) (data : List Byte) : State :=
  match s.rma.reads.find? (fun r => r.tag = tag) with
  | none => s
  | some r =>
    let got := r.got ++ data
    if r.len ≤ got.length then ((s.rmaReadFree tag).readDone r (got.take r.len)).rmaPump
    else { s with rma := { s.rma with reads := s.rma.reads.map (fun x => if x.tag = tag then { x with got := got } else x) } }

/-- Whether a request of the engine is still on its way through the core. -/
def readQueued (s : State) (o : Origin) : Bool := s.core.pkts.any (fun p => p.origin = o)

/-- The outstanding record of a request of an internal master is closed. -/
def State.closeOut (s : State) (o : Origin) : State := { s with core := { s.core with out := s.core.out.filter (fun r => r.origin ≠ o) } }

/-- RMA_DESCRIPTOR_FETCHED: the descriptor a ring has asked for arrives. -/
def execRmaDescriptorFetched (r : Fin 64) (bytes : List Byte) (s : State) : Res :=
  .next (match s.rma.reads.find? (fun x => x.what = 0 && x.ring = r.val) with
    | some x => if readQueued s (.rmaRead x.tag) ∨ bytes.length < 64 then s else (s.closeOut (.rmaRead x.tag)).readData x.tag (bytes.drop x.got.length)
    | none => s)

/-- An engine read ends with an outcome of the host (R343): poisoned data and error completions fail it. -/
def State.hostRead (s : State) (tag : Nat) (status : HostStatus) (data : List Byte) : State :=
  if status = .ok then s.readData tag data
  else match s.rma.reads.find? (fun r => r.tag = tag) with
    | some r => ((s.rmaReadFree tag).readLost r (if status = .guard then 2 else 3) (if status = .guard then 0x06 else 0x07)).rmaPump
    | none => s

/-- RMA_HOST_READ_COMPLETE: the whole answer to an engine read. -/
def execRmaHostReadComplete (tag : Nat) (status : HostStatus) (data : List Byte) (s : State) : Res :=
  .next (if readQueued s (.rmaRead tag) then s
    else match s.rma.reads.find? (fun r => r.tag = tag) with
      | some r => if status = .ok ∧ data.length + r.got.length < r.len then s else (s.closeOut (.rmaRead tag)).hostRead tag status data
      | none => s)

/-- A ring stops with ERR, UC on source 41 (R340, R370). -/
def State.ringStops (s : State) (r : Nat) : State :=
  ((s.set (RMA.RING_STATUS_RUNNING r) 0).set (RMA.RING_STATUS_ERR r) 1).raiseFaultFor 41 UC r (some (ringPart s r))

/-- A ring is started anew or stopped: what it had in progress leaves no record. -/
def State.ringClears (s : State) (r : Nat) : State :=
  let s := s.mapWorks (fun w => w.ring = r) (fun w => { w with ring := 64 + r })
  let s := { s with rma := { s.rma with want := s.rma.want.filter (fun x => ¬ (x.what = 0 ∧ x.ring = r)) } }
  s.setRing r { evCount := (s.ring r).evCount }

/-- What an accepted write of `RMA.RING[r].CTRL` does (R337, R340). -/
def State.applyRingCtrl (s : State) (r : Nat) (val : Word) : State :=
  let on := s.flag (RMA.RING_CTRL_ENABLE r)
  let set_ := bitOf val.toNat 0
  let s := (s.wr (RMA.RING_CTRL r) (val &&& 0x1FFF)).set (RMA.RING_STATUS_REASON r) 0
  if set_ ∧ ¬ on then
    let s := s.ringClears r
    let s := (s.wr (RMA.RING_SQ_TAIL r) 0).wr (RMA.RING_SQ_HEAD r) 0
    let s := (s.wr (RMA.RING_CQ_HEAD r) 0).wr (RMA.RING_CQ_TAIL r) 0
    s.set (RMA.RING_STATUS_RUNNING r) 1
  else if on ∧ ¬ set_ then (s.ringClears r).set (RMA.RING_STATUS_RUNNING r) 0
  else s

/-- What refuses a write of `RMA.RING[r].CTRL` (R337, R373): its reason, 0 for none. -/
def ringRefusal (s : State) (r : Nat) (val : Word) : Nat :=
  let on := s.flag (RMA.RING_CTRL_ENABLE r)
  let set_ := bitOf val.toNat 0
  let size := fieldOf val 1 5
  if ¬ s.flag (RMA.RING_OWNER_VALID r) then 0x90
  else if set_ ∧ ¬ on ∧ (s.mode < 3 ∨ s.mode = 7) then 0x16
  else if set_ ∧ ¬ on ∧ (size < 4 ∨ 15 < size) then 0x90
  else if on ∧ set_ ∧ size ≠ s.get (RMA.RING_CTRL_SIZE_EXP r) then 0x91
  else 0

/-- A write of `RMA.RING[r].CTRL` that sets no ENABLE. -/
def State.ringWritten (s : State) (r : Nat) (val : Word) : State :=
  if ringRefusal s r val = 0 then s.applyRingCtrl r val else s.set (RMA.RING_STATUS_REASON r) (ringRefusal s r val)

/-- A write of `RMA.RING[r].CTRL`: one that sets ENABLE is tested by the checker (R77). -/
def State.actRingCtrl (s : State) (path : Path) (r : Nat) (val : Word) : State :=
  s.enableWrite path (RMA.RING_CTRL r) val (s.flag (RMA.RING_CTRL_ENABLE r)) (fun s => s.ringWritten r val)

/-- RING_ENABLE. -/
def execRingEnable (path : Path) (r : Fin 64) (s : State) : Res :=
  .next (s.writing path (RMA.RING_CTRL r) (strobe s (RMA.RING_CTRL_ENABLE r) 0x1FFF) (fun s => s.actRingCtrl path r (strobe s (RMA.RING_CTRL_ENABLE r) 0x1FFF)))

/-- RING_DISABLE. -/
def execRingDisable (path : Path) (r : Fin 64) (s : State) : Res :=
  .next (s.writing path (RMA.RING_CTRL r) (withField (s.rd (RMA.RING_CTRL r)) 0 1 0)
    (fun s => s.actRingCtrl path r (withField (s.rd (RMA.RING_CTRL r)) 0 1 0)))

/-- What a write of SQ_TAIL does (R340). -/
def State.actDoorbell (s : State) (r tail : Nat) : State :=
  let s := s.set (RMA.RING_SQ_TAIL_COUNT r) tail
  if ¬ s.flag (RMA.RING_STATUS_RUNNING r) then s
  else if ringSize s r < (tail + 65536 - s.get (RMA.RING_SQ_HEAD_COUNT r)) % 65536 then s.ringStops r
  else s.rmaPump

/-- RING_DOORBELL. -/
def execRingDoorbell (path : Path) (r : Fin 64) (tail : BitVec 16) (s : State) : Res :=
  .next (s.writing path (RMA.RING_SQ_TAIL r) (tail.setWidth 32) (fun s => s.actDoorbell r tail.toNat))

/-- What a write of another ring register does: `k` its word, 0 OWNER, 2 PASID, 4 to 7 the bases, 8 SQ_TAIL, 10 CQ_HEAD, 12 STATUS (R373, R374). -/
def State.actRingWord (s : State) (path : Path) (r k : Nat) (val : Word) : State :=
  if k = 0 then (s.wr (RMA.RING_OWNER r) (val &&& 0x3F)).set RMA.STATUS_REASON 0
  else if k = 1 then s.actRingCtrl path r val
  else if k = 12 then (if bitOf val.toNat 1 then s.set (RMA.RING_STATUS_ERR r) 0 else s)
  else if k = 3 ∨ k = 9 ∨ k = 11 ∨ 12 < k then s
  else if ¬ s.flag (RMA.RING_OWNER_VALID r) then s.set (RMA.RING_STATUS_REASON r) 0x90
  else if k = 8 then (s.actDoorbell r (fieldOf val 0 16)).set (RMA.RING_STATUS_REASON r) 0
  else if k = 10 then ((s.set (RMA.RING_CQ_HEAD_COUNT r) (fieldOf val 0 16)).set (RMA.RING_STATUS_REASON r) 0).rmaPump
  else if s.flag (RMA.RING_CTRL_ENABLE r) then s.set (RMA.RING_STATUS_REASON r) 0x91
  else (s.wr (RMA.RING_OWNER r + 4 * k) (val &&& (if k = 2 then 0x1FFFFF else if k = 4 ∨ k = 6 then 0xFFFFF000 else 0xFFFFFFFF))).set
    (RMA.RING_STATUS_REASON r) 0

/-! ### Completion records (R342, R344, R368) -/

/-- The 32 bytes of a record in completion slot `i` of ring `r`. -/
def recordBytes (s : State) (r i tag seq type status index bytes nak : Nat) : List Byte :=
  leBytes 8 tag ++ leBytes 4 seq ++ leBytes 1 type ++ leBytes 1 status ++ leBytes 2 index ++ leBytes 4 bytes ++ leBytes 1 nak ++
    leBytes 1 ((i / ringSize s r + 1) % 2) ++ leBytes 2 0 ++ leBytes 8 s.time.ft

/-- Write a record to the next completion slot, never with RO; VECTOR follows it when asked. A write the guard or the port refuses is lost. -/
def State.putRecord (s : State) (r tag seq type status index bytes nak : Nat) (vector : Bool) : State :=
  let i := s.get (RMA.RING_CQ_TAIL_COUNT r)
  let p := ringPart s r
  let t := memTlp .memWr (s.rd64 (RMA.RING_CQ_BASE_LO r) / 4096 * 4096 + 32 * (i % ringSize s r)) 32 (mgmtRid s p) 0 false (ringPasid s r)
    (recordBytes s r i tag seq type status index bytes nak)
  let s := match s.engineGuard t with
    | (some lock, s) => s.admitTo (enginePkt s t (upstreamOf s p) (.rmaWrite none) lock)
    | (none, s) => s
  let s := s.set (RMA.RING_CQ_TAIL_COUNT r) ((i + 1) % 65536)
  if vector then s.raiseVector p (s.get (RMA.RING_CTRL_VECTOR r)) else s

/-- COMPLETION_RECORD_WRITE: an event that waits, or the record of the oldest descriptor once it has completed; with FO_DEFER once a checkpoint
that covers it has reached the partner. -/
def execCompletionRecordWrite (r : Fin 64) (s : State) : Res :=
  let s := s.rmaPump
  let room := (s.get (RMA.RING_CQ_TAIL_COUNT r) + 65536 - s.get (RMA.RING_CQ_HEAD_COUNT r)) % 65536 < ringSize s r
  if ¬ s.flag (RMA.RING_STATUS_RUNNING r) ∨ ¬ rmaCarries s ∨ ¬ room then .next s
  else
    let g := s.ring r
    match g.events with
    | e :: rest =>
      let s := s.setRing r { g with events := rest, evCount := (g.evCount + 1) % 2 ^ 32 }
      .next ((s.putRecord r 0 g.evCount 1 e.status e.index 0 0 (s.flag (RMA.RING_CTRL_EVT_EN r))).rmaPump)
    | [] =>
      match s.rma.works.find? (fun w => w.ring = r.val && w.index = g.done) with
      | none => .next s
      | some w =>
        match w.status with
        | none => .next s
        | some st =>
          let deferred : Bool := w.op ≠ 3 ∧ s.flag (ConnW.FO_DEFER w.conn)
          match w.ckpt with
          | none =>
            if deferred then .next (s.mapWorks (fun x => x.id = w.id) (fun x => { x with ckpt := some (nextCkpt s) }))
            else
              let s := { s with rma := { s.rma with works := s.rma.works.filter (fun x => x.id ≠ w.id) } }
              let s := s.setRing r { g with done := (g.done + 1) % 2 ^ 32 }
              .next ((s.putRecord r w.tag w.index 0 st w.conn w.moved w.nak (w.flags.testBit 0)).rmaPump)
          | some n =>
            if deferred ∧ (s.rd TWIN.CKPT_SENT).toNat < n then .next s
            else
              let s := { s with rma := { s.rma with works := s.rma.works.filter (fun x => x.id ≠ w.id) } }
              let s := s.setRing r { g with done := (g.done + 1) % 2 ^ 32 }
              .next ((s.putRecord r w.tag w.index 0 st w.conn w.moved w.nak (w.flags.testBit 0)).rmaPump)

/-! ### Sending segments (R352, R357, R361) -/

/-- The work and segment an unacknowledged PSN carries. -/
def segOf (s : State) (work seg : Nat) : Option (Work × Seg) :=
  match s.rma.works.find? (fun w => w.id = work) with
  | some w => (w.segs[seg]?).map (fun g => (w, g))
  | none => none

/-- The RTO of a connection in FT units. -/
def rtoOf (s : State) (c : Nat) : Nat := usFt (s.get (ConnW.RTO_US c))

/-- Send the packet of a PSN. -/
def State.sendPsn (s : State) (c : Nat) (u : Unacked) : State :=
  match segOf s u.work u.seg with
  | some (w, g) =>
    if u.kind = 0 then s
    else
      s.sendRma c u.kind u.psn (w.flags.testBit 2) (pack [(12, w.key), (12, w.kgen), (64, g.raddr), (13, g.len), (27, 0)])
        (if u.kind = 0x20 then (joinParts g.parts).take g.len else [])
  | none => s

/-- Change an unacknowledged PSN's record. -/
def State.onPsn (s : State) (c psn : Nat) (f : Unacked → Unacked) : State :=
  s.onConn c (fun k => { k with unacked := k.unacked.map (fun u => if u.psn = psn then f u else u) })

/-- Send a PSN again; one sent RETRY_LIMIT + 1 times without acknowledgement breaks the connection (R361). -/
def State.resendPsn (s : State) (c : Nat) (u : Unacked) : State :=
  if (s.conn c).state = 4 then s
  else if s.get (ConnW.RETRY_LIMIT c) + 1 ≤ u.sends then s.connBroken c
  else (s.onPsn c u.psn (fun u => { u with sends := u.sends + 1, due := s.adv + rtoOf s c })).sendPsn c u

/-- Blocks a segment needs (R352). -/
def blocksNeeded (op len : Nat) : Nat := if op = 1 then ceilDiv len 256 else 1

/-- The first segment of a connection that has no PSN. -/
def nextSeg (s : State) (c : Nat) : Option (Work × Nat × Seg) :=
  match s.rma.works.find? (fun w => w.conn = c && w.started && w.status = none && w.segs.any (fun g => g.psn.isNone)) with
  | some w => match (List.range w.segs.length).find? (fun k => match w.segs[k]? with | some g => g.psn.isNone | none => false) with
    | some k => (w.segs[k]?).map (fun g => (w, k, g))
    | none => none
  | none => none

/-- RMA_SEGMENT_SEND: the next segment of an ACTIVE connection, with its data read, takes the oldest PSN that only a checkpoint knows, or the next
PSN if fewer than 1,024 are unacknowledged, the peer's credit allows and the answer reservation holds; it is encrypted and sent. -/
def execRmaSegmentSend (c : Fin 1024) (s : State) : Res :=
  let s := s.rmaPump
  let k := s.conn c
  match nextSeg s c with
  | none => .next s
  | some (w, i, g) =>
    let ready := w.op = 2 ∨ g.len ≤ (joinParts g.parts).length
    if ¬ rmaCarries s ∨ k.state ≠ 2 ∨ ¬ ready ∨ (cryptoKey s c false k.phase).isNone then .next s
    else
      let kind := if w.op = 1 then 0x20 else 0x21
      let claim := fun (s : State) (n : Nat) => s.mapWorks (fun x => x.id = w.id) (fun x => { x with segs := x.segs.modify i (fun g => { g with psn := some n }) })
      match k.unacked.find? (fun u => u.kind = 0) with
      | some u =>
        let v := { u with kind := kind, work := w.id, seg := i, due := s.adv + rtoOf s c }
        .next (((claim s u.psn).onPsn c u.psn (fun _ => v)).sendPsn c v)
      | none =>
        let need := blocksNeeded w.op g.len
        let cells := if w.op = 1 then 1 else 2 * ceilDiv g.len 64
        let span := match k.unacked with
          | u :: _ => psnSub k.psn u.psn
          | [] => 0
        if 1024 ≤ k.unacked.length ∨ 1024 ≤ span ∨ 2 ^ 23 ≤ psnSub k.peerLimit (k.sentBlocks + need) ∨
            s.get BRG.RSP_BUDGET_CELLS < s.get BRG.RSP_BUDGET_USED + cells then .next s
        else
          let u : Unacked := { psn := k.psn, kind := kind, work := w.id, seg := i, due := s.adv + rtoOf s c, cells := cells }
          let s := s.set BRG.RSP_BUDGET_USED (s.get BRG.RSP_BUDGET_USED + cells)
          let s := (claim s k.psn).onConn c (fun k => { k with psn := (k.psn + 1) % 2 ^ 24, unacked := k.unacked ++ [u],
                                                               sentBlocks := (k.sentBlocks + need) % 2 ^ 24 })
          .next (s.sendPsn c u)

/-- A PSN is acknowledged: its record and cells are free; a WRITE's segment has ended (R342). -/
def State.psnAcked (s : State) (c : Nat) (u : Unacked) : State :=
  let s := s.set BRG.RSP_BUDGET_USED (s.get BRG.RSP_BUDGET_USED - u.cells)
  let s := s.onConn c (fun k => { k with unacked := k.unacked.filter (fun x => x.psn ≠ u.psn) })
  if u.kind = 0x20 then
    s.mapWorks (fun w => w.id = u.work) (fun w =>
      let len := match w.segs[u.seg]? with | some g => g.len | none => 0
      { w with segs := w.segs.modify u.seg (fun g => { g with done := true }), moved := if w.status = none then w.moved + len else w.moved })
  else s

/-! ### Memory keys (R345, R346) -/

/-- Whether index `i` lies in partition p's pool. -/
def inPool (s : State) (p i : Nat) : Bool :=
  s.get (RMA.KEY_POOL_BASE p) ≤ i && i < s.get (RMA.KEY_POOL_BASE p) + s.get (RMA.KEY_POOL_COUNT p)

/-- A key command's outcome: RESULT and the journal, with the key's state before and after (R439). -/
def State.keyResult (s : State) (p i before code : Nat) : State :=
  (s.set (RMA.KEYCMD_RESULT_RESULT p) code).post Src.rmaCmd { type := .keyCmd, inst := i, aux := (s.memKey i).gen, payload := [before, (s.memKey i).state, code] }

/-- KEYCMD REGISTER: the next generation, with PASID, rights and a ring that p owns (R345, R346). -/
def State.keyRegister (s : State) (p : Nat) : State :=
  let i := s.get (RMA.KEYCMD_INDEX_INDEX p)
  let k := s.memKey i
  let r := s.get (RMA.KEYCMD_PASID_RING p)
  if ¬ inPool s p i then s.keyResult p i k.state 0x94
  else if k.state = 1 ∨ k.state = 2 ∨ ¬ s.flag (RMA.RING_OWNER_VALID r) ∨ ringPart s r ≠ p then s.keyResult p i k.state 0x10
  else
    (s.setMemKey i { state := 1, gen := (k.gen + 1) % 4096, part := p, pasid := s.get (RMA.KEYCMD_PASID_PASID p), read := s.flag (RMA.KEYCMD_PASID_READ p),
                     write := s.flag (RMA.KEYCMD_PASID_WRITE p), ring := r, inflight := k.inflight }).keyResult p i k.state 0

/-- KEYCMD REVOKE. -/
def State.keyRevoke (s : State) (p : Nat) : State :=
  let i := s.get (RMA.KEYCMD_INDEX_INDEX p)
  let k := s.memKey i
  if ¬ inPool s p i then s.keyResult p i k.state 0x94
  else if k.state ≠ 1 then s.keyResult p i k.state 0x10
  else
    let s := (s.setMemKey i { k with state := 2 }).keyResult p i 1 0
    if k.inflight = 0 then s.keyRevoked i else s

/-- KEYCMD FREE. -/
def State.keyFree (s : State) (p : Nat) : State :=
  let i := s.get (RMA.KEYCMD_INDEX_INDEX p)
  let k := s.memKey i
  if ¬ inPool s p i then s.keyResult p i k.state 0x94
  else if k.state = 1 ∨ k.state = 2 then s.keyResult p i k.state 0x10
  else if k.state = 0 then s.keyResult p i 0 0
  else (s.setMemKey i { gen := k.gen }).keyResult p i k.state 0

/-- What a write of KEYCMD's command word does, bit by bit. -/
def State.actKeyCmd (s : State) (p : Nat) (val : Word) : State :=
  let s := if bitOf val.toNat 0 then s.keyRegister p else s
  let s := if bitOf val.toNat 1 then s.keyRevoke p else s
  if bitOf val.toNat 2 then s.keyFree p else s

/-- KEY_REGISTER. -/
def execKeyRegister (path : Path) (p : Fin 32) (s : State) : Res := .next (s.writing path (RMA.KEYCMD_CMD p) 1 (fun s => s.actKeyCmd p 1))

/-- KEY_REVOKE. -/
def execKeyRevoke (path : Path) (p : Fin 32) (s : State) : Res := .next (s.writing path (RMA.KEYCMD_CMD p) 2 (fun s => s.actKeyCmd p 2))

/-- KEY_FREE. -/
def execKeyFree (path : Path) (p : Fin 32) (s : State) : Res := .next (s.writing path (RMA.KEYCMD_CMD p) 4 (fun s => s.actKeyCmd p 4))

/-- The KEYCMD state word that the indexed key shows (R374). -/
def keyStateWord (s : State) (p : Nat) : Word :=
  let k := s.memKey (s.get (RMA.KEYCMD_INDEX_INDEX p))
  BitVec.ofNat 32 (k.state % 4 + 4 * (k.gen % 4096) + 2 ^ 14 * (k.inflight % 65536))

/-- What a write of `KEY_POOL[p]` does (R346, R373). -/
def State.actKeyPool (s : State) (p : Nat) (val : Word) : State :=
  let b := fieldOf val 0 12
  let n := fieldOf val 12 13
  let clash := 4096 < b + n ∨ (List.range 32).any (fun q => q ≠ p && 0 < n && 0 < s.get (RMA.KEY_POOL_COUNT q) &&
    overlap b n (s.get (RMA.KEY_POOL_BASE q)) (s.get (RMA.KEY_POOL_COUNT q)))
  let held := s.rma.keys.any (fun e => decide (e.2.state ≠ 0) && inPool s p e.1 && !(decide (b ≤ e.1) && decide (e.1 < b + n)))
  if clash then s.set RMA.STATUS_REASON 0x94
  else if held then s.set RMA.STATUS_REASON 0x10
  else (s.wr (RMA.KEY_POOL p) (val &&& 0x1FFFFFF)).set RMA.STATUS_REASON 0

/-- KEY_POOL_WRITE. -/
def execKeyPoolWrite (path : Path) (p : Fin 32) (val : Word) (s : State) : Res :=
  .next (s.writing path (RMA.KEY_POOL p) val (fun s => s.actKeyPool p val))

/-! ### Connections (R350, R351, R355) -/

/-- ALLOTTED: the credit blocks of the connections that are not FREE (R350). -/
def allotted (s : State) : Nat :=
  s.rma.conns.foldl (fun n e => if e.2.state = 0 then n else n + s.get (ConnW.CREDIT_BLOCKS e.1)) 0

/-- Bring `RX_POOL` up to date. -/
def State.setAllotted (s : State) : State := s.set RMA.RX_POOL_ALLOTTED (allotted s)

/-- What a write of `CONN_DATA[k]` does (R374). -/
def State.actConnData (s : State) (k : Nat) (val : Word) : State :=
  let c := s.get RMA.CONN_SEL_INDEX
  if 3 ≤ k then s
  else if (s.conn c).state ≠ 0 then s.set RMA.STATUS_REASON 0x10
  else (s.wr (ConnW.word c k) (val &&& (if k = 0 then 0xFFFF3FFF else if k = 1 then 0xFFFF07FF else 0x3FFF))).set RMA.STATUS_REASON 0

/-- CONN_DATA_WRITE. -/
def execConnDataWrite (path : Path) (k : Fin 4) (val : Word) (s : State) : Res :=
  .next (s.writing path (RMA.CONN_DATA0 + 4 * k.val) val (fun s => s.actConnData k val))

/-- The refusal of OPEN, or 0 (R337, R350). -/
def openRefusal (s : State) (c : Nat) : Nat :=
  let d := s.get (ConnW.REMOTE_DEVID c)
  if s.mode < 3 ∨ s.mode = 7 then 0x16
  else if d = ownDev s ∨ d = 0x7FF ∨ s.get (ConnW.RETRY_LIMIT c) = 0 ∨ s.get (ConnW.RTO_US c) = 0 then 0x92
  else if s.get (BRG.ROUTE_PRIMARY d) = 7 ∨ s.brg.deadRoute.contains d then 0x97
  else if s.get (ConnW.MODE c) = 0 ∧ (s.get (BRG.ROUTE_ALTERNATE d) ≠ 7 ∨ s.flag (ConnW.FO_DEFER c)) then 0x93
  else if 8192 < allotted s + (if (s.conn c).state = 0 then s.get (ConnW.CREDIT_BLOCKS c) else 0) then 0x95
  else if (cryptoKey s c false 0).isNone ∨ (cryptoKey s c true 0).isNone ∨ (s.conn c).state ≠ 0 then 0x10
  else 0

/-- CONN_CMD OPEN. -/
def State.connOpen (s : State) : State :=
  let c := s.get RMA.CONN_SEL_INDEX
  let e := openRefusal s c
  let s := s.set RMA.CONN_RESULT_REASON e
  if e = 0 then ((s.setConn c { timerDl := some s.adv }).connTo c 1).setAllotted else s

/-- CONN_CMD CLOSE. -/
def State.connClose (s : State) : State :=
  let c := s.get RMA.CONN_SEL_INDEX
  if (s.conn c).state = 0 then s.set RMA.CONN_RESULT_REASON 0x10
  else if (s.conn c).state = 5 then s.set RMA.CONN_RESULT_REASON 0
  else
    let s := (s.set RMA.CONN_RESULT_REASON 0).failWorks (fun w => w.conn = c && w.started) 6
    let s := { s with rma := { s.rma with staging := s.rma.staging.filter (fun x => x.conn ≠ c) } }
    ((s.dropUnacked c).connTo c 5).rmaPump

/-- CONN_CMD SWITCH_KEY. -/
def State.connSwitchKey (s : State) : State :=
  let c := s.get RMA.CONN_SEL_INDEX
  let k := s.conn c
  if ¬ (k.state = 2 ∨ k.state = 3) then s.set RMA.CONN_RESULT_REASON 0x10
  else if (cryptoKey s c false (k.phase + 1)).isNone then s.set RMA.CONN_RESULT_REASON 0x96
  else
    let s := (s.set RMA.CONN_RESULT_REASON 0).setConn c { k with phase := (k.phase + 1) % 2, counter := 0, rekeyPosted := false }
    if k.state = 3 then s.connTo c 2 else s

/-- What a write of `CONN_CMD` does, bit by bit. -/
def State.actConnCmd (s : State) (val : Word) : State :=
  let s := if bitOf val.toNat 0 then s.connOpen else s
  let s := if bitOf val.toNat 1 then s.connClose else s
  if bitOf val.toNat 2 then s.connSwitchKey else s

/-- CONN_OPEN. -/
def execConnOpen (path : Path) (s : State) : Res := .next (s.writing path RMA.CONN_CMD 1 (fun s => s.actConnCmd 1))

/-- CONN_CLOSE. -/
def execConnClose (path : Path) (s : State) : Res := .next (s.writing path RMA.CONN_CMD 2 (fun s => s.actConnCmd 2))

/-- CONN_SWITCH_KEY. -/
def execConnSwitchKey (path : Path) (s : State) : Res := .next (s.writing path RMA.CONN_CMD 4 (fun s => s.actConnCmd 4))

/-- Put a crypto slot. -/
def State.setCrypto (s : State) (slot : Nat) (k : Option (List Byte)) : State :=
  { s with rma := { s.rma with crypto := SMap.set (fun _ => none) s.rma.crypto slot k } }

/-- CONN_CLOSE_COMPLETE: nothing validated of a CLOSING connection is in flight (R351). -/
def execConnCloseComplete (c : Fin 1024) (s : State) : Res :=
  .next (if (s.conn c).state = 5 ∧ ¬ s.rma.serving.any (fun x => x.conn = c.val) then
    let s := (List.range 4).foldl (fun s i => s.setCrypto (4 * c.val + i) none) s
    ((s.setConn c {}).connTo c 0).setAllotted
   else s)

/-! ### Crypto keys (R354, R355) -/

/-- The slot `CRYPTO_SEL` selects, with its connection, direction (1 RX) and phase. -/
def selSlot (val : Word) : Nat := 4 * fieldOf val 0 10 + 2 * fieldOf val 10 1 + fieldOf val 11 1

/-- Whether a selected slot is the phase in use outside FREE (R355): of TX, that of the connection; of RX, that of the last packet which authenticated
(DEDUCED, log entry 128). -/
def selInUse (s : State) (val : Word) : Bool :=
  let k := s.conn (fieldOf val 0 10)
  decide (k.state ≠ 0) && fieldOf val 11 1 = (if fieldOf val 10 1 = 0 then k.phase else k.rxPhase) % 2

/-- What a write of `CRYPTO_SEL` does. -/
def State.actCryptoSel (s : State) (val : Word) : State :=
  let s := s.wr RMA.CRYPTO_SEL (val &&& 0xFFF)
  let load := bitOf val.toNat 12
  let zero := bitOf val.toNat 13
  if (load ∨ zero) ∧ selInUse s val then s.set RMA.STATUS_REASON 0x96
  else
    let s := s.set RMA.STATUS_REASON 0
    let s := if load then
        let key := ((List.range 8).map (fun i => leBytes 4 (s.rd (RMA.CRYPTO_KEY i)).toNat)).flatten
        (List.range 8).foldl (fun s i => s.wr (RMA.CRYPTO_KEY i) 0) (s.setCrypto (selSlot val) (some key))
      else s
    if zero then s.setCrypto (selSlot val) none else s

/-- CRYPTO_LOAD. -/
def execCryptoLoad (path : Path) (s : State) : Res :=
  .next (s.writing path RMA.CRYPTO_SEL (strobe s RMA.CRYPTO_SEL_LOAD 0xFFF) (fun s => s.actCryptoSel (strobe s RMA.CRYPTO_SEL_LOAD 0xFFF)))

/-- CRYPTO_ZERO. -/
def execCryptoZero (path : Path) (s : State) : Res :=
  .next (s.writing path RMA.CRYPTO_SEL (strobe s RMA.CRYPTO_SEL_ZERO 0xFFF) (fun s => s.actCryptoSel (strobe s RMA.CRYPTO_SEL_ZERO 0xFFF)))

/-! ### Receiving (R356 to R360, R363, R366) -/

/-- A packet fails authentication: discarded, counted, the record filled (R356). -/
def State.authFailed (s : State) (dev c phase : Nat) : State :=
  let s := s.addSat RMA.AUTH_COUNT_V 1
  if s.flag RMA.AUTH_REC_VALID then s
  else (s.wr RMA.AUTH_REC (BitVec.ofNat 32 (1 + 2 * (phase % 2) + 4 * (c % 1024) + 4096 * (dev % 2048)))).raiseFaultFor 42 UC c (some (s.get (ConnW.PART c)))

/-- Decrypt a packet under the RX key of the phase it carries: its operation body and data. -/
def openRma (s : State) (p : Tfp) (r : RmaHdr) (cipher tag : List Byte) : Option (Nat × List Byte) :=
  if p.hdr.poison ∨ cipher.length < 16 then none
  else match cryptoKey s r.dstConn true r.phase with
    | none => none
    | some key => (gcmOpen key (rmaIv p.hdr.srcDev r.srcConn r.counter) (rmaAad p.hdr r) cipher tag).map (fun m => (ofBe (m.take 16), m.drop 16))

/-- An RMA packet for this device: authenticated, then its connection's state (R351, R356). A connection in LIMIT, CLOSING or FREE sends nothing;
a NAK is not answered. -/
def State.rmaHere (s : State) (p : Tfp) (f : State → Nat → RmaHdr → Nat → List Byte → State) : State :=
  match p.body with
  | .rma r cipher tag =>
    if ¬ rmaCarries s then s.count 136 27 1
    else match openRma s p r cipher tag with
      | none => s.authFailed p.hdr.srcDev (r.dstConn % 1024) r.phase
      | some (body, data) =>
        let s := s.onConn r.dstConn (fun k => { k with rxPhase := r.phase % 2 })
        let st := (s.conn r.dstConn).state
        if st = 1 ∨ st = 2 ∨ st = 6 then f s r.dstConn r body data
        else if st = 4 ∧ p.hdr.kind ≠ 0x24 then s.sendNak r.dstConn r.psn 0x0A
        else s
  | _ => s.authFailed p.hdr.srcDev 0 0

/-- An RMA row: a packet of another kind is one of a reserved kind. -/
def State.rmaReceive (s : State) (b : Nat) (p : Tfp) (kinds : List Nat) (f : State → Nat → RmaHdr → Nat → List Byte → State) : State :=
  if kinds.contains p.hdr.kind then s.receive b p (fun p s => s.rmaHere p f) else (s.takeRx b p).reservedKind b

/-- RX_NEXT advances over the PSNs received. -/
def advanceRx : Nat → Conn → Conn
  | 0, k => k
  | fuel + 1, k => if k.rxMap.contains k.rxNext then
      advanceRx fuel { k with rxNext := (k.rxNext + 1) % 2 ^ 24, rxMap := k.rxMap.filter (· ≠ k.rxNext) } else k

/-- A WRITE or READ_REQ enters receive staging. -/
def State.stageRx (s : State) (c kind : Nat) (r : RmaHdr) (body : Nat) (data : List Byte) : State :=
  let len := bitsHiLo body 39 27
  let x : RmaRx := { id := s.rma.nextRx, conn := c, psn := r.psn, isRead := kind = 0x21, key := bitsHiLo body 127 116, kgen := bitsHiLo body 115 104,
                     addr := bitsHiLo body 103 40, len := len, ro := r.ro, data := data.take len }
  ({ s with rma := { s.rma with staging := s.rma.staging ++ [x], nextRx := s.rma.nextRx + 1 } }).ackSoon c

/-- A WRITE or READ_REQ that authenticates: a duplicate is counted and acknowledged; go-back-N takes RX_NEXT alone and answers a gap with NAK
SEQ; selective repeat takes any new PSN of its window (R358 to R360). -/
def State.takePsn (s : State) (c kind : Nat) (r : RmaHdr) (body : Nat) (data : List Byte) : State :=
  let k := s.conn c
  let d := psnSub r.psn k.rxNext
  if 2 ^ 23 ≤ d ∨ k.rxMap.contains r.psn then (s.addSat RMA.DUP_V 1).sendAck c
  else if s.get (ConnW.MODE c) = 0 then
    (if d = 0 then (s.setConn c { k with rxNext := (k.rxNext + 1) % 2 ^ 24 }).stageRx c kind r body data
     else
      let quiet : Bool := match k.nakSeqAt with
        | some t => decide (s.adv < t + rtoOf s c)
        | none => false
      if quiet then s else (s.setConn c { k with nakSeqAt := some s.adv }).sendNak c r.psn 0x09)
  else if d < 1024 then (s.setConn c (advanceRx 1025 { k with rxMap := k.rxMap ++ [r.psn] })).stageRx c kind r body data
  else s

/-- RMA_PACKET_RECEIVE: WRITE and READ_REQ; kinds 0x27 to 0x3F are discarded, whatever their destination, and counted, UC on source 41
(R363). -/
def execRmaPacketReceive (b : Fin 4) (p : Tfp) (s : State) : Res :=
  .next (if 0x27 ≤ p.hdr.kind ∧ p.hdr.kind ≤ 0x3F then ((s.takeRx b p).addSat RMA.BAD_KIND_V 1).raiseFault 41 UC (112 + b.val)
   else s.rmaReceive b p [0x20, 0x21] (fun s c r body data => s.takePsn c p.hdr.kind r body data))

/-- The first check of R347 that fails, as its NAK code, or 0. -/
def keyRefusal (s : State) (x : RmaRx) : Nat :=
  let k := s.memKey x.key
  if k.state = 0 then 0x01
  else if x.kgen ≠ k.gen then 0x02
  else if k.part ≠ s.get (ConnW.PART x.conn) then 0x05
  else if k.state ≠ 1 then 0x03
  else if (x.isRead ∧ ¬ k.read) ∨ (¬ x.isRead ∧ ¬ k.write) then 0x04
  else 0

/-- The placement writes of a WRITE (R348). -/
def placements (s : State) (x : RmaRx) : List Tlp :=
  let k := s.memKey x.key
  (cutAt (min 4096 (upMps s k.part)) 4097 x.addr x.len).map (fun c =>
    memTlp .memWr c.1 c.2 (mgmtRid s k.part) (s.get (ConnW.TC x.conn)) x.ro (some ⟨k.pasid, false, false⟩) ((x.data.drop (c.1 - x.addr)).take c.2))

/-- The service reads of a READ_REQ. -/
def serviceReads (s : State) (x : RmaRx) : List RmaRead :=
  let k := s.memKey x.key
  (cutAt (min 4096 (upMrrs s k.part)) 4097 x.addr x.len).map (fun c =>
    { port := upstreamOf s k.part, rid := mgmtRid s k.part, what := 2, work := x.id, off := c.1 - x.addr, addr := c.1, len := c.2,
      pasid := some ⟨k.pasid, false, false⟩, tc := s.get (ConnW.TC x.conn), ro := x.ro })

/-- A packet leaves staging: its credits are consumed; an ACK goes out when the limit has grown by 64 blocks (R352, R357). -/
def State.consumeRx (s : State) (x : RmaRx) : State :=
  let s := { s with rma := { s.rma with staging := s.rma.staging.drop 1 } }
  s.onConn x.conn (fun k => { k with consumed := (k.consumed + (if x.isRead then 1 else ceilDiv x.len 256)) % 2 ^ 24 })

/-- The ACK that a grown limit calls for. -/
def State.creditAck (s : State) (c : Nat) : State :=
  if 64 ≤ psnSub (creditLimit s c) (s.conn c).lastLimit ∧ psnSub (creditLimit s c) (s.conn c).lastLimit < 2 ^ 23 then s.sendAck c else s

/-- A packet passes the key check: it counts in the key's in-flight count and is placed or served. -/
def State.validate (s : State) (x : RmaRx) : State :=
  let k := s.memKey x.key
  let n := upstreamOf s k.part
  if x.isRead then
    let l := serviceReads s x
    let s := s.setMemKey x.key { k with inflight := k.inflight + 1 }
    (({ s with rma := { s.rma with serving := s.rma.serving ++ [{ x with todo := l.length }] } }).wantReads l).issueReads
  else
    let l := placements s x
    match s.guardAll l with
    | (none, s) => s.sendNak x.conn x.psn 0x06
    | (some locks, s) =>
      if (targetRefusal s n).isSome then s.sendNak x.conn x.psn 0x08
      else
        let s := s.setMemKey x.key { k with inflight := k.inflight + 1 }
        let s := { s with rma := { s.rma with serving := s.rma.serving ++ [{ x with todo := l.length, data := [] }] } }
        (l.zip locks).foldl (fun s t => s.admitTo (enginePkt s t.1 n (.rmaServe x.id) t.2)) s

/-- RMA_STAGING_TAKE: the oldest packet in staging meets its key. -/
def execRmaStagingTake (s : State) : Res :=
  .next (match s.rma.staging with
    | [] => s
    | x :: _ =>
      if ¬ rmaCarries s then s
      else
        let e := keyRefusal s x
        let s := s.consumeRx x
        let s := if e = 0 then s.validate x else s.sendNak x.conn x.psn e
        s.creditAck x.conn)

/-- A new CREDIT_LIMIT of the peer (R352). -/
def State.takeLimit (s : State) (c lim : Nat) : State :=
  s.onConn c (fun k => if psnSub lim k.peerLimit < 2 ^ 23 then { k with peerLimit := lim } else k)

/-- The descriptor and segment index of a PSN, acknowledged or not, whose segment has not ended. -/
def workOfPsn (s : State) (c psn : Nat) : Option (Work × Nat) :=
  match s.rma.works.find? (fun w => w.conn = c && w.segs.any (fun g => g.psn = some psn && !g.done)) with
  | some w => ((List.range w.segs.length).find? (fun i => match w.segs[i]? with | some g => g.psn = some psn | none => false)).map (fun i => (w, i))
  | none => none

/-- Acknowledge one PSN if it is unacknowledged. -/
def State.ackPsn (s : State) (c psn : Nat) : State :=
  match (s.conn c).unacked.find? (fun u => u.psn = psn) with
  | some u => s.psnAcked c u
  | none => s

/-- The data of a READ is written to local memory (R342, R344). -/
def State.writeLocal (s : State) (w : Work) (g : Seg) (data : List Byte) : State :=
  let r := w.ring % 64
  let p := ringPart s r
  let n := upstreamOf s p
  let l := (cutAt (min 4096 (upMps s p)) 4097 g.laddr g.len).map (fun c =>
    memTlp .memWr c.1 c.2 (mgmtRid s p) (s.get (ConnW.TC w.conn)) (w.flags.testBit 2) (ringPasid s r) ((data.drop (c.1 - g.laddr)).take c.2))
  match s.guardAll l with
  | (none, s) => s.failWorks (fun x => x.id = w.id) 2
  | (some locks, s) =>
    if (targetRefusal s n).isSome then s.failWorks (fun x => x.id = w.id) 3
    else
      let s := s.mapWorks (fun x => x.id = w.id) (fun x => { x with writes := x.writes + l.length })
      (l.zip locks).foldl (fun s t => s.admitTo (enginePkt s t.1 n (.rmaWrite (some w.id)) t.2)) s

/-- A work request fails with REMOTE_NAK and the code, 0x01 for a reserved one (R365). -/
def State.remoteNak (s : State) (id code : Nat) : State :=
  s.mapWorks (fun w => w.id = id && w.status = none) (fun w => { w with status := some 4, nak := if 1 ≤ code ∧ code ≤ 10 then code else 1 })

/-- READ_RESP_RECEIVE: one for a PSN already answered is a duplicate. -/
def execReadRespReceive (b : Fin 4) (p : Tfp) (s : State) : Res :=
  .next (s.rmaReceive b p [0x22] (fun s c _ body data =>
    let psn := bitsHiLo body 127 104
    let st := bitsHiLo body 103 96
    match workOfPsn s c psn with
    | none => (s.addSat RMA.DUP_V 1).sendAck c
    | some (w, i) =>
      let s := s.ackPsn c psn
      if st ≠ 0 then (s.remoteNak w.id st).rmaPump
      else match w.segs[i]? with
        | none => s
        | some g =>
          let s := s.mapWorks (fun x => x.id = w.id) (fun x =>
            { x with segs := x.segs.modify i (fun g => { g with done := true }), moved := if x.status = none then x.moved + g.len else x.moved })
          (s.writeLocal w g (data.take (bitsHiLo body 95 83))).rmaPump))

/-- RMA_ACK_RECEIVE: CUM_PSN and SACK acknowledge, CREDIT_LIMIT is taken, an OPENING connection becomes ACTIVE (R351, R357). -/
def execRmaAckReceive (b : Fin 4) (p : Tfp) (s : State) : Res :=
  .next (s.rmaReceive b p [0x23] (fun s c _ body _ =>
    let cum := bitsHiLo body 127 104
    let sack := bitsHiLo body 103 40
    let lim := bitsHiLo body 39 16
    let hit := fun (u : Unacked) => let d := psnSub cum u.psn
      decide (d < 2 ^ 23) || (let e := psnSub u.psn cum; decide (1 ≤ e) && decide (e ≤ 64) && sack.testBit (e - 1))
    let s := ((s.conn c).unacked.filter hit).foldl (fun s u => s.psnAcked c u) s
    let s := if (s.conn c).state = 1 then (s.onConn c (fun k => { k with peerLimit := lim, timerDl := none })).connTo c 2 else s.takeLimit c lim
    s.rmaPump))

/-- RMA_NAK_RECEIVE. -/
def execRmaNakReceive (b : Fin 4) (p : Tfp) (s : State) : Res :=
  .next (s.rmaReceive b p [0x24] (fun s c _ body _ =>
    let psn := bitsHiLo body 127 104
    let code := bitsHiLo body 103 96
    let exp := bitsHiLo body 95 72
    let s := s.takeLimit c (bitsHiLo body 71 48)
    if code = 0x09 then ((s.conn c).unacked.filter (fun u => psnSub u.psn exp < 2 ^ 23)).foldl (fun s u => s.resendPsn c u) s
    else
      let s := match workOfPsn s c psn with
        | some (w, i) => (s.remoteNak w.id code).mapWorks (fun x => x.id = w.id) (fun x => { x with segs := x.segs.modify i (fun g => { g with done := true }) })
        | none => s
      match (s.conn c).unacked.find? (fun u => u.psn = psn) with
      | some u => (s.psnAcked c { u with kind := 0x21 }).rmaPump
      | none => s.rmaPump))

/-- The body of RESUME and RESUME_ACK (R365). -/
def resumeBody (s : State) (c : Nat) : Nat :=
  let k := s.conn c
  pack [(24, k.rxNext), (24, match k.unacked with | u :: _ => u.psn | [] => k.psn), (24, creditLimit s c), (56, 0)]

/-- Both sides realign after a failover: the receive side starts at the peer's oldest unacknowledged PSN, and every PSN from the peer's RX_NEXT on is
sent again (R367). -/
def State.realign (s : State) (c body : Nat) : State :=
  let rxn := bitsHiLo body 127 104
  let s := s.onConn c (fun k => { k with rxNext := bitsHiLo body 103 80, rxMap := [], peerLimit := bitsHiLo body 79 56 })
  ((s.conn c).unacked.filter (fun u => psnSub u.psn rxn < 2 ^ 23)).foldl (fun s u => s.resendPsn c u) s

/-- RESUME_RECEIVE. -/
def execResumeReceive (b : Fin 4) (p : Tfp) (s : State) : Res :=
  .next (s.rmaReceive b p [0x25] (fun s c _ body _ => (s.sendRma c 0x26 0 false (resumeBody s c) []).realign c body))

/-- RESUME_ACK_RECEIVE. -/
def execResumeAckReceive (b : Fin 4) (p : Tfp) (s : State) : Res :=
  .next (s.rmaReceive b p [0x26] (fun s c _ body _ =>
    if (s.conn c).state = 6 then
      let s := (s.onConn c (fun k => { k with timerDl := none, resumes := 0 })).connTo c 2
      (s.ringEvent (s.get (ConnW.RING c)) 3 c).realign c body
    else s))

/-! ### Timers -/

/-- RMA_RETRANSMIT_TIMER: every PSN whose RTO has passed (R359, R361). -/
def execRmaRetransmitTimer (c : Fin 1024) (s : State) : Res :=
  .next (if (s.conn c).state = 2 ∧ rmaCarries s then
    ((s.conn c).unacked.filter (fun u => u.due ≤ s.adv)).foldl (fun s u => s.resendPsn c u) s
   else s)

/-- CONN_OPEN_ACK_TIMER. -/
def execConnOpenAckTimer (c : Fin 1024) (s : State) : Res :=
  .next (if (s.conn c).state = 1 ∧ rmaCarries s ∧ s.due (s.conn c).timerDl then
    (s.onConn c (fun k => { k with timerDl := some (s.adv + rtoOf s c) })).sendAck c
   else s)

/-- RESUME_SEND_TIMER. -/
def execResumeSendTimer (c : Fin 1024) (s : State) : Res :=
  .next (if (s.conn c).state = 6 ∧ rmaCarries s ∧ s.due (s.conn c).timerDl then
    (if s.get (ConnW.RETRY_LIMIT c) ≤ (s.conn c).resumes then s.connBroken c
     else
      let s := s.onConn c (fun k => { k with resumes := k.resumes + 1, timerDl := some (s.adv + rtoOf s c) })
      s.sendRma c 0x25 0 false (resumeBody s c) [])
   else s)

/-- RMA_ACK_TIMER: within 1 µs of an arrival that is not yet acknowledged. -/
def execRmaAckTimer (c : Fin 1024) (s : State) : Res :=
  .next (if (s.conn c).ackDue ∧ rmaCarries s then s.sendAck c else s)

/-! ### Errors (R370, R371) -/

/-- RMA_ECC_ERROR. -/
def execRmaEccError (what : RmaEcc) (double : Bool) (s : State) : Res :=
  .next (if double then
    let s := s.set RMA.STATUS_ECC_UE 1
    match what with
    | .key k => (s.setMemKey k { s.memKey k with state := 0 }).raiseFaultFor 41 UC k (some (s.memKey k).part)
    | .conn c => ((if (s.conn c).state = 0 ∨ (s.conn c).state = 4 then s else s.connBroken c)).raiseFaultFor 41 UC c (some (s.get (ConnW.PART c)))
    | .ring r => s.ringStops r
   else (s.set RMA.STATUS_ECC_CE 1).raiseFault 41 CE 0xFFFF)

/-- CRYPTO_ECC_ERROR. -/
def execCryptoEccError (c : Fin 1024) (rx phase double : Bool) (s : State) : Res :=
  .next (if double then
    let s := (s.set RMA.STATUS_ECC_UE 1).setCrypto (4 * c.val + 2 * bit rx + bit phase) none
    let st := (s.conn c).state
    let s := if st = 1 ∨ st = 2 ∨ st = 3 ∨ st = 6 then s.connBroken c else s
    s.raiseFaultFor 42 UC c (some (s.get (ConnW.PART c)))
   else (s.set RMA.STATUS_ECC_CE 1).raiseFaultFor 42 CE c (some (s.get (ConnW.PART c))))

end Sys2Proof.Machine
end

