-- ==== Sys2Proof/Machine/Journal.lean ====
section
/-! DEFINITION. The ledger arbiter (R30 to R36) and the journal (R436 to R447): grants, entries and their chain, the ring with its gap, the drain to
a host, and the flush of R551. -/
namespace Sys2Proof.Machine
open Sys2Proof

/-! ### The arbiter -/

/-- The ledger number after `n`: 48 bits, 0 is never issued (R31). -/
def nextLedger (n : Nat) : Nat := if n + 1 < 2 ^ 48 then n + 1 else 1

/-- Whether the journal leaves an event out (R437). -/
def masked (s : State) (e : Ev) : Bool :=
  (e.type = .alarm && e.feature && s.flag JRNL.CTRL_MASK_FEATURE_ALARM) || (e.type = .mgmtMsg && s.flag JRNL.CTRL_MASK_MGMT)

/-- A place in a source's queue frees: the head of its store moves up (R33). -/
def SrcQ.pop (q : SrcQ) : SrcQ :=
  match q.store with
  | e :: es => { q with queue := q.queue.drop 1 ++ [e], store := es }
  | [] => { q with queue := q.queue.drop 1 }

/-- Grant the event at the head of a source's queue (R30, R31, R34): it takes the next ledger number and goes to the journal. -/
def State.grant (s : State) (src : Nat) : State :=
  match (s.srcQ src).queue with
  | [] => s
  | e :: _ =>
    let num := nextLedger s.ledger.last
    let s := s.setSrcQ src (s.srcQ src).pop
    let s := { s with ledger := { s.ledger with last := num } }
    let s := if e.first ∧ s.flag FLT.FIRST_VALID ∧ s.get FLT.FIRST_SOURCE = e.src then s.wr64 FLT.FIRST_LEDGER_LO num else s
    if masked s e then s
    else { s with jrnl := { s.jrnl with queue := s.jrnl.queue ++ [Granted.mk num s.time.ft (s.get GLB.MODE_CURRENT) e] } }

/-- LEDGER_GRANT: at most one grant in a core cycle, and none while the journal's input queue is full (R30, R440). -/
def execLedgerGrant (src : Nat) (s : State) : Res :=
  if s.ledger.grantedAt = some s.cycle ∨ 256 ≤ s.jrnl.queue.length ∨ (s.srcQ src).queue = [] then .next s
  else .next (State.grant { s with ledger := { s.ledger with grantedAt := some s.cycle } } src)

/-- Enter the coalescing record of a source as an EVENTS_COALESCED event (R33). -/
def State.enterCoalesced (s : State) (src : Nat) : State :=
  match (s.srcQ src).coal with
  | none => s
  | some c =>
    let q := { s.srcQ src with coal := none }
    let pl := [src, c.firstTy.code, c.firstInst, src, c.lastTy.code, c.lastInst, c.firstFt % 2 ^ 32, c.firstFt / 2 ^ 32, c.lastFt % 2 ^ 32,
               c.lastFt / 2 ^ 32]
    s.setSrcQ src (q.push { type := .eventsCoalesced, aux := c.count, payload := pl } s.time.ft)

/-- EVENTS_COALESCED: when a place in the store has freed. -/
def execEventsCoalesced (src : Nat) (s : State) : Res :=
  .next (if (s.srcQ src).store.length < 64 then s.enterCoalesced src else s)

/-! ### Entries (R438, R441, R442) -/

/-- C, the consumer index (R441). -/
def consumer (s : State) : Nat := (s.rd JRNL.RD_INDEX).toNat

/-- Entries written since cold reset. -/
def written (s : State) : Nat := (s.rd JRNL.WR_INDEX).toNat

/-- The chain seed, or the hash given. -/
def chainHash (h : List Byte) : List Byte := if h = [] then List.replicate 32 0 else h

/-- Bytes 0x00 to 0x5F of an entry (R438). -/
def entryHead (g : Granted) : List Byte :=
  let e := g.ev
  let pl := (e.payload.take 16).flatMap (fun w => leBytes 4 w)
  leBytes 8 g.ft ++ leBytes 6 g.num ++ leBytes 2 e.type.code ++ leBytes 1 (if e.type.code / 256 = 4 then e.src else e.type.code / 256) ++
  leBytes 1 (2 * bit e.epoch) ++ leBytes 2 e.inst ++ leBytes 1 pl.length ++ leBytes 1 g.mode ++ leBytes 2 0 ++ leBytes 8 e.aux ++
  pl ++ List.replicate (64 - pl.length) 0

/-- The ring entry at index `i`. -/
def ringEntry (s : State) (i : Nat) : List Byte := SMap.get (fun _ => []) s.jrnl.ring (i % 4096)

/-- HASH of the entry at index `i`. -/
def entryHash (s : State) (i : Nat) : List Byte := (ringEntry s i).drop 0x60

/-- An entry as it is delivered: with CORRUPT in FLAGS where an ECC error has hit it (R444). -/
def delivered (s : State) (i : Nat) : List Byte :=
  let e := ringEntry s i
  if s.jrnl.corrupt.contains (i % 4096) then
    e.take 0x11 ++ leBytes 1 (ofLe ((e.drop 0x11).take 1) ||| 1) ++ e.drop 0x12
  else if e = [] then List.replicate 128 0 else e

/-- Discard entry C for want of room (R442). -/
def State.discardEntry (s : State) : State :=
  let c := consumer s
  let first := ¬ s.jrnl.gap
  let s := if first then
      { s with jrnl := { s.jrnl with gap := true, gapStart := chainHash s.jrnl.consumedHash, gapFt := s.time.ft, gapMode := s.get GLB.MODE_CURRENT } }
    else s
  let s := { s with jrnl := { s.jrnl with gapEnd := entryHash s c } }
  let s := (s.addSat JRNL.LOST_V 1).wr JRNL.RD_INDEX (BitVec.ofNat 32 (c + 1))
  if first then s.raiseFault 50 CE 0xFFFF else s

/-- Store an entry in the ring (R438, R441): its HASH chains it to the entry before. -/
def State.storeEntry (s : State) (g : Granted) : State :=
  let s := if 4096 ≤ (written s + 2 ^ 32 - consumer s) % 2 ^ 32 then s.discardEntry else s
  let head := entryHead g
  let h := sha256 (chainHash s.jrnl.lastHash ++ head)
  let i := written s
  let s := { s with jrnl := { s.jrnl with ring := SMap.set (fun _ => []) s.jrnl.ring (i % 4096) (head ++ h), lastHash := h,
                                          corrupt := s.jrnl.corrupt.filter (· ≠ i % 4096) } }
  let s := (List.range 8).foldl (fun (s : State) k => s.wr (JRNL.LAST_HASH k) (BitVec.ofNat 32 (ofLe ((h.drop (4 * k)).take 4)))) s
  s.wr JRNL.WR_INDEX (BitVec.ofNat 32 (i + 1))

/-- JOURNAL_WRITE: the next entry of the input queue, at most one per 64 core cycles (R440). -/
def execJournalWrite (s : State) : Res :=
  match s.jrnl.queue with
  | g :: gs =>
    if s.jrnl.readyAt ≤ s.cycle then
      .next (State.storeEntry { s with jrnl := { s.jrnl with queue := gs, readyAt := s.cycle + 64 } } g)
    else .next s
  | [] => .next s

/-- Grant and write everything that waits (R551); `fuel` bounds the events of one source. -/
def State.flushSource (src : Nat) : Nat → State → State
  | 0, s => s
  | k + 1, s =>
    let s := if (s.srcQ src).queue = [] then s.enterCoalesced src else s
    if (s.srcQ src).queue = [] then s else State.flushSource src k (s.grant src)

/-- Grant every waiting event, enter every coalescing record, and write every granted entry. -/
def State.flushRound (s : State) : State :=
  let s := (s.ledger.srcs.map Prod.fst).foldl (fun (s : State) k => s.flushSource k ((s.srcQ k).queue.length + (s.srcQ k).store.length + 2)) s
  let q := s.jrnl.queue
  q.foldl (fun s g => s.storeEntry g) { s with jrnl := { s.jrnl with queue := [] } }

/-- Whether nothing waits at a source or for the ring. -/
def ledgerQuiet (s : State) : Bool := s.jrnl.queue = [] && s.ledger.srcs.all (fun e => e.2.queue = [] && e.2.coal.isNone)

/-- The flush at a warm reset or a park (R551). A write to a full ring can itself raise an event (R442), which is flushed too: a gap that is open raises no
further one, so a second or third round finds nothing left. -/
def State.flushLedger (s : State) : State := [0, 1, 2].foldl (fun (s : State) (_ : Nat) => if ledgerQuiet s then s else s.flushRound) s

/-! ### The consumer (R442, R443) -/

/-- The overrun marker of the present gap (R442). -/
def marker (s : State) : List Byte :=
  let j := s.jrnl
  leBytes 8 j.gapFt ++ leBytes 6 0 ++ leBytes 2 0xFF01 ++ leBytes 1 0xFF ++ leBytes 1 0 ++ leBytes 2 0xFFFF ++ leBytes 1 64 ++ leBytes 1 j.gapMode ++
    leBytes 2 0 ++ leBytes 8 (s.rd JRNL.LOST).toNat ++ chainHash j.gapStart ++ chainHash j.gapEnd ++ chainHash j.gapEnd

/-- Consuming the marker clears GAP and LOST. -/
def State.takeMarker (s : State) : State :=
  ({ s with jrnl := { s.jrnl with gap := false, consumedHash := chainHash s.jrnl.gapEnd } }).wr JRNL.LOST 0

/-- The consumer index becomes `c`: the hash of the last entry consumed goes with it. -/
def State.consumeTo (s : State) (c : Nat) : State :=
  let s := if c = consumer s ∨ c = 0 then s else { s with jrnl := { s.jrnl with consumedHash := chainHash (entryHash s (c + 4095)) } }
  s.wr JRNL.RD_INDEX (BitVec.ofNat 32 c)

/-- What GAP_ACK does, with DRAIN_EN 0. -/
def State.actGapAck (s : State) : State := if s.jrnl.gap ∧ ¬ s.flag JRNL.CTRL_DRAIN_EN then s.takeMarker else s

/-- JOURNAL_GAP_ACK. -/
def execJournalGapAck (path : Path) (s : State) : Res :=
  .next (s.writing path JRNL.CTRL (strobe s JRNL.CTRL_GAP_ACK 0x17) (fun s => s.actGapAck))

/-- A write of `JRNL.RD_INDEX`: with DRAIN_EN 0, and within the entries the ring holds (R447). -/
def State.actRdIndex (s : State) (val : Word) : State :=
  if s.flag JRNL.CTRL_DRAIN_EN then s
  else if (written s + 2 ^ 32 - val.toNat) % 2 ^ 32 ≤ 4096 then s.consumeTo val.toNat else s

/-- JOURNAL_RD_INDEX_WRITE. -/
def execJournalRdIndexWrite (path : Path) (val : Word) (s : State) : Res :=
  .next (s.writing path JRNL.RD_INDEX val (fun s => s.actRdIndex val))

/-- The size of the drain ring: SIZE_EXP outside 4 to 16 is treated as 4 (R447). -/
def drainSize (s : State) : Nat :=
  let e := s.get JRNL.RING_CFG_SIZE_EXP
  2 ^ (if 4 ≤ e ∧ e ≤ 16 then e else 4)

/-- The drain stops (R443): DRAIN_ERR, a UC event, and DRAIN_EN reads 0 until it is set again (log entry 35). -/
def State.drainError (s : State) : State :=
  ((s.set JRNL.STATUS_DRAIN_ERR 1).set JRNL.CTRL_DRAIN_EN 0).raiseFault 50 UC 0xFFFF

/-- Write one entry of 128 bytes to the host ring (R443), checked by guard unit 100; `none` where it was refused. -/
def State.drainOne (s : State) (bytes : List Byte) : Bool × State :=
  let p := s.get JRNL.RING_CFG_PART
  let n := upstreamOf s p
  let tail := (s.rd JRNL.RING_TAIL).toNat
  let t := memTlp .memWr (s.rd64 JRNL.RING_BASE_LO / 4096 * 4096 + 128 * (tail % drainSize s)) 128 (upRid s p) 0 false none bytes
  match s.guardCheck 100 0xFFF (needOf t) false (rangeOf t).1 (rangeOf t).2 t.rid with
  | (none, s) => (false, s)
  | (some lock, s) =>
    if n ≥ 96 ∨ ¬ linkUp s n ∨ s.flag (PORT.STATUS_SHED n) ∨ s.get (PORT.STATUS_DRAIN_STATE n) ≠ 0 then (false, s)
    else (true, (s.enter (enginePkt s t n (.mdmaWrite 8) lock)).wr JRNL.RING_TAIL (BitVec.ofNat 32 (tail + 1)))

/-- The drain engine writes what comes next: the marker of a gap, else entry C (R442, R443). -/
def State.drainStep (s : State) : State :=
  let free := ((s.rd JRNL.RING_TAIL).toNat + 2 ^ 32 - (s.rd JRNL.RING_HEAD).toNat) % 2 ^ 32 < drainSize s
  if ¬ s.flag JRNL.CTRL_DRAIN_EN ∨ ¬ free ∨ (consumer s = written s ∧ ¬ s.jrnl.gap) then s
  else
    let gap := s.jrnl.gap
    match s.drainOne (if gap then marker s else delivered s (consumer s)) with
    | (false, s) => s.drainError
    | (true, s) =>
      let s := if gap then s.takeMarker else s.consumeTo (consumer s + 1)
      if s.flag JRNL.CTRL_IRQ_EN ∧ consumer s = written s then s.raiseVector (s.get JRNL.RING_CFG_PART) (s.get JRNL.RING_CFG_VECTOR) else s

/-- JOURNAL_DRAIN_WRITE. -/
def execJournalDrainWrite (s : State) : Res := .next s.drainStep

/-- JOURNAL_ECC_ERROR: corrected, or the entry is delivered with CORRUPT (R444). -/
def execJournalEccError (entry : Fin 4096) (double : Bool) (s : State) : Res :=
  if double then
    let s := { s with jrnl := { s.jrnl with corrupt := if s.jrnl.corrupt.contains entry.val then s.jrnl.corrupt else s.jrnl.corrupt ++ [entry.val] } }
    .next ((s.set JRNL.STATUS_ECC_UE 1).raiseFault 50 UC 0xFFFF)
  else .next ((s.set JRNL.STATUS_ECC_CE 1).raiseFault 50 CE 0xFFFF)

end Sys2Proof.Machine
end

