-- ==== Sys2Proof/Machine/Slot.lean ====
section
/-! DEFINITION. Slot power channels (R448 to R464): commands, ramps, protection, presence, the output check and the die link. -/
namespace Sys2Proof.Machine
open Sys2Proof

/-- A channel beside its registers. -/
def State.saux (s : State) (n : Nat) : SlotAux := SMap.get (fun _ => {}) s.slots n

/-- Replace a channel beside its registers. -/
def State.setSaux (s : State) (n : Nat) (a : SlotAux) : State := { s with slots := SMap.set (fun _ => {}) s.slots n a }

/-- Whether channel `n` has a SLOT entry (R448). -/
def hasChannel (s : State) (n : Nat) : Bool := s.get (SLOT.CFG0_LIMIT n) ≠ 0

/-- The channel's state (R459). -/
def slotState (s : State) (n : Nat) : Nat := s.get (SLOT.STATUS_STATE n)

/-- The insertion serial of the channel's port (R18). -/
def slotSerial (s : State) (n : Nat) : Nat :=
  let p := s.get (SLOT.CFG2_PORTID n)
  if p < 96 then s.get (PORT.INSERTION_SERIAL p) else 0

/-- A slot event passes the ledger (R452, R459): the states before and after and the cause. -/
def State.slotEvent (s : State) (n before after cause : Nat) : State :=
  s.post (Src.slot n) { type := .slotEvent, inst := n, aux := slotSerial s n, payload := [before, after, cause] }

/-- Move a channel to a state; a cause other than 0 is the last cause shown. -/
def State.slotTo (s : State) (n st cause : Nat) : State :=
  let before := slotState s n
  let s := s.set (SLOT.STATUS_STATE n) st
  let s := if cause = 0 then s else s.set (SLOT.STATUS_CAUSE n) cause
  s.slotEvent n before st cause

/-- TIMER of a channel in FT units (R64). -/
def slotTimer (s : State) (n : Nat) : Nat := usFt (100 * s.get (SLOT.CFG1_TIMER n))

/-- Power good ends: the port's PERST is asserted (R133, R453). -/
def State.slotPowerLost (s : State) (n : Nat) : State :=
  let p := s.get (SLOT.CFG2_PORTID n)
  if s.flag (SLOT.STATUS_PG n) then
    let s := s.set (SLOT.STATUS_PG n) 0
    if p < 96 then (s.setPaux p { s.paux p with pgAt := none }).assertPerst p else s
  else s

/-- A gate turns off: power good, ramp and limit end, and the output check starts (R456). A gate that is off stays as it is. -/
def State.gateOff (s : State) (n : Nat) : State :=
  if (s.saux n).gate then
    let s := s.setSaux n { s.saux n with gate := false, rampDl := none, stuckDl := none, limitAt := none, spent := 0, outAt := none, onAt := none,
                                         checkDl := some (s.adv + usFt 50000) }
    let s := (s.set (SLOT.STATUS_IN_LIMIT n) 0).set (SLOT.STATUS_CHECKING n) 1
    s.slotPowerLost n
  else s

/-- Whether nothing holds a ramp (R453): the insertion delay, the off time, a running output check, VIN_SLOT below 8.5 V. -/
def rampFree (s : State) (n : Nat) : Bool :=
  (s.saux n).insertDl.isNone && (s.saux n).offDl.isNone && !s.flag (SLOT.STATUS_CHECKING n) && s.pwr.vinOk

/-- A ramp starts. -/
def State.slotRamp (s : State) (n : Nat) : State :=
  let s := s.setSaux n { s.saux n with gate := true, rampDl := some (s.adv + rampTime s n) }
  s.slotTo n 4 0

/-- A waiting channel goes on once nothing holds it (R453, R459): to RAMP with WANT, else to OFF. -/
def State.slotTry (s : State) (n : Nat) : State :=
  let st := slotState s n
  if rampFree s n ∧ (st = 2 ∨ st = 3 ∨ st = 7) then
    if s.flag (SLOT.STATUS_WANT n) then s.slotRamp n else if st = 2 then s else s.slotTo n 2 0
  else s

/-- Set WANT; a change passes the ledger (R452). -/
def State.setWant (s : State) (n v : Nat) : State :=
  if s.get (SLOT.STATUS_WANT n) = v then s else (s.set (SLOT.STATUS_WANT n) v).slotEvent n (slotState s n) (slotState s n) 7

/-- FAULTS becomes `k`; the register saturates at 15 (R464). -/
def State.setFaults (s : State) (n k : Nat) : State := (s.setSaux n { s.saux n with faults := k }).set (SLOT.STATUS_FAULTS n) (min 15 k)

/-- Debounced presence is lost: the gate turns off and the state is recorded (R457). -/
def State.slotLost (s : State) (n : Nat) : State :=
  let st := slotState s n
  if 1 ≤ st ∧ st ≤ 9 then
    let s := s.gateOff n
    (s.setSaux n { s.saux n with prior := st, insertDl := none }).slotTo n 11 6
  else s

/-! ### Commands (R452 to R456, R461) -/

/-- ON: WANT is set; the ramp starts when nothing holds it. -/
def State.slotOn (s : State) (n : Nat) : State := (s.setWant n 1).slotTry n

/-- OFF: WANT is cleared; in states 3 to 7 the channel goes OFF with cause COMMAND. -/
def State.slotOff (s : State) (n : Nat) : State :=
  let s := s.setWant n 0
  let st := slotState s n
  if 3 ≤ st ∧ st ≤ 7 then (s.gateOff n).slotTo n 2 7 else s

/-- CLEAR: FAULTS 0; TRIPPED and GATE_FAULT go OFF, and a recorded GATE_FAULT of an empty slot is forgotten (R455). -/
def State.slotClear (s : State) (n : Nat) : State :=
  let s := s.setFaults n 0
  let st := slotState s n
  if st = 8 ∨ st = 9 then ((s.setSaux n { s.saux n with prior := 0 }).slotTo n 2 0).slotTry n
  else if st = 0 ∨ st = 1 then s.setSaux n { s.saux n with prior := 0 }
  else s

/-- KILL_CLEAR: a KILLED channel whose output is below 1.0 V goes OFF with WANT 0, else it is refused (R456). -/
def State.slotKillClear (s : State) (n : Nat) : State :=
  if slotState s n ≠ 10 then s
  else if 20 ≤ s.get (SLOT.MEAS_VOUT n) then s.set (SLOT.STATUS_REASON n) 0xA1
  else
    let s := ((s.setWant n 0).set (SLOT.STATUS_KILL n) 0).slotTo n 2 0
    if s.flag (SLOT.STATUS_PRESENT n) then s else s.slotLost n

/-- A write of `SLOT[n].CTRL` that reaches the block: OFF wins over ON (R452); a channel without an entry refuses every command (R448). -/
def State.actSlotCtrl (s : State) (n : Nat) (val : Word) : State :=
  let b := fun i => bitOf val.toNat i
  if ¬ hasChannel s n then (if fieldOf val 0 4 = 0 then s else s.set (SLOT.STATUS_REASON n) 0xA0)
  else
    let s := s.when (b 2) (fun s => s.slotClear n)
    let s := s.when (b 3) (fun s => s.slotKillClear n)
    if b 1 then s.slotOff n else if b 0 then s.slotOn n else s

/-- A write of `SLOT[n].CTRL` through its path. -/
def State.slotWrite (s : State) (path : Path) (n : Nat) (f : RF) : State :=
  s.writing path (SLOT.CTRL n) (strobe s f 0) (fun s => s.actSlotCtrl n (strobe s f 0))

/-- SLOT_ON. -/
def execSlotOn (path : Path) (n : Fin 16) (s : State) : Res := .next (s.slotWrite path n (SLOT.CTRL_ON n))

/-- SLOT_OFF. -/
def execSlotOff (path : Path) (n : Fin 16) (s : State) : Res := .next (s.slotWrite path n (SLOT.CTRL_OFF n))

/-- SLOT_CLEAR. -/
def execSlotClear (path : Path) (n : Fin 16) (s : State) : Res := .next (s.slotWrite path n (SLOT.CTRL_CLEAR n))

/-- SLOT_KILL_CLEAR. -/
def execSlotKillClear (path : Path) (n : Fin 16) (s : State) : Res := .next (s.slotWrite path n (SLOT.CTRL_KILL_CLEAR n))

/-- The channel that powers port `n`, by its own PORTID (R452). -/
def channelOf (s : State) (n : Nat) : Option Nat := (List.range 16).find? (fun c => hasChannel s c && s.get (SLOT.CFG2_PORTID c) = n)

/-- A host write of Power Controller Control on the port a channel powers (R452): 0 On, 1 Off. -/
def State.slotPowerControl (s : State) (n : Nat) (off : Bool) : State :=
  match channelOf s n with
  | some c => if off then s.slotOff c else s.slotOn c
  | none => s

/-- SLOT_POWER_CONTROL_WRITE. -/
def execSlotPowerControlWrite (n : Fin 96) (off : Bool) (s : State) : Res :=
  .next (if s.mode = 0 ∨ s.mode = 7 then s else s.slotPowerControl n off)

/-! ### Presence (R457) -/

/-- A new insertion (R457): the port's serial counts, FAULTS clears, WANT takes AUTO_ON and the insertion delay starts. A GATE_FAULT stays. -/
def State.newInsertion (s : State) (n : Nat) : State :=
  let p := s.get (SLOT.CFG2_PORTID n)
  let s := if p < 96 then s.set (PORT.INSERTION_SERIAL p) (s.get (PORT.INSERTION_SERIAL p) + 1) else s
  let s := s.setFaults n 0
  let st := slotState s n
  if st = 10 then s
  else
    let s := s.setWant n (s.get (SLOT.CFG2_AUTO_ON n))
    let ms := s.get (SLOT.CFG2_INSERT_MS n)
    let gf := (s.saux n).prior = 9
    let s := s.setSaux n { s.saux n with insertDl := if ms = 0 then none else some (s.adv + usFt (1000 * ms)), offDl := none, prior := if gf then 9 else 0 }
    if gf then s.slotTo n 9 0
    else (s.slotTo n (if s.flag (SLOT.STATUS_WANT n) then 3 else 2) 0).slotTry n

/-- Presence returns within 500 ms: the same insertion (R457). -/
def State.sameInsertion (s : State) (n : Nat) : State :=
  let pr := (s.saux n).prior
  if pr = 8 ∨ pr = 9 then s.slotTo n pr 0
  else
    let ms := s.get (SLOT.CFG2_INSERT_MS n)
    let s := s.setSaux n { s.saux n with insertDl := if ms = 0 then none else some (s.adv + usFt (1000 * ms)), prior := 0 }
    (s.slotTo n 3 0).slotTry n

/-- The removal window has passed: EMPTY (R457). A recorded GATE_FAULT is kept (R455). -/
def State.slotEmpty (s : State) (n : Nat) : State :=
  (s.setSaux n { s.saux n with prior := if (s.saux n).prior = 9 then 9 else 0, offDl := none }).slotTo n 0 0

/-- The absence that ended at `at_` lasted 500 ms or more, or there was none before: a new insertion. -/
def longAbsent (a : SlotAux) : Bool :=
  match a.absentAt with
  | some t => t + usFt 500000 ≤ a.rawAt
  | none => true

/-- SLOT_PRESENCE_CHANGE: the pin changes level. EMPTY goes to SETTLE, and SETTLE back to EMPTY (R459). -/
def execSlotPresenceChange (n : Fin 16) (present : Bool) (s : State) : Res :=
  let a := s.saux n
  if a.raw = present then .next s
  else
    let s := s.setSaux n { a with raw := present, rawAt := s.adv, absentAt := if present then (if s.flag (SLOT.STATUS_PRESENT n) then none else a.absentAt)
                                                                               else some s.adv }
    .next (if ¬ hasChannel s n ∨ s.mode = 7 then s
     else if present ∧ slotState s n = 0 then s.slotTo n 1 0
     else if ¬ present ∧ slotState s n = 1 then s.slotTo n 0 0
     else s)

/-- SLOT_PRESENCE_DEBOUNCED: the level has held 20 ms (R457). -/
def execSlotPresenceDebounced (n : Fin 16) (s : State) : Res :=
  let a := s.saux n
  if ¬ hasChannel s n ∨ s.mode = 7 ∨ s.pwr.dieLost ∨ s.flag (SLOT.STATUS_PRESENT n) = a.raw ∨ s.adv < a.rawAt + usFt 20000 then .next s
  else
    let s := s.set (SLOT.STATUS_PRESENT n) (bit a.raw)
    let st := slotState s n
    let s := if ¬ a.raw then s.slotLost n
      else if st = 11 then (if longAbsent a then (s.slotEmpty n).newInsertion n else s.sameInsertion n)
      else if st ≤ 1 ∨ longAbsent a then s.newInsertion n
      else s
    let s := s.when a.raw (fun s => s.setSaux n { s.saux n with absentAt := none })
    let p := s.get (SLOT.CFG2_PORTID n)
    .next (if p < 96 then s.presenceOf p else s)

/-- SLOT_REMOVAL_WINDOW. -/
def execSlotRemovalWindow (n : Fin 16) (s : State) : Res :=
  let a := s.saux n
  .next (if slotState s n = 11 ∧ ¬ a.raw ∧ s.due (a.absentAt.map (· + usFt 500000)) then s.slotEmpty n else s)

/-- SLOT_INSERT_DELAY_END. -/
def execSlotInsertDelayEnd (n : Fin 16) (s : State) : Res :=
  .next (if s.due (s.saux n).insertDl then (s.setSaux n { s.saux n with insertDl := none }).slotTry n else s)

/-- SLOT_OFF_TIME_END. -/
def execSlotOffTimeEnd (n : Fin 16) (s : State) : Res :=
  .next (if s.due (s.saux n).offDl then (s.setSaux n { s.saux n with offDl := none }).slotTry n else s)

/-- Channels track presence from the loader's step 7 (R462): a present, configured channel in EMPTY starts to settle. -/
def State.trackSlots (s : State) : State :=
  (List.range 16).foldl (fun s n =>
    if hasChannel s n ∧ slotState s n = 0 ∧ (s.saux n).raw then (s.setSaux n { s.saux n with rawAt := s.adv, absentAt := none }).slotTo n 1 0 else s) s

/-! ### Ramp (R453, R455) -/

/-- SLOT_RAMP_END. -/
def execSlotRampEnd (n : Fin 16) (s : State) : Res :=
  .next (if slotState s n = 4 then
    (s.setSaux n { s.saux n with rampDl := none, stuckDl := some (s.adv + usFt 2000) }).slotTo n 5 0
   else s)

/-- SLOT_GATE_ENHANCED: power good (R453). -/
def execSlotGateEnhanced (n : Fin 16) (s : State) : Res :=
  .next (if slotState s n = 5 then
    let s := s.setSaux n { s.saux n with stuckDl := none, onAt := some s.adv }
    let s := s.set (SLOT.STATUS_PG n) 1
    let p := s.get (SLOT.CFG2_PORTID n)
    let s := if p < 96 then s.setPaux p { s.paux p with pgAt := some s.adv } else s
    s.slotTo n 6 0
   else s)

/-- SLOT_GATE_STUCK. -/
def execSlotGateStuck (n : Fin 16) (s : State) : Res :=
  .next (if slotState s n = 5 ∧ s.due (s.saux n).stuckDl then ((s.gateOff n).slotTo n 9 4).raiseFault 45 UC n else s)

/-! ### Protection (R454) -/

/-- The fault timer's count (R454). -/
def faultCount (s : State) (n : Nat) : Nat :=
  let a := s.saux n
  match a.limitAt with
  | some t => a.spent + (s.adv - t)
  | none => a.spent

/-- Whether a trip stays within the retries (R454). -/
def retriesLeft (s : State) (n : Nat) : Bool := s.flag (SLOT.CFG1_UNLIMITED n) || (s.saux n).faults ≤ s.get (SLOT.CFG1_RETRIES n)

/-- The off time after a trip: OFF_MULT × TIMER, and no less than the output check (R450, R451). -/
def offTime (s : State) (n : Nat) : Nat := max (usFt (100 * s.get (SLOT.CFG1_OFF_MULT n) * s.get (SLOT.CFG1_TIMER n))) (usFt 50000)

/-- A trip (R454): the gate turns off, FAULTS counts, and the channel cools or locks. -/
def State.trip (s : State) (n cause : Nat) : State :=
  let s := s.gateOff n
  let s := if cause = 2 then s.addSat (SLOT.TRIPS_FAST n) 1 else if cause = 8 then s else s.addSat (SLOT.TRIPS_TIMER n) 1
  let s := s.setFaults n ((s.saux n).faults + 1)
  let s := if retriesLeft s n then (s.setSaux n { s.saux n with offDl := some (s.adv + offTime s n) }).slotTo n 7 cause else s.slotTo n 8 cause
  s.raiseFault 45 UC n

/-- Whether a channel is in a state that a trip leaves (R459). -/
def canTrip (s : State) (n : Nat) : Bool := slotState s n = 4 || slotState s n = 5 || slotState s n = 6

/-- SLOT_LIMIT_ENTER. -/
def execSlotLimitEnter (n : Fin 16) (s : State) : Res :=
  .next (if canTrip s n ∧ ¬ s.flag (SLOT.STATUS_IN_LIMIT n) then
    let a := s.saux n
    let aged := s.due (a.outAt.map (· + slotTimer s n))
    let s := s.setSaux n { a with limitAt := some s.adv, spent := if aged then 0 else a.spent, outAt := none, onAt := a.onAt.map (fun _ => s.adv) }
    (s.set (SLOT.STATUS_IN_LIMIT n) 1).addSat (SLOT.TRIPS_LIMIT n) 1
   else s)

/-- The channel leaves the limit: its count stands until one whole TIMER has passed (R454). -/
def State.leaveLimit (s : State) (n : Nat) : State :=
  if s.flag (SLOT.STATUS_IN_LIMIT n) then
    (s.setSaux n { s.saux n with limitAt := none, spent := faultCount s n, outAt := some s.adv, onAt := (s.saux n).onAt.map (fun _ => s.adv) }).set
      (SLOT.STATUS_IN_LIMIT n) 0
  else s

/-- SLOT_FAULT_TIMER. -/
def execSlotFaultTimer (n : Fin 16) (s : State) : Res :=
  .next (if canTrip s n ∧ s.flag (SLOT.STATUS_IN_LIMIT n) ∧ slotTimer s n ≤ faultCount s n then s.trip n 1 else s)

/-- SLOT_FAST_TRIP. -/
def execSlotFastTrip (n : Fin 16) (s : State) : Res := .next (if canTrip s n then s.trip n 2 else s)

/-- SLOT_RAMP_STALL. -/
def execSlotRampStall (n : Fin 16) (s : State) : Res := .next (if slotState s n = 4 ∧ s.due (s.saux n).rampDl then s.trip n 3 else s)

/-- SLOT_VIN_OV: every powered channel trips. -/
def execSlotVinOv (s : State) : Res := .next ((List.range 16).foldl (fun s n => if canTrip s n then s.trip n 8 else s) s)

/-- SLOT_OUTPUT_CHECK: `mv` is Vout in mV, 50 ms after the gate turned off; above 1.0 V the channel is KILLED (R456). -/
def execSlotOutputCheck (n : Fin 16) (mv : Nat) (s : State) : Res :=
  if ¬ s.flag (SLOT.STATUS_CHECKING n) ∨ ¬ s.due (s.saux n).checkDl ∨ slotState s n = 12 then .next s
  else
    let s := (s.setSaux n { s.saux n with checkDl := none }).set (SLOT.STATUS_CHECKING n) 0
    .next (if 1000 < mv then
      let s := s.setSaux n { s.saux n with offDl := none, insertDl := none }
      let s := (s.set (SLOT.STATUS_KILL n) 1).slotTo n 10 5
      s.raiseFault 45 (if s.flag (SLOT.CFG2_LIVE_FATAL n) then FATAL else UC) n
     else s.slotTry n)

/-- SLOT_FAULTS_AGE_OUT: 60 s continuously ON without entering limit. -/
def execSlotFaultsAgeOut (n : Fin 16) (s : State) : Res :=
  .next (if slotState s n = 6 ∧ ¬ s.flag (SLOT.STATUS_IN_LIMIT n) ∧ s.due ((s.saux n).onAt.map (· + usFt 60000000)) then s.setFaults n 0 else s)

/-! ### Attention, measurements, the die -/

/-- The `WAKE_IN` pin that is channel `n`'s attention input (R68). -/
def attnPin (s : State) (n : Nat) : Option Nat :=
  (s.part.owners.find? (fun e => e.cls = 1 ∧ e.owner = 2 ∧ e.ownerInst = n)).map (fun e => e.inst)

/-- SLOT_ATTENTION: the pin has held `level` for 20 ms; at its active level (POL) the button is pressed (R458), of which the host has notice where it has
enabled it in Slot Control (PCI Express). -/
def execSlotAttention (n : Fin 16) (level : Bool) (s : State) : Res :=
  let p := s.get (SLOT.CFG2_PORTID n)
  match attnPin s n with
  | some i =>
    .next (if hasChannel s n ∧ s.flag (SLOT.CFG2_ATTN n) ∧ p < 96 ∧ level = bitOf (s.get PWR.WAKE_CFG_POL) i ∧ s.mode ≠ 7 then
      let fn := portFn s p
      let w := s.cfgRd fn (pcieCap 6)
      let s := s.cfgWr fn (pcieCap 6) (withField w 16 1 1)
      let s := s.when (fn < 1056 && w.toNat.testBit 5 && w.toNat.testBit 0) (fun s => s.portMsi (fn / 33) fn ((upBuses s (fn / 33)).2.1 * 256 + 8 * (fn % 33)))
      { s with brg := { s.brg with attnPorts := if s.brg.attnPorts.contains p then s.brg.attnPorts else s.brg.attnPorts ++ [p] } }
     else s)
  | none => .next s

/-- SLOT_MEAS_UPDATE: current in 10 mA, voltages in 50 mV (R464); a channel whose current is below its limit leaves the limit, and VIN_SLOT
below 8.5 V holds ramps. -/
def execSlotMeasUpdate (n : Fin 16) (iout vout vgate vin : Nat) (s : State) : Res :=
  if s.mode = 7 ∨ s.pwr.dieLost then .next s
  else
    let s := (s.set (SLOT.MEAS_IOUT n) iout).set (SLOT.MEAS_VOUT n) vout
    let s := (s.set (SLOT.MEAS2_VGATE n) vgate).set (SLOT.MEAS2_VIN n) vin
    let s := if vin < 170 then { s with pwr := { s.pwr with vinOk := false } } else s
    .next (if iout * 10 < s.get (SLOT.CFG0_LIMIT n) then s.leaveLimit n else s)

/-- VIN_SLOT_START_THRESHOLD: a waiting channel starts its ramp (R453). -/
def execVinSlotStartThreshold (s : State) : Res :=
  let s := { s with pwr := { s.pwr with vinOk := true } }
  .next ((List.range 16).foldl (fun s n => if hasChannel s n then s.slotTry n else s) s)

/-- DIE_LINK_LOST: every channel goes to DIE_LOST with its gate off (R459, R460). -/
def execDieLinkLost (s : State) : Res :=
  if s.pwr.dieLost ∨ s.mode = 7 then .next s
  else
    let s := { s with pwr := { s.pwr with dieLost := true } }
    let s := (List.range 16).foldl (fun s n => if hasChannel s n then (s.gateOff n).slotTo n 12 9 else s) s
    .next (s.raiseFault 45 UC 0xFFFF)

/-- DIE_LINK_RESTORED: each channel is TRIPPED, or KILLED where its `SLOT_KILL_N` is still driven; an output check that still runs decides
later (R456, R459). A channel found absent goes on to ABSENT. -/
def execDieLinkRestored (s : State) : Res :=
  if ¬ s.pwr.dieLost then .next s
  else
    let s := { s with pwr := { s.pwr with dieLost := false } }
    .next ((List.range 16).foldl (fun s n =>
      if slotState s n = 12 then
        if s.flag (SLOT.STATUS_KILL n) then s.slotTo n 10 9
        else
          let s := s.slotTo n 8 9
          if s.flag (SLOT.STATUS_PRESENT n) then s else s.slotLost n
      else s) s)

end Sys2Proof.Machine
end

