-- ==== Sys2Proof/Machine/Twin.lean ====
section
/-! DEFINITION. Twin pairs (R392 to R418): messages and records, pairing, checkpoints and full syncs, croak, the decision that the partner is
lost, and planned changes of role. TW_ROLE_RECEIVE, which can bring a warm reset, stands with the resets. -/
namespace Sys2Proof.Machine
open Sys2Proof

/-! ### Refusals and events -/

/-- A message ignored by the twin block (R396, R401). -/
def State.badMsg (s : State) : State := s.addSat TWIN.BAD_MSG_COUNT 1

/-- An event on source 46 with a cause of `TWIN.STATUS`.CAUSE (R394). -/
def State.twinFault (s : State) (cls cause : Nat) : State :=
  (if cause = 0 then s else s.set TWIN.STATUS_CAUSE cause).raiseFault 46 cls 0xFFFF

/-- A command to the twin block is refused: REASON, and MODE_REFUSED with the mode asked for (R37, R417). -/
def State.twinRefused (s : State) (want code : Nat) : State :=
  (s.set TWIN.STATUS_REASON code).post Src.glb { type := .modeRefused, aux := s.mode, payload := [want, code, 0] }

/-- Which side this is: 0 L, 1 R. -/
def side (s : State) : Nat := s.get TWIN.STATUS_SIDE

/-- Whether this is the named side (R393). -/
def namedSide (s : State) : Bool := side s = s.twin.role

/-- Whether a mode carries traffic: WORKER, MANAGER or DEGRADED. -/
def carries (m : Nat) : Bool := m = 3 || m = 4 || m = 6

/-- A twin message arrives on bundle `b`: only on the twin link, only of the kind named, and only on a paired device (R396). -/
def State.twinMsg (s : State) (b : Nat) (p : Tfp) (kind : Nat) (f : State → List Byte → State) : State :=
  let s := s.takeRx b p
  if ¬ bundleRole s b [4] then s.reservedKind b
  else if p.hdr.kind ≠ kind then (if 0x60 ≤ p.hdr.kind ∧ p.hdr.kind ≤ 0x6F then s.badMsg else s.reservedKind b)
  else if ¬ s.twin.enable ∨ s.twin.bundle ≠ b ∨ s.get TWIN.STATUS_PAIR = 0 then s.badMsg
  else match p.body with
    | .msg d => f s d
    | _ => s.badMsg

/-- A twin message that is a ledger event (R396). -/
def State.twinEvent (s : State) (type : EvType) (pl : List Nat) : State :=
  s.post Src.twin { type := type, aux := s.rd64 TWIN.PEER_LEDGER_LO, payload := (s.rd TWIN.STATUS).toNat :: pl }

/-! ### Records of the RMA state (R396, R398) -/

/-- The 300 bytes of one connection. -/
def connRecord (s : State) (c : Nat) : List Byte :=
  let k := s.conn c
  let acked := (List.range 1024).foldl (fun (m : Nat) i =>
    if k.unacked.any (fun u => u.psn = (k.psn + i + 2 ^ 24 - 1024) % 2 ^ 24) then m else m + 2 ^ i) 0
  let map := (List.range 1024).foldl (fun (m : Nat) i => if k.rxMap.contains ((k.rxNext + i) % 2 ^ 24) then m + 2 ^ i else m) 0
  (List.range 3).flatMap (fun i => leBytes 4 (s.rd (ConnW.word c i)).toNat) ++ leBytes 4 (k.state + 8 * k.phase + 256 * k.unacked.length) ++
    leBytes 8 k.counter ++ leBytes 4 (k.psn % 2 ^ 24) ++ leBytes 4 (k.rxNext % 2 ^ 24) ++ leBytes 128 map ++ leBytes 128 acked ++
    leBytes 4 (k.sentBlocks % 2 ^ 24) ++ leBytes 4 (k.peerLimit % 2 ^ 24) ++ leBytes 4 (k.consumed % 2 ^ 24)

/-- One memory key: the five KEYCMD words, then its operations in flight. -/
def keyRecord (i : Nat) (k : Key) : List Byte :=
  leBytes 4 i ++ leBytes 4 (k.pasid + 2 ^ 20 * bit k.read + 2 ^ 21 * bit k.write + 2 ^ 22 * k.ring) ++ leBytes 4 0 ++
    leBytes 4 (k.state + 4 * k.gen + 2 ^ 14 * (k.inflight % 2 ^ 16)) ++ leBytes 4 0 ++ leBytes 4 k.inflight

/-- The 36-byte slot of a crypto key (R401); slot 4·conn + 2·DIR + PHASE. -/
def cryptoRecord (i : Nat) (key : List Byte) : List Byte := leBytes 2 (i / 4) ++ leBytes 1 (i / 2 % 2 + 2 * (i % 2)) ++ leBytes 1 0 ++ key

/-- The RMA records and the generation numbers with the ledger position; crypto records only under a pair key (R398, R401). -/
def rmaRecords (s : State) : List (Nat × Nat × List Byte) :=
  (s.rma.conns.filter (fun e => e.2.state ≠ 0)).map (fun e => (0x20, e.1, connRecord s e.1)) ++
  (s.rma.keys.filter (fun e => e.2.state ≠ 0)).map (fun e => (0x21, e.1, keyRecord e.1 e.2)) ++
  ((List.range 64).filter (fun r => s.flag (RMA.RING_CTRL_ENABLE r))).map (fun r =>
    (0x22, r, (List.range 13).flatMap (fun k => leBytes 4 (s.rd (RMA.RING_OWNER r + 4 * k)).toNat))) ++
  (if s.twin.pairKey.isSome then s.rma.crypto.filterMap (fun e => e.2.map (fun k => (0x23, e.1, cryptoRecord e.1 k))) else []) ++
  [(0x24, 0, leBytes 4 (s.rd GLB.GEN).toNat ++ leBytes 8 s.ledger.last)]

/-- Everything a pair mirrors from this side. -/
def mirrored (s : State) : List (Nat × Nat × List Byte) := shRecords s ++ rmaRecords s

/-- The mirrored records as a table by 65,536·TABLE + INDEX. -/
def recordMap (rs : List (Nat × Nat × List Byte)) : SMap (List Byte) :=
  rs.foldl (fun (m : SMap (List Byte)) r => SMap.set (fun _ => []) m (65536 * r.1 + r.2.1) r.2.2) []

/-- The records that differ between what this side holds and a base; one that is gone has no bytes. -/
def changedRecords (s : State) (base : SMap (List Byte)) : List (Nat × Nat × List Byte) :=
  let now := recordMap (mirrored s)
  (now.filter (fun e => SMap.get (fun _ => []) base e.1 ≠ e.2)).map (fun e => (e.1 / 65536, e.1 % 65536, e.2)) ++
  (base.filter (fun e => (SMap.find? now e.1).isNone)).map (fun e => (e.1 / 65536, e.1 % 65536, []))

/-- The 96-bit IV of a crypto record (R401). -/
def pairIv (sd ctr : Nat) : List Byte := beBytes 12 (sd % 2 * 2 ^ 95 + ctr % 2 ^ 64)

/-- The additional data of a crypto record: TABLE, INDEX, LENGTH and the message's sequence number (R401). -/
def pairAad (i seq : Nat) : List Byte := leBytes 1 0x23 ++ leBytes 2 i ++ leBytes 2 60 ++ leBytes 4 seq

/-- Records as they go on the wire: crypto records are sealed, each advancing the IV counter (R401). -/
def State.sealRecords (s : State) (seq : Nat) (rs : List (Nat × Nat × List Byte)) : List (List Byte) × State :=
  rs.foldl (fun (a : List (List Byte) × State) r =>
    match r.1, a.2.twin.pairKey with
    | 0x23, some key =>
      if r.2.2 = [] then (a.1 ++ [wireRecord 0x23 r.2.1 []], a.2)
      else
        let (c, tag) := gcmSeal key (pairIv (side a.2) a.2.twin.iv) (pairAad r.2.1 seq) r.2.2
        (a.1 ++ [wireRecord 0x23 r.2.1 (leBytes 8 a.2.twin.iv ++ c ++ tag)], { a.2 with twin := { a.2.twin with iv := a.2.twin.iv + 1 } })
    | t, _ => (a.1 ++ [wireRecord t r.2.1 r.2.2], a.2)) ([], s)

/-- Pieces joined into bodies of at most `max` bytes. -/
def packBodies (max : Nat) : List Byte → List (List Byte) → List (List Byte)
  | cur, [] => [cur]
  | cur, r :: rs => if cur ≠ [] ∧ max < cur.length + r.length then cur :: packBodies max r rs else packBodies max (cur ++ r) rs

/-- The bytes a record takes on the wire. -/
def wireLength (r : Nat × Nat × List Byte) : Nat := 5 + (if r.1 = 0x23 ∧ r.2.2 ≠ [] then 60 else r.2.2.length)

/-- Records in groups whose wire form takes at most `max` bytes; `used` is what `cur` takes. -/
def packGroups (max : Nat) : Nat → List (Nat × Nat × List Byte) → List (Nat × Nat × List Byte) → List (List (Nat × Nat × List Byte))
  | _, cur, [] => [cur]
  | used, cur, r :: rs =>
    if cur ≠ [] ∧ max < used + wireLength r then cur :: packGroups max (wireLength r) [r] rs
    else packGroups max (used + wireLength r) (cur ++ [r]) rs

/-! ### The partner counts as lost (R405) -/

/-- Drop the checks of a commit of this side. -/
def State.dropCommitCheck (s : State) : State :=
  { s with img := { s.img with checks := s.img.checks.filter (fun c => match c with
      | .commit _ _ _ _ _ => false
      | _ => true) } }

/-- The offsets of the pair commit offered here: of the snapshot that its checker still holds, or has accepted (R380). -/
def pairOffs (s : State) : List Nat :=
  match s.twin.waiting with
  | some (snap, _) => snap.map Prod.fst
  | none => s.img.checks.flatMap (fun c => match c with
    | .commit snap _ _ _ _ => snap.map Prod.fst
    | _ => [])

/-- Fail over (R405, R408): a commit of the pair that is not yet staged ends (R380, R383), the change to DEGRADED, and the event on source 46. A side
that is in DEGRADED already only loses its partner. -/
def State.twinFailover (s : State) (cause : Nat) : State :=
  let s := if s.twin.sent.isSome then s.pairDone.dropCommitCheck.commitResult (pairOffs s) 4 0x11 0 (commitEpoch s) true else s
  let s := match s.twin.rcvd with
    | some (_, e, snap) => ({ s with twin := { s.twin with rcvd := none } }).commitResult (snap.map Prod.fst) 4 0x11 0 e true
    | none => s
  let s := { s with img := { s.img with checks := s.img.checks.filter (fun c => match c with
      | .partner _ _ _ => false
      | _ => true) } }
  let s := if 3 ≤ s.mode ∧ s.mode ≤ 5 then s.failover cause else s.pairTo 6 cause
  s.twinFault UC cause

/-- The failover decision (R405): it acts in SYNCING, IN_SYNC and SUSPECT. -/
def State.judge (s : State) : State :=
  let st := s.get TWIN.STATUS_PAIR
  let croak := s.twin.croakLost
  let link := s.twin.silent
  if st < 3 ∨ 5 < st then s
  else if croak ∧ link then s.twinFailover 3
  else if croak ∧ s.twin.yield then s.twinFailover 4
  else if croak ∨ link then
    if st = 5 then s
    else
      let cause := if croak then 1 else 2
      (({ s with twin := { s.twin with before := st } }).pairTo 5 cause).twinFault UC cause
  else if st = 5 then s.pairTo s.twin.before 0
  else s

/-! ### Full sync (R394, R400) -/

/-- Whether this side is the sync source (R394); where no side carries traffic, side L (log entry 33). -/
def syncSource (s : State) : Bool :=
  if s.mode = 6 then true
  else if s.get TWIN.PEER_MODE = 6 then false
  else if s.twin.arrange = 1 then side s = 0
  else if s.mode = 3 ∨ s.mode = 4 then true
  else if s.get TWIN.PEER_MODE = 3 ∨ s.get TWIN.PEER_MODE = 4 then false
  else side s = 0

/-- Send every mirrored record, then TW_SYNC_DONE with the last SYNC_SEQ and STATE_HASH. -/
def State.sendSync (s : State) : State :=
  let s := (packGroups 4000 0 [] (mirrored s)).foldl (fun (s : State) g =>
    let s := { s with twin := { s.twin with syncSeq := (s.twin.syncSeq + 1) % 2 ^ 32 } }
    let (rs, s) := s.sealRecords s.twin.syncSeq g
    s.sendTwin 0x66 (leBytes 4 s.twin.syncSeq ++ rs.flatten)) s
  let s := { s with twin := { s.twin with acked := recordMap (mirrored s), flight := none } }
  s.sendTwin 0x67 (leBytes 4 s.twin.syncSeq ++ stateHash s)

/-- Enter SYNCING: the sync source starts a full sync. -/
def State.startSync (s : State) : State :=
  let s := { s with twin := { s.twin with part := none, hashSince := none } }
  let s := s.pairTo 3 0
  if syncSource s then s.sendSync else s

/-- A mirrored record does not authenticate: counted, a UC event, and a new sync (R401). -/
def State.mirrorBad (s : State) : State :=
  let s := s.badMsg.twinFault UC 6
  if s.get TWIN.STATUS_PAIR = 3 ∨ s.get TWIN.STATUS_PAIR = 4 then s.startSync else s

/-- Whether a mirrored record's index is in use on this side (R402). -/
def indexClash (s : State) (t i : Nat) : Bool :=
  s.twin.arrange = 1 &&
    ((t = 0x20 && (s.conn i).state ≠ 0) || (t = 0x21 && (SMap.get (fun _ => {}) s.rma.keys i).state ≠ 0) ||
     (t = 0x22 && s.flag (RMA.RING_CTRL_ENABLE i)))

/-- Take one record of the RMA state into the mirror. `seq` is the number of the message that carried it. -/
def State.takeMirror (s : State) (seq t i : Nat) (b : List Byte) : State :=
  let put := fun (s : State) (b : List Byte) => { s with twin := { s.twin with mirror := SMap.set (fun _ => []) s.twin.mirror (65536 * t + i) b } }
  if t = 0x24 then
    let s := s.wr64 TWIN.PEER_LEDGER_LO (ofLe ((b.drop 4).take 8))
    { s with twin := { s.twin with peerGen := ofLe (b.take 4) } }
  else if t < 0x20 ∨ 0x24 < t ∨ recordCount t ≤ i then s.badMsg
  else if b ≠ [] ∧ indexClash s t i then
    (s.set TWIN.STATUS_REASON 0xB4).twinFault UC 9
  else if t = 0x23 ∧ b ≠ [] then
    match s.twin.pairKey with
    | none => s.mirrorBad
    | some key =>
      match gcmOpen key (pairIv (1 - side s) (ofLe (b.take 8))) (pairAad i seq) ((b.drop 8).take 36) ((b.drop 44).take 16) with
      | some p => put s p
      | none => s.mirrorBad
  else put s b

/-- Take the records of a message: entries of SH tables become live here, everything else goes to the mirror (R398, R399). -/
def State.takeRecords (s : State) (seq : Nat) (rs : List (Nat × Nat × List Byte)) : State :=
  let ws := (wordsOfRecords (rs.filter (fun r => r.1 ≤ 0x10))).filter (fun e => mergeSh e.1 (s.rd e.1) e.2 ≠ s.rd e.1)
  let old := s
  let s := if ws = [] then s else (s.applyWords ws).afterApply old (ws.map Prod.fst)
  (rs.filter (fun r => 0x10 < r.1)).foldl (fun s r => s.takeMirror seq r.1 r.2.1 r.2.2) s

/-- The side that takes a sync takes the source's generation numbers too (R398). -/
def State.takeGens (s : State) : State :=
  if syncSource s then s else s.wr GLB.GEN (withField (s.rd GLB.GEN) 0 20 (s.twin.peerGen % 2 ^ 20))

/-- TW_SYNC_RECEIVE. -/
def execTwSyncReceive (b : Fin 4) (p : Tfp) (s : State) : Res :=
  .next (s.twinMsg b p 0x66 (fun s d =>
    let s := s.takeRecords (ofLe (d.take 4)) (readRecords 4096 (d.drop 4))
    { s with twin := { s.twin with syncSeq := ofLe (d.take 4) } }))

/-- TW_SYNC_DONE_RECEIVE: the side that took the sync answers with a TW_SYNC_DONE of its own, and both are IN_SYNC when their hashes agree
(R394, R400; log entry 33). -/
def execTwSyncDoneReceive (b : Fin 4) (p : Tfp) (s : State) : Res :=
  .next (s.twinMsg b p 0x67 (fun s d =>
    let s := s.twinEvent .roleMsg [0x67, ofLe (d.take 4)]
    if s.get TWIN.STATUS_PAIR ≠ 3 then s
    else
      let s := s.takeGens
      let same : Bool := stateHash s = (d.drop 4).take 32
      let s := if syncSource s then s else s.sendTwin 0x67 (leBytes 4 (ofLe (d.take 4)) ++ stateHash s)
      if same then ({ s with twin := { s.twin with ackAt := s.adv } }).pairTo 4 0
      else if syncSource s then (s.twinFault UC 6).startSync
      else s))

/-! ### TW_HELLO (R395 to R397) -/

/-- The image hash of an image, or zeros. -/
def hashOf (i : Option Image) : List Byte :=
  match i with
  | some x => x.hash
  | none => List.replicate 48 0

/-- The 168-byte body of TW_HELLO, with `ledger` as the last ledger number. -/
def helloBody (s : State) (ledger : Nat) : List Byte :=
  leBytes 1 1 ++ leBytes 1 (side s + 2 * s.twin.arrange + 4 * s.mode + 32 * s.get TWIN.STATUS_PAIR) ++
  leBytes 2 (ownDev s + 2 ^ 15 * s.get GLB.DEVID_VALID) ++ leBytes 1 (s.get GLB.MODE_STEPPING) ++
  leBytes 1 (bit s.img.staged.isSome + 2 * s.get TWIN.PEER_ALIAS_ACTIVE) ++ leBytes 2 0 ++ hashOf s.img.active ++
  hashOf (s.img.staged.map Prod.fst) ++ leBytes 4 (s.rd GLB.GEN).toNat ++ leBytes 6 ledger ++ leBytes 2 0 ++ stateHash s ++ leBytes 20 0

/-- TW_HELLO_SEND: on entering HELLO, on every change of its fields but the ledger number (log entry 33), and every 1 ms. -/
def execTwHelloSend (s : State) : Res :=
  let fields := helloBody s 0
  if s.twin.enable ∧ 2 ≤ s.get TWIN.STATUS_PAIR ∧ linkActive s s.twin.bundle ∧ s.mode ≠ 7 ∧ (s.due s.twin.helloDl ∨ fields ≠ s.twin.hello) then
    let s := s.sendTwin 0x60 (helloBody s s.ledger.last)
    .next { s with twin := { s.twin with hello := fields, helloDl := some (s.adv + usFt 1000) } }
  else .next s

/-- Take over the partner's fields. -/
def State.takeHello (s : State) (d : List Byte) : State :=
  let f := fun (o n : Nat) => ofLe ((d.drop o).take n)
  let s := ((s.set TWIN.PEER_DEVID (f 2 2)).set TWIN.PEER_VALID (f 2 2 / 2 ^ 15)).set TWIN.PEER_MODE (f 1 1 / 4)
  let s := s.wr64 TWIN.PEER_LEDGER_LO (f 0x6C 6)
  { s with twin := { s.twin with peerHash := (d.drop 8).take 48, peerGen := f 0x68 4,
                                 peerStaged := if f 5 1 % 2 = 1 then some ((d.drop 0x38).take 48) else none,
                                 hashSince := if (d.drop 0x74).take 32 = stateHash s then none else some (s.twin.hashSince.getD s.adv) } }

/-- Whether the two images agree, and whether one is the other's staged image (R395). -/
def imagesAgree (s : State) : Bool × Bool :=
  let own := hashOf s.img.active
  let same : Bool := own = s.twin.peerHash
  (same, !same && (s.img.staged.map (fun x => x.1.hash) = some s.twin.peerHash || s.twin.peerStaged = some own))

/-- Why a TW_HELLO fails: REASON and the cause shown (R395; log entry 33 for the fields no code is given for). -/
def helloFails (s : State) (d : List Byte) : Option (Nat × Nat) :=
  let f := fun (o n : Nat) => ofLe ((d.drop o).take n)
  if f 1 1 % 2 = side s then some (0xB0, 7)
  else if f 0 1 ≠ 1 ∨ f 1 1 / 2 % 2 ≠ s.twin.arrange ∨ f 4 1 ≠ s.get GLB.MODE_STEPPING then some (0x11, 6)
  else if ¬ (imagesAgree s).1 ∧ ¬ (imagesAgree s).2 then some (0x11, 8)
  else none

/-- Start a drain of every data port in service, reserved until the mode change is complete (R37, R388). -/
def State.drainDataPorts (s : State) : State :=
  (dataPorts s).foldl (fun (s : State) n =>
    let s := s.setPaux n { s.paux n with reserved := true }
    if s.flag (PORT.CTRL_ENABLE n) ∧ s.get (PORT.STATUS_DRAIN_STATE n) = 0 ∧ ¬ s.flag (PORT.STATUS_SHED n) then s.startDrain n 5 else s) s

/-- Go into SHADOW once every data port is drained (R37, R406). -/
def State.toShadow (s : State) : State :=
  if carries s.mode then
    let s := (s.set GLB.MODE_CHANGING 1).drainDataPorts
    { s with twin := { s.twin with cmd := some (6, 0, 5) } }
  else s

/-- The alias ends (R409). -/
def State.endAlias (s : State) : State :=
  let s := { s with twin := { s.twin with dualSeen := [] } }
  (s.set TWIN.PEER_ALIAS_ACTIVE 0).set TWIN.PEER_ALIAS_DEVID 0

/-- Arbitration of roles at pairing (R395, R406). -/
def State.arbitrate (s : State) : State :=
  let peer := s.get TWIN.PEER_MODE
  if s.mode = 6 ∧ peer = 6 then (if side s = 1 then s.endAlias.toShadow else s)
  else if (s.mode = 3 ∨ s.mode = 4) ∧ peer = 6 then s.toShadow
  else if s.twin.arrange = 0 ∧ (s.mode = 3 ∨ s.mode = 4) ∧ (peer = 3 ∨ peer = 4) ∧ ¬ namedSide s then s.toShadow
  else s

/-- TW_HELLO_RECEIVE. -/
def execTwHelloReceive (b : Fin 4) (p : Tfp) (s : State) : Res :=
  .next (s.twinMsg b p 0x60 (fun s d =>
    if d.length ≠ 168 then s.badMsg
    else
      let peerPair := ofLe ((d.drop 1).take 1) / 32
      let fails := helloFails (s.takeHello d) d
      let s := (s.takeHello d).twinEvent .roleMsg [0x60]
      let s := s.set TWIN.STATUS_UPDATE (bit (imagesAgree s).2)
      let st := s.get TWIN.STATUS_PAIR
      if st = 2 then
        match fails with
        | some (reason, cause) => ((s.set TWIN.STATUS_REASON reason).pairTo 7 cause).twinFault UC cause
        | none => ({ s with twin := { s.twin with yield := false } }).arbitrate.startSync.judge
      else if st = 4 ∧ peerPair = 3 ∧ syncSource s then s.startSync
      else s))

/-- STATE_HASH_MISMATCH: a difference that has lasted 1 ms while no commit is on its way (R400). -/
def execStateHashMismatch (s : State) : Res :=
  match s.twin.hashSince with
  | some t =>
    if s.get TWIN.STATUS_PAIR = 4 ∧ t + usFt 1000 ≤ s.adv ∧ s.img.commit.isNone then .next (s.twinFault UC 6).startSync else .next s
  | none => .next s

/-! ### Checkpoints (R399) -/

/-- The CKPT segments of records: CKPT_SEQ, SEGMENT, LAST, FT, then records. -/
def State.sendSegments (s : State) (seq first : Nat) (rs : List (List Byte)) : State :=
  let bodies := packBodies 4000 [] rs
  (numbered bodies).foldl (fun (s : State) e =>
    s.sendTwin 0x61 (leBytes 4 seq ++ leBytes 2 (first + e.1) ++ leBytes 1 (bit (e.1 + 1 = bodies.length)) ++ leBytes 1 0 ++ leBytes 8 s.time.ft ++ e.2)) s

/-- The body of a queued checkpoint segment. -/
def segmentOf (p : Pkt) : Option (List Byte) :=
  match p.body with
  | .tfp ⟨h, .msg d⟩ _ _ => if h.kind = 0x61 then some d else none
  | _ => none

/-- A queued segment with its LAST bit cleared. -/
def notLast (p : Pkt) : Pkt :=
  match p.body with
  | .tfp ⟨h, .msg d⟩ c np => if h.kind = 0x61 then { p with body := .tfp ⟨h, .msg (d.take 6 ++ leBytes 1 0 ++ d.drop 7)⟩ c np } else p
  | _ => p

/-- The body of a checkpoint segment that waits in the twin bundle's link store to be placed. -/
def storedSegment (e : Sent) : Option (List Byte) :=
  match e.p with
  | ⟨h, .msg d⟩ => if h.kind = 0x61 ∧ ¬ e.out then some d else none
  | _ => none

/-- Such a segment with its LAST bit cleared. -/
def storedNotLast (e : Sent) : Sent :=
  match e.p with
  | ⟨h, .msg d⟩ => if h.kind = 0x61 ∧ ¬ e.out then { e with p := ⟨h, .msg (d.take 6 ++ leBytes 1 0 ++ d.drop 7)⟩ } else e
  | _ => e

/-- CHECKPOINT_SEND: a checkpoint still in transmission is extended by what has changed since; otherwise the next begins (R399). A segment is in
transmission until the link has placed it. -/
def execCheckpointSend (s : State) : Res :=
  if ¬ s.twin.ckptDue then .next s
  else
    let s := { s with twin := { s.twin with ckptDue := false } }
    if s.get TWIN.STATUS_PAIR ≠ 4 ∨ ¬ carries s.mode ∨ ¬ linkActive s s.twin.bundle then .next s
    else
      let queued := (s.link s.twin.bundle).store.filterMap storedSegment ++ s.core.pkts.filterMap segmentOf
      match s.twin.flight with
      | some (seq, sent) =>
        if queued ≠ [] then
          let rs := changedRecords s (SMap.setAll (fun _ => []) s.twin.acked sent)
          if rs = [] then .next s
          else
            let first := queued.foldl (fun (n : Nat) d => max n (ofLe ((d.drop 4).take 2) + 1)) 0
            let s := { s with core := { s.core with pkts := s.core.pkts.map notLast } }
            let s := s.onLink s.twin.bundle (fun l => { l with store := l.store.map storedNotLast })
            let (ws, s) := s.sealRecords seq rs
            let s := { s with twin := { s.twin with flight := some (seq, SMap.setAll (fun _ => []) sent (recordMap rs)) } }
            .next (s.sendSegments seq first ws)
        else
          let seq := (s.twin.ckptSeq + 1) % 2 ^ 32
          let rs := changedRecords s s.twin.acked
          let (ws, s) := s.sealRecords seq rs
          .next (({ s with twin := { s.twin with ckptSeq := seq, flight := some (seq, recordMap rs) } }).sendSegments seq 0 ws)
      | none =>
        let seq := (s.twin.ckptSeq + 1) % 2 ^ 32
        let rs := changedRecords s s.twin.acked
        let (ws, s) := s.sealRecords seq rs
        .next (({ s with twin := { s.twin with ckptSeq := seq, flight := some (seq, recordMap rs) } }).sendSegments seq 0 ws)

/-- The segments of a checkpoint in order, when the last is there and none is missing. -/
def whole (segs : List (Nat × List Byte)) : Option (List Byte) :=
  match segs.find? (fun e => ofLe ((e.2.drop 6).take 1) % 2 = 1) with
  | some l =>
    if (List.range (l.1 + 1)).all (fun k => segs.any (fun e => e.1 = k)) then
      some ((List.range (l.1 + 1)).flatMap (fun k => match segs.find? (fun e => e.1 = k) with
        | some e => e.2.drop 16
        | none => []))
    else none
  | none => none

/-- TW_CKPT_RECEIVE. -/
def execTwCkptReceive (b : Fin 4) (p : Tfp) (s : State) : Res :=
  .next (s.twinMsg b p 0x61 (fun s d =>
    let seq := ofLe (d.take 4)
    let segs : List (Nat × List Byte) := match s.twin.part with
      | some (q, l) => if q = seq then l else []
      | none => []
    let segs := segs ++ [(ofLe ((d.drop 4).take 2), d)]
    match whole segs with
    | none => { s with twin := { s.twin with part := some (seq, segs) } }
    | some rs =>
      let s := { s with twin := { s.twin with part := none } }
      let s := (s.wr TWIN.CKPT_RCVD (BitVec.ofNat 32 seq)).takeRecords seq (readRecords 65536 rs)
      s.sendTwin 0x62 (leBytes 4 seq)))

/-- TW_CKPT_ACK_RECEIVE: acknowledgements that waited for the checkpoint may go (R368). -/
def execTwCkptAckReceive (b : Fin 4) (p : Tfp) (s : State) : Res :=
  .next (s.twinMsg b p 0x62 (fun s d =>
    let seq := ofLe (d.take 4)
    let fresh := fun (q : Nat) => (q + 2 ^ 32 - (s.rd TWIN.CKPT_SENT).toNat) % 2 ^ 32
    if fresh seq = 0 ∨ fresh s.twin.ckptSeq < fresh seq then s
    else
      let s := s.wr TWIN.CKPT_SENT (BitVec.ofNat 32 seq)
      let s := (s.rma.conns.filter (fun e => e.2.held ≠ [])).foldl (fun s e => s.ackSoon e.1) s
      match s.twin.flight with
      | some (q, sent) =>
        { s with twin := { s.twin with ackAt := s.adv, acked := if q = seq then SMap.setAll (fun _ => []) s.twin.acked sent else s.twin.acked,
                                       flight := if q = seq then none else s.twin.flight } }
      | none => { s with twin := { s.twin with ackAt := s.adv } }))

/-- TWIN_MIRROR_ECC (R416). -/
def execTwinMirrorEcc (double : Bool) (s : State) : Res :=
  if ¬ double then .next (s.raiseFault 46 CE 0xFFFF)
  else
    let s := ({ s with twin := { s.twin with mirror := [] } }).twinFault UC 6
    .next (if s.get TWIN.STATUS_PAIR = 3 ∨ s.get TWIN.STATUS_PAIR = 4 then s.startSync else s)

/-! ### Pair commits (R380 to R383) -/

/-- TW_COMMIT_RECEIVE: the partner's checker takes the snapshot. Where both sides offer a commit, side L's proceeds and R's GO sets LOST (R381); a
commit or a switch-over under way here refuses it, and so does an image update of the pair (R414). -/
def execTwCommitReceive (b : Fin 4) (p : Tfp) (s : State) : Res :=
  .next (s.twinMsg b p 0x63 (fun s d =>
    let s := s.twinEvent .pairCommit [0x63]
    let id := ofLe ((d.drop 8).take 2)
    let st := s.get GLB.COMMIT_STATUS_STATE
    let stage := s.get IMG.STATUS_STAGE_STATE
    let meets : Bool := st = 1 && s.twin.sent.isSome && side s = 1
    let s := if meets then (s.pairDone.dropCommitCheck.set GLB.COMMIT_STATUS_STATE 0).set GLB.COMMIT_STATUS_LOST 1 else s
    if ¬ meets ∧ (st = 1 ∨ st = 2) ∨ stage = 4 ∨ stage = 5 ∨ s.flag TWIN.STATUS_UPDATE then s.pairAnswer id 0x11 0
    else
      let s := s.set GLB.COMMIT_STATUS_STATE 1
      { s with img := { s.img with checks := s.img.checks ++
          [CheckReq.partner id (ofLe (d.take 8)) (wordsOfRecords (readRecords 65536 (d.drop 10)))] } }))

/-- TW_COMMIT_RESULT_RECEIVE: the partner's answer to this side's commit, or its word on the one it made. -/
def execTwCommitResultReceive (b : Fin 4) (p : Tfp) (s : State) : Res :=
  .next (s.twinMsg b p 0x64 (fun s d =>
    let id := ofLe (d.take 2)
    let reason := ofLe ((d.drop 2).take 1)
    let off := ofLe ((d.drop 4).take 4)
    let s := s.twinEvent .pairCommit [0x64, id, reason, off]
    match s.twin.sent, s.twin.rcvd with
    | some (x, _), _ =>
      if x = id then ({ s with twin := { s.twin with result := some (reason, off) } }).pairSettle else s
    | none, some (x, epoch, snap) =>
      if x ≠ id then s
      else
        let s := { s with twin := { s.twin with rcvd := none } }
        if reason = 0 then s.stagePair id ⟨snap, false, epoch, true⟩
        else s.commitResult (snap.map Prod.fst) 4 0x11 0 epoch true
    | none, none =>
      match s.img.commit with
      | some c =>
        if c.pair ∧ s.twin.pairId = id ∧ reason ≠ 0 then ({ s with img := { s.img with commit := none } }).commitResult (c.snap.map Prod.fst) 5 0 0 c.epoch true else s
      | none => s))

/-- PAIR_COMMIT_TIMEOUT: no answer within 10 ms (R380). -/
def execPairCommitTimeout (s : State) : Res :=
  match s.twin.sent with
  | some (id, dl) =>
    if dl ≤ s.adv ∧ s.twin.result.isNone then
      .next (((s.pairDone.dropCommitCheck).pairAnswer id 0x11 0).commitResult (pairOffs s) 4 0x11 0 (commitEpoch s) true)
    else .next s
  | none => .next s

/-! ### Croak and the twin link (R403, R404) -/

/-- CROAK_TOGGLE: the output toggles when its time has come: at every fifth firing of the twin alarm on a paired side, by the internal timer on
an unpaired one. A stopped output holds its level. -/
def execCroakToggle (out : Fin 2) (s : State) : Res :=
  let flip := fun (s : State) => { s with twin := { s.twin with croakOut := s.twin.croakOut ^^^ 2 ^ out.val } }
  let runs : Bool := s.twin.croakRun && !s.flag TWIN.STATUS_CROAK_STOPPED && 1 ≤ s.mode && s.mode ≤ 6
  if s.twin.enable then
    if s.twin.toggle.contains out.val then
      let s := { s with twin := { s.twin with toggle := s.twin.toggle.filter (· ≠ out.val) } }
      .next (if runs ∧ (out = 1 ∨ s.get TWIN.STATUS_PAIR ≠ 0) then flip s else s)
    else .next s
  else if out = 1 ∧ s.due s.twin.croakDl then
    let s := { s with twin := { s.twin with croakDl := some (s.twin.croakDl.getD s.adv + usFt 500) } }
    .next (if runs then flip s else s)
  else .next s

/-- End the current slot (R404): without an edge it is missed, and the third in a row loses croak. -/
def State.endSlot (s : State) (c : Nat) : State :=
  let next := { s with twin := { s.twin with center := some (c + usFt 500), edges := 0 } }
  if s.twin.edges ≠ 0 then next.set TWIN.CROAK_MISSED 0
  else
    let m := min 3 (s.get TWIN.CROAK_MISSED + 1)
    let t := next.set TWIN.CROAK_MISSED m
    if m = 3 ∧ ¬ s.twin.croakLost then
      (({ t with twin := { t.twin with croakLost := true } }).set TWIN.STATUS_CROAK_OK 0).judge
    else t

/-- End every slot that is over; `fuel` bounds how many. -/
def State.endSlots : Nat → State → State
  | 0, s => s
  | k + 1, s =>
    match s.twin.center with
    | some c => if c + usFt 250 ≤ s.adv then State.endSlots k (s.endSlot c) else s
    | none => s

/-- CROAK_SLOT_END. -/
def execCroakSlotEnd (s : State) : Res :=
  match s.twin.center with
  | some c => .next (if c + usFt 250 ≤ s.adv ∧ s.get TWIN.STATUS_PAIR ≠ 0 then s.endSlot c else s)
  | none => .next s

/-- CROAK_EDGE: while croak counts as lost the edge acquires the phase; else it is present in the slot it falls in, re-centres it, and a further edge
in one slot counts once in GLITCH. -/
def execCroakEdge (s : State) : Res :=
  if ¬ s.twin.enable ∨ s.get TWIN.STATUS_PAIR = 0 then .next s
  else
    let s := s.endSlots 4
    if s.twin.croakLost then
      let s := { s with twin := { s.twin with center := some s.adv, edges := 1, croakLost := false } }
      .next ((s.set TWIN.STATUS_CROAK_OK 1).set TWIN.CROAK_MISSED 0).judge
    else if s.twin.edges = 0 then
      .next (({ s with twin := { s.twin with center := some s.adv, edges := 1 } }).set TWIN.CROAK_MISSED 0)
    else
      let s := if s.twin.edges = 1 then s.addSat TWIN.CROAK_GLITCH 1 else s
      .next { s with twin := { s.twin with edges := s.twin.edges + 1 } }

/-- TWIN_LINK_SILENT: 1,000 µs without a good flit (R404). -/
def execTwinLinkSilent (s : State) : Res :=
  if s.twin.enable ∧ s.get TWIN.STATUS_PAIR ≠ 0 ∧ ¬ s.twin.silent ∧ (s.link s.twin.bundle).lastGood + usFt 1000 ≤ s.adv then
    .next ((({ s with twin := { s.twin with silent := true } }).set TWIN.STATUS_LINK_OK 0).judge)
  else .next s

/-! ### Decisions (R406) -/

/-- What TAKE_OVER does. -/
def State.actTakeOver (s : State) : State :=
  if s.get TWIN.STATUS_PAIR ≠ 5 then s.twinRefused 6 0xB2
  else
    let flits : Bool := !s.twin.silent
    let s := (s.set TWIN.STATUS_REASON 0).twinFailover 5
    if flits then s.sendTwin 0x65 (roleBody 2 0xFE 0) else s

/-- What STAND_DOWN does. -/
def State.actStandDown (s : State) : State :=
  if s.get TWIN.STATUS_PAIR ≠ 5 then s.twinRefused 5 0xB2
  else (((s.set TWIN.STATUS_REASON 0).when (s.mode = 3 || s.mode = 4) State.toShadow).pairTo 7 5).twinFault UC 5

/-- A write of `TWIN.DECIDE` (R406): from any other path than the MSP it is refused with PRIV_PORT. -/
def State.actDecide (s : State) (val : Word) : State :=
  let s := if bitOf val.toNat 0 then s.actTakeOver else s
  if bitOf val.toNat 1 then s.actStandDown else s

/-- A write of `TWIN.DECIDE` on a path. -/
def State.decideWrite (s : State) (path : Path) (val : Word) : State :=
  let s := s.writing path TWIN.DECIDE val (fun s => s.actDecide val)
  if path = .msp then s else s.set TWIN.STATUS_REASON 0x09

/-- TWIN_TAKE_OVER. -/
def execTwinTakeOver (path : Path) (s : State) : Res := .next (s.decideWrite path 1)

/-- TWIN_STAND_DOWN. -/
def execTwinStandDown (path : Path) (s : State) : Res := .next (s.decideWrite path 2)

/-! ### Planned changes of role (R412, R413) -/

/-- The largest drain deadline of the data ports, in FT units. -/
def largestDrain (s : State) : Nat :=
  usFt ((dataPorts s).foldl (fun (m : Nat) n => max m (min 1000000 (max 1 (s.get (PORT.DRAIN_DEADLINE_DEADLINE_US n))))) 0)

/-- Why a role command is refused (R37, R39, R412, R413). `from6` tells whether it belongs to DEGRADED. Modes 0 to 2 have no path to the mode asked for
(R37), and a mode change in progress refuses every other (R39). -/
def roleRefusal (s : State) (from6 handback : Bool) : Option Nat :=
  if s.mode < 3 then some 0x16
  else if changeRuns s then some 0x1A
  else if s.get TWIN.STATUS_PAIR ≠ 4 then some 0xB1
  else if from6 ∧ s.mode ≠ 6 ∨ ¬ from6 ∧ s.mode ≠ 3 ∧ s.mode ≠ 4 then some 0x16
  else if handback ∧ s.twin.arrange ≠ 0 then some 0xB3
  else if (dataPorts s).any (fun n => decide (s.get (PORT.STATUS_DRAIN_STATE n) = 1)) then some 0x1A
  else (epochTests s (s.rd64 TWIN.CMD_EPOCH_LO) (usFt 50 + largestDrain s)).map Fail.reason

/-- Reserve every data port and set its drain to start its own deadline before the epoch (R87, R387, R412). -/
def State.planDrains (s : State) (epoch : Nat) : State :=
  (dataPorts s).foldl (fun (s : State) n =>
    let us := min 1000000 (max 1 (s.get (PORT.DRAIN_DEADLINE_DEADLINE_US n)))
    s.setPaux n { s.paux n with reserved := true, drainAt := some (epoch - usFt us) }) s

/-- Accept a role command: the partner is told, and the change waits for its epoch. -/
def State.acceptRole (s : State) (action msg want : Nat) : State :=
  let epoch := s.rd64 TWIN.CMD_EPOCH_LO
  let s := ((s.set TWIN.STATUS_REASON 0).set GLB.MODE_CHANGING 1).sendTwin 0x65 (roleBody msg 0xFE epoch)
  ({ s with twin := { s.twin with cmd := some (action, epoch, want) } }).twinEvent .roleMsg [msg]

/-- What DEMOTE does. -/
def State.actDemote (s : State) : State :=
  match roleRefusal s false false with
  | some c => s.twinRefused 5 c
  | none => (s.acceptRole 1 3 5).planDrains (s.rd64 TWIN.CMD_EPOCH_LO)

/-- What RESTORE does. -/
def State.actRestore (s : State) : State :=
  match roleRefusal s true false with
  | some c => s.twinRefused s.twin.former c
  | none => s.acceptRole 2 4 s.twin.former

/-- What HANDBACK does. -/
def State.actHandback (s : State) : State :=
  match roleRefusal s true true with
  | some c => s.twinRefused 5 c
  | none => (s.acceptRole 3 5 5).planDrains (s.rd64 TWIN.CMD_EPOCH_LO)

/-- What RESYNC does. -/
def State.actResync (s : State) : State :=
  if s.get TWIN.STATUS_PAIR = 3 ∨ s.get TWIN.STATUS_PAIR = 4 then s.startSync else s

/-- A write of `TWIN.CTRL`. -/
def State.actTwinCtrl (s : State) (val : Word) : State :=
  let s := if bitOf val.toNat 0 then s.actDemote else s
  let s := if bitOf val.toNat 1 then s.actRestore else s
  let s := if bitOf val.toNat 2 then s.actHandback else s
  if bitOf val.toNat 3 then s.actResync else s

/-- TWIN_DEMOTE. -/
def execTwinDemote (path : Path) (s : State) : Res := .next (s.writing path TWIN.CTRL 1 (fun s => s.actTwinCtrl 1))

/-- TWIN_RESTORE. -/
def execTwinRestore (path : Path) (s : State) : Res := .next (s.writing path TWIN.CTRL 2 (fun s => s.actTwinCtrl 2))

/-- TWIN_HANDBACK. -/
def execTwinHandback (path : Path) (s : State) : Res := .next (s.writing path TWIN.CTRL 4 (fun s => s.actTwinCtrl 4))

/-- TWIN_RESYNC. -/
def execTwinResync (path : Path) (s : State) : Res := .next (s.writing path TWIN.CTRL 8 (fun s => s.actTwinCtrl 8))

/-- DEMOTE_DRAIN_START: a data port's drain for a DEMOTE or HANDBACK starts its deadline before the epoch, so that it is DRAINED there (R412). -/
def execDemoteDrainStart (port : Fin 96) (s : State) : Res :=
  match (s.paux port).drainAt, s.twin.cmd with
  | some a, some (act, _, _) =>
    if a ≤ s.time.ft ∧ (act = 1 ∨ act = 3) then
      let s := s.setPaux port { s.paux port with drainAt := none }
      .next (if s.flag (PORT.CTRL_ENABLE port) ∧ s.get (PORT.STATUS_DRAIN_STATE port) = 0 ∧ ¬ s.flag (PORT.STATUS_SHED port) then s.startDrain port 5
             else s)
    else .next s
  | _, _ => .next s

/-- A change of role is complete: the reservations end and the ports drained for it return to ACTIVE, where SHADOW itself keeps them from carrying
traffic (R37, R130; log entry 34). -/
def State.endReservations (s : State) : State :=
  (List.range 96).foldl (fun (s : State) n =>
    if (s.paux n).reserved then
      let st := s.get (PORT.STATUS_DRAIN_STATE n)
      let own := (s.paux n).ownDrain
      let s := if st = 1 then s.drainEnds n 2 0 0 else s
      let s := s.setPaux n { s.paux n with reserved := false, drainAt := none, drainDl := none, ownDrain := false }
      if own ∧ (st = 1 ∨ st = 2) then s.set (PORT.STATUS_DRAIN_STATE n) 0 else s
    else s) s

/-- TWIN_ROLE_EPOCH: the role changes at its epoch (R412, R413); a change without an epoch, when every port reserved for it is drained. -/
def execTwinRoleEpoch (s : State) : Res :=
  match s.twin.cmd with
  | none => .next s
  | some (act, epoch, m) =>
    let ready : Bool := if act = 6 then !((List.range 96).any (fun n => (s.paux n).reserved && s.get (PORT.STATUS_DRAIN_STATE n) = 1))
      else decide (epoch ≤ s.time.ft)
    if ready then
      let s := { s with twin := { s.twin with cmd := none } }
      let s := if act = 2 ∨ act = 3 then s.endAlias else s
      .next (s.endReservations.enterMode m 2 false)
    else .next s

/-! ### The pair key (R401) -/

/-- What LOAD does: the key words become the pair key and are zeroed; the IV counter starts at 0. -/
def State.actPairKeyLoad (s : State) : State :=
  let key := (List.range 8).flatMap (fun k => leBytes 4 (s.rd (TWIN.PAIR_KEY k)).toNat)
  let s := (List.range 8).foldl (fun (s : State) k => s.wr (TWIN.PAIR_KEY k) 0) s
  ({ s with twin := { s.twin with pairKey := some key, iv := 0 } }).set TWIN.PAIR_KEY_CTRL_LOADED 1

/-- PAIR_KEY_LOAD. -/
def execPairKeyLoad (path : Path) (s : State) : Res := .next (s.writing path TWIN.PAIR_KEY_CTRL 1 (fun s => s.actPairKeyLoad))

end Sys2Proof.Machine
end

