-- ==== Sys2Proof/Machine/Reset.lean ====
section
/-! DEFINITION. Resets and start-up up to the loader (R507 to R509, R530, R551), clocks (R505) and temperature (R547). -/
namespace Sys2Proof.Machine
open Sys2Proof

/-! ### What a reset of the core domain keeps (R508) -/

/-- The register words that a reset of the core domain keeps: those of AON and the collector's first-fault record; on a warm reset also the
journal's place (R445) and its whole registers of R435. -/
def keptReg (wake : Bool) (off : Nat) : Bool :=
  off = TIME.WAKE_CTRL || off = TIME.WAKE_AT_LO || off = TIME.WAKE_AT_HI || off = PWR.WAKE_CFG || off = PWR.WAKE_STATUS || off = TIME.ERR_BOUND ||
  (List.range 4).any (fun r => off = PWR.RAIL_CFG r || (wake && off = PWR.RAIL_STATUS r)) ||
  off = FLT.FIRST || (FLT.FIRST_FT_LO ≤ off && off ≤ FLT.FIRST_LEDGER_HI) || (JRNL.LAST_HASH 0 ≤ off && off ≤ JRNL.LAST_HASH 7) ||
  (!wake && (off = JRNL.WR_INDEX || off = JRNL.RD_INDEX || off = JRNL.LOST || off = JRNL.RING_HEAD || off = JRNL.RING_TAIL))

/-- The fields of registers whose other fields a reset clears, kept by their values. -/
def keptFields (wake : Bool) : List RF :=
  [GLB.MODE_CURRENT, GLB.MODE_PREVIOUS, GLB.RESET_CAUSE, PWR.CTRL_PMB_400K, PWR.CTRL_PMB_PEC, TWIN.STATUS_SIDE, GUARD.DEBUG_UNLOCKED, TIME.STATUS_STATE, TIME.STATUS_HOLD_PHASE] ++
  (if wake then [] else (List.range 96).map PORT.INSERTION_SERIAL) ++ (List.range 16).map SLOT.STATUS_KILL

/-- Show the fuses (R510, R515): programmed and revoked key slots, the lifecycle that the next cold reset brings, a command in progress. -/
def State.showFuses (s : State) : State :=
  let key := fun (k : Nat) => (SMap.get (fun _ => none) s.fuses.keys k).isSome
  let s := s.set PWR.FUSE_STATUS_KEY_PROG (bit (key 0) + 2 * bit (key 1))
  let s := s.set PWR.FUSE_STATUS_KEY_REVOKED (bit (s.fuses.revoked.contains 0) + 2 * bit (s.fuses.revoked.contains 1))
  let s := s.set PWR.FUSE_STATUS_PENDING_LC (if s.fuses.pendRet then 2 else if s.fuses.pendProd then 1 else 0)
  s.set PWR.FUSE_STATUS_BUSY (bit s.img.fuseOp.isSome)

/-- The lifecycle and the fuses as the core shows them from the start (R243, R510). -/
def State.latchFuses (s : State) : State := (s.set GUARD.DEBUG_LIFECYCLE (lifecycle s)).showFuses

/-- A slot channel across a reset of the core: the level of its pin stays, and at a warm reset an output check runs on, or starts where the gate was on, which
the reset turns off (R456, R459; log entry 130). -/
def slotKept (s : State) (wake : Bool) (x : SlotAux) : SlotAux :=
  { raw := x.raw, rawAt := x.rawAt, checkDl := if wake then none else if x.gate then some (s.adv + usFt 50000) else x.checkDl }

/-- Reset the core domain (R508): everything is cleared but what AON, the flash and the fuses hold, the journal and the insertion serials at a warm
reset, and the levels of pins. A LOCKED counter resumes in HOLDOVER (R94, R95); CURRENT and PREVIOUS stay (R523). -/
def State.coreReset (s : State) (wake : Bool) : State :=
  let vals := (keptFields wake).map (fun f => (f, s.get f))
  let t := s.time
  let d := s.dbg
  let fresh : State :=
    { pending := s.pending, regs := SMap.keep (keptReg wake) s.regs, cycle := s.cycle, adv := s.adv, free := s.free, out := s.out,
      ledger := { last := s.ledger.last },
      jrnl := if wake then {} else { s.jrnl with queue := [], readyAt := s.cycle },
      time := { ft := t.ft, ppb := t.ppb, advFrac := t.advFrac, aon := t.ft, corrAt := t.corrAt, holdBase := t.holdBase, lastPps := t.lastPps,
                setDone := t.setDone, wakeDone := t.wakeDone },
      core := { nextId := s.core.nextId },
      mdma := { conflicts := s.mdma.conflicts },
      img := { flash := s.img.flash, fuseOp := s.img.fuseOp },
      fuses := s.fuses,
      slots := s.slots.map (fun e => (e.1, slotKept s wake e.2)),
      pwr := s.pwr,
      dbg := if wake then { fails := d.fails } else { d with nonce := none, busy := none } }
  let s := vals.foldl (fun (s : State) e => s.set e.1 e.2) fresh
  let s := if ftState s = 2 then s.set TIME.STATUS_STATE 1 else s
  let s := (List.range 16).foldl (fun (s : State) n =>
    let s := s.set (SLOT.STATUS_CHECKING n) (bit (SMap.get (fun _ => ({} : SlotAux)) s.slots n).checkDl.isSome)
    if s.flag (SLOT.STATUS_KILL n) then s.set (SLOT.STATUS_STATE n) 10 else s) s
  s.latchFuses

/-- The core starts from step 5 of start-up with a cause (R509, R515); every `_HI` latch is 0 (R8, R518). -/
def State.startCore (s : State) (cause : Nat) (wake : Bool) : State :=
  let s := { s with hiLatch := [], pwr := { s.pwr with up := 4, cold := false, wakeRun := wake, parkDl := none, wakeReq := false } }
  let s := (s.set PWR.DOMAIN_MISC_POWER_DIE 1).set PWR.DOMAIN_MISC_VDD_IO_GOOD 1
  s.set GLB.RESET_CAUSE cause

/-- A warm reset (R507, R551): a flash operation in progress finishes (log entry 41), waiting events are granted and written, the core domain resets
and starts again at step 5. -/
def State.warmReset (s : State) (cause : Nat) : State := (s.flashDone.flushLedger.coreReset false).startCore cause false

/-- Whether the core domain runs far enough to raise events. -/
def coreRuns (s : State) : Bool := 6 ≤ s.pwr.up && s.mode ≠ 7

/-! ### Cold reset and start-up (R509) -/

/-- COLD_RESET: `PWROK` low. Only fuses, flash contents, the levels of pins and what lies outside the part remain; fuses blown since the last one take
effect (R510). -/
def execColdReset (s : State) : Res :=
  let f := s.fuses
  .next { pending := s.pending, cycle := s.cycle, adv := s.adv, free := s.free, out := s.out,
          img := { flash := s.flashDone.img.flash },
          fuses := { f with prod := f.prod || f.pendProd, ret := f.ret || f.pendRet, pendProd := false, pendRet := false, keyData := [] },
          slots := s.slots.map (fun e => (e.1, { raw := e.2.raw, rawAt := e.2.rawAt })),
          pwr := { xtal := s.pwr.xtal, vinOk := s.pwr.vinOk } }

/-- PWROK_RISE: `TWIN_SIDE` is sampled (R392) and FT starts at 0 in FREE (R94). -/
def execPwrokRise (side : Bool) (s : State) : Res :=
  if s.pwr.up = 1 then
    let s := { s with pwr := { s.pwr with up := 2 }, time := { s.time with ft := 0, frac := 0, aon := 0 } }
    .next (s.set TWIN.STATUS_SIDE (bit side))
  else .next s

/-- FUSE_SENSE_DONE. -/
def execFuseSenseDone (s : State) : Res :=
  if s.pwr.up = 2 then .next (State.latchFuses { s with pwr := { s.pwr with up := 3 } }) else .next s

/-- CORE_RELEASE: the core supplies are in range and `RESET_N` is high. From a park the wake's own rails bring the core back (R504). -/
def execCoreRelease (s : State) : Res :=
  if s.pwr.up = 3 ∧ s.mode ≠ 7 ∧ s.get PWR.STATUS_PARK_STEP = 0 ∧ s.pwr.attempts = 0 then
    let s := { s with pwr := { s.pwr with up := 4 } }
    .next ((s.set PWR.DOMAIN_MISC_POWER_DIE 1).set PWR.DOMAIN_MISC_VDD_IO_GOOD 1)
  else .next s

/-- CORE_PLL_LOCK: core clocks run; the counter reloads from AON (R94). -/
def execCorePllLock (s : State) : Res :=
  if s.pwr.up = 4 then .next { s with pwr := { s.pwr with up := 5 }, time := { s.time with ft := s.time.aon, frac := 0 } } else .next s

/-- SRAM_INIT_DONE: COLD_START, WARM_RESET or WAKE is journaled, then source 44 for each rail whose wake timed out (R504, R509). -/
def execSramInitDone (s : State) : Res :=
  if s.pwr.up = 5 then
    let s := { s with pwr := { s.pwr with up := 6 } }
    let ty : EvType := if s.pwr.cold then .coldStart else if s.pwr.wakeRun then .wake else .warmReset
    let s := s.post Src.glb { type := ty, aux := s.get GLB.MODE_CURRENT, payload := [s.get GLB.RESET_CAUSE, 0, s.get PWR.WAKE_STATUS_LAST] }
    let s := if ty = .warmReset then s.timeEvent .timeSource 0 s.time.ft s.time.ft else s
    let s := s.pwr.timedOut.foldl (fun (s : State) r => s.raiseFault 44 UC r) s
    .next { s with pwr := { s.pwr with timedOut := [] } }
  else .next s

/-! ### Supplies, clocks, temperature -/

/-- BROWN_OUT (R530, R551): the core loses its power at once; events waiting and entries not written are lost; a PMBus request in progress ends as a
timeout. -/
def execBrownOut (s : State) : Res :=
  if s.pwr.up < 4 ∨ s.mode = 7 then .next s
  else
    let s := s.flashDone
    let rail := s.pwr.reqs.head?.map PmReq.rail
    let s := s.coreReset false
    let s := match rail with
      | some r =>
        let s := { s with pwr := { s.pwr with reqs := [], sentAt := none, timedOut := s.pwr.timedOut ++ [r] } }
        (s.set (PWR.RAIL_STATUS_STATE r) 3).set PWR.STATUS_REASON 0xC2
      | none => s
    .next (s.startCore 6 false)

/-- SUPPLY_EXCURSION: `r` is the rail of R497. -/
def execSupplyExcursion (r : Fin 4) (s : State) : Res := .next (if coreRuns s then s.raiseFault 44 UC r else s)

/-- XTAL_DETECT: the crystal replaces the RC oscillator; `AON_TICK` is one tick of whichever runs. -/
def execXtalDetect (s : State) : Res := .next { s with pwr := { s.pwr with xtal := true } }

/-- XTAL_STOP: FT is stepped when a reference is next accepted (R505). -/
def execXtalStop (s : State) : Res :=
  let s := { s with pwr := { s.pwr with xtal := false }, time := { s.time with setDone := false } }
  .next (if coreRuns s then s.raiseFault 43 UC 0xFFFF else s)

/-- CORE_PLL_LOSS: instance 0 the lock, 1 `REFCLK_P/N[0]` (R505). -/
def execCorePllLoss (refclk : Bool) (s : State) : Res := .next (if coreRuns s then s.raiseFault 52 FATAL (bit refclk) else s)

/-- THERMAL_THRESHOLD: 118 °C is CE, 125 °C UC, 132 °C FATAL (R547). -/
def execThermalThreshold (sensor : Fin 8) (level : Fin 3) (s : State) : Res := .next (if coreRuns s then s.raiseFault 53 level sensor else s)

end Sys2Proof.Machine
end

