-- ==== Sys2Proof/Machine/Fuse.lean ====
section
/-! DEFINITION. One-time fuses (R71, R76, R510), the lifecycle unlock (R511) and the test access port (R512). -/
namespace Sys2Proof.Machine
open Sys2Proof

/-! ### Fuse commands (R510) -/

/-- Whether key slot `k` is programmed. -/
def keyProg (s : State) (k : Nat) : Bool := (SMap.get (fun _ => none) s.fuses.keys k).isSome

/-- Whether the image that runs verifies under key slot `k`, programmed and not revoked. -/
def activeUnder (s : State) (k : Nat) : Bool :=
  match s.img.active with
  | some i => i.keySlot = k && keyProg s k && !s.fuses.revoked.contains k
  | none => false

/-- Whether the lifecycle permits a fuse command: 1 PROG_KEY, 2 SET_PROD, 3 SET_RETURN (R510). -/
def fusePermitted (s : State) (op slot : Nat) : Bool :=
  s.img.fuseOp.isNone &&
  match op, lifecycle s with
  | 1, 0 => !keyProg s slot
  | 1, 1 => !keyProg s slot && activeUnder s (1 - slot)
  | 2, 0 => keyProg s 0 || keyProg s 1
  | 3, 1 => true
  | _, _ => false

/-- The bytes of `PWR.FUSE_DATA`. -/
def fuseData (s : State) : List Byte := (List.range 12).flatMap (fun k => leBytes 4 (s.rd (PWR.FUSE_DATA k)).toNat)

/-- What GO does: the command starts, or is refused with FUSE_STATE; FUSE_DATA is zeroed either way (R510, R515). -/
def State.actFuseGo (s : State) (op slot : Nat) : State :=
  let data := fuseData s
  let ok := fusePermitted s op slot
  let s := (List.range 12).foldl (fun (s : State) k => s.wr (PWR.FUSE_DATA k) 0) s
  if ok then
    ({ s with img := { s.img with fuseOp := some (op, slot) }, fuses := { s.fuses with keyData := if op = 1 then data else [] } }).showFuses.set
      PWR.FUSE_STATUS_REASON 0
  else s.set PWR.FUSE_STATUS_REASON 0xC5

/-- A write of `PWR.FUSE_CMD`: OP and SLOT, then GO. -/
def State.actFuseCmd (s : State) (val : Word) : State :=
  let s := (s.set PWR.FUSE_CMD_OP (fieldOf val 0 2)).set PWR.FUSE_CMD_SLOT (fieldOf val 2 1)
  if bitOf val.toNat 3 then s.actFuseGo (fieldOf val 0 2) (fieldOf val 2 1) else s

/-- The word that runs fuse command `op` on the slot the register selects. -/
def fuseWord (s : State) (op : Nat) : Word := withField (strobe s PWR.FUSE_CMD_GO 0x7) 0 2 op

/-- FUSE_PROG_KEY. -/
def execFuseProgKey (path : Path) (s : State) : Res := .next (s.writing path PWR.FUSE_CMD (fuseWord s 1) (fun s => s.actFuseCmd (fuseWord s 1)))

/-- FUSE_SET_PROD. -/
def execFuseSetProd (path : Path) (s : State) : Res := .next (s.writing path PWR.FUSE_CMD (fuseWord s 2) (fun s => s.actFuseCmd (fuseWord s 2)))

/-- FUSE_SET_RETURN. -/
def execFuseSetReturn (path : Path) (s : State) : Res := .next (s.writing path PWR.FUSE_CMD (fuseWord s 3) (fun s => s.actFuseCmd (fuseWord s 3)))

/-! ### Commands of `IMG.CTRL` that blow fuses (R71, R76, R92) -/

/-- What ARV_COMMIT does: fuses are blown one after another until the counter is the active image's ARV; nothing when it has reached it, and nothing further while it runs (R519). -/
def State.actArvCommit (s : State) : State :=
  let ver := (s.rd IMG.ACTIVE_VERSION).toNat
  let slot := s.get IMG.STATUS_ACTIVE_SLOT
  match s.img.active with
  | some i =>
    if fuseRuns s 4 then s
    else if s.fuses.arv < i.arv ∧ s.img.fuseOp.isNone then ({ s with img := { s.img with fuseOp := some (4, i.arv) } }).showFuses
    else s.imgEvent .arvCommit ver slot 0 (activeHash s)
  | none => s.imgEvent .arvCommit ver slot 0 []

/-- The slot REVOKE_OTHER revokes; none where R71 refuses the request, where another fuse command is running (log entry 43), or where no image is in
force (BARE), whose other key slot nothing names: SEALED too, DESIGN CHOICE, R71 does not say (log entry 43). -/
def revokeTarget (s : State) : Option Nat :=
  match s.img.active with
  | none => none
  | some i =>
    let other := 1 - i.keySlot
    let staged : Bool := match s.img.staged with
      | some (j, _, _) => decide (j.keySlot = other)
      | none => false
    if s.get IMG.STATUS_ACTIVE_SLOT ≥ 2 ∨ s.fuses.revoked.contains other ∨ staged ∨ s.img.fuseOp.isSome then none else some other

/-- What REVOKE_OTHER does; nothing further while it runs (R519). -/
def State.actRevokeOther (s : State) : State :=
  if fuseRuns s 5 then s
  else match revokeTarget s with
  | some k => (({ s with img := { s.img with fuseOp := some (5, k) } }).showFuses).set IMG.STATUS_REASON 0
  | none => (s.set IMG.STATUS_REASON 0x17).imgEvent .keyslotRevoke (s.rd IMG.ACTIVE_VERSION).toNat (s.get IMG.STATUS_ACTIVE_SLOT) 0x17 (activeHash s)

/-! ### Read-back (R76) -/

/-- The outcome of an `IMG.CTRL` fuse command passes the ledger (R92): reason 0, or FUSE_STATE for a fuse that did not blow. -/
def State.fuseOutcome (s : State) (kind reason : Nat) : State :=
  if kind = 4 then s.imgEvent .arvCommit (s.rd IMG.ACTIVE_VERSION).toNat (s.get IMG.STATUS_ACTIVE_SLOT) reason (activeHash s)
  else if kind = 5 then s.imgEvent .keyslotRevoke (s.rd IMG.ACTIVE_VERSION).toNat (s.get IMG.STATUS_ACTIVE_SLOT) reason (activeHash s)
  else s

/-- A fuse of command `(kind, arg)` is blown. -/
def State.fuseBlown (s : State) (kind arg : Nat) : State :=
  let f := s.fuses
  let f := if kind = 1 then { f with keys := SMap.set (fun _ => none) f.keys arg (some f.keyData), keyData := [] }
    else if kind = 2 then { f with pendProd := true }
    else if kind = 3 then { f with pendRet := true }
    else if kind = 4 then { f with arv := f.arv + 1 }
    else { f with revoked := if f.revoked.contains arg then f.revoked else f.revoked ++ [arg] }
  { s with fuses := f }

/-- FUSE_READBACK: the fuse just blown reads back as `ok` says. ARV_COMMIT goes on to its next fuse; a fuse that failed stops the command and raises
source 51. -/
def execFuseReadback (ok : Bool) (s : State) : Res :=
  match s.img.fuseOp with
  | none => .next s
  | some (kind, arg) =>
    if ok then
      let s := s.fuseBlown kind arg
      let s := if kind = 4 then s.set IMG.STATUS_FUSED_ARV s.fuses.arv else s
      if kind = 4 ∧ s.fuses.arv < arg then .next s
      else .next ((({ s with img := { s.img with fuseOp := none } }).showFuses).fuseOutcome kind 0)
    else
      let s := (({ s with img := { s.img with fuseOp := none }, fuses := { s.fuses with keyData := [] } }).showFuses).fuseOutcome kind 0xC5
      .next (if coreRuns s then s.raiseFault 51 UC 0xFFFF else s)

/-! ### Unlocking in RETURN (R511) -/

/-- UNLOCK_CHALLENGE: a nonce of 32 bytes, which is free, and the die identity. -/
def execUnlockChallenge (s : State) : Res :=
  if lifecycle s = 2 ∧ coreRuns s then
    let (v, s) := s.fresh
    let nonce := leBytes 32 v
    .next (({ s with dbg := { s.dbg with nonce := some nonce, ir := 0x11 } }).emit (.jtag (nonce ++ (List.range 16).map Config.dieIdentity)))
  else .next s

/-- Whether a response opens the device: its key's hash is in a programmed key slot that is not revoked, and its signature over the challenge and
the die identity verifies. -/
def unlockGood (s : State) (nonce bytes : List Byte) : Bool :=
  let key := bytes.take 96
  bytes.length = 192 &&
    [0, 1].any (fun k => decide (SMap.get (fun _ => none) s.fuses.keys k = some (sha384 key)) && !s.fuses.revoked.contains k) &&
    ecdsaVerify key (bytes.drop 96) (nonce ++ (List.range 16).map Config.dieIdentity)

/-- A failed attempt: CE with UNLOCK_FAILED, the third UC. -/
def State.unlockFails (s : State) : State :=
  let n := s.dbg.fails + 1
  (({ s with dbg := { s.dbg with fails := n, nonce := none } }).set PWR.FUSE_STATUS_REASON 0xC6).raiseFault 51 (if n = 3 then UC else CE) 0xFFFF

/-- UNLOCK_RESPONSE: the 96-byte key and the 96-byte signature. -/
def execUnlockResponse (bytes : List Byte) (s : State) : Res :=
  if lifecycle s = 2 ∧ coreRuns s then
    let s := { s with dbg := { s.dbg with ir := 0x12 } }
    if 3 ≤ s.dbg.fails then .next (s.set PWR.FUSE_STATUS_REASON 0xC7)
    else match s.dbg.nonce with
      | none => .next s.unlockFails
      | some nonce =>
        if unlockGood s nonce bytes then
          let s := ({ s with dbg := { s.dbg with nonce := none } }).set GUARD.DEBUG_UNLOCKED 1
          .next ((s.set PWR.FUSE_STATUS_REASON 0).raiseFault 51 CE 0xFFFF)
        else .next s.unlockFails
  else .next s

/-! ### The test access port (R512) -/

/-- JTAG_IDCODE. -/
def execJtagIdcode (s : State) : Res := .next (({ s with dbg := { s.dbg with ir := 1 } }).emit (.jtag (leBytes 4 0x12568E3D)))

/-- JTAG_BYPASS: BYPASS or an unknown code. -/
def execJtagBypass (s : State) : Res := .next { s with dbg := { s.dbg with ir := 0xFF } }

/-- JTAG_SAMPLE_PRELOAD: the pins sampled are shifted out, the values shifted in are held for EXTEST. -/
def execJtagSamplePreload (pins : List Bool) (drive : List Bool) (s : State) : Res :=
  let padded := pins ++ List.replicate ((8 - pins.length % 8) % 8) false
  .next (({ s with dbg := { s.dbg with ir := 2, drive := drive } }).emit (.jtag (packBits padded)))

/-- JTAG_EXTEST: every digital pin but the SerDes balls is under scan. -/
def execJtagExtest (s : State) : Res := .next { s with dbg := { s.dbg with ir := 3, extest := true } }

/-- EXTEST_EXIT: leaving EXTEST by Test-Logic-Reset or `TRST_N` performs a warm reset; the instruction register returns to IDCODE. -/
def execExtestExit (s : State) : Res :=
  if s.dbg.extest then
    let s := { s with dbg := { s.dbg with extest := false, ir := 1 } }
    .next (if 4 ≤ s.pwr.up ∧ s.mode ≠ 7 then s.warmReset 4 else s)
  else .next s

end Sys2Proof.Machine
end

