-- ==== Sys2Proof/Machine/Mdma.lean ====
section
/-! DEFINITION. The management DMA engines (R484 to R487, R493): rings, descriptors, snapshots, messages and their answers. -/
namespace Sys2Proof.Machine
open Sys2Proof

/-! ### Engines (R484, R486) -/

/-- The partition that owns engine `e`. -/
def engPart (s : State) (e : Nat) : Nat := s.get (MDMA.ENG_OWNER_PART e)

/-- The arrival path of engine `e`'s owner: its partition's upstream port (R474, R485). -/
def engPath (s : State) (e : Nat) : Path := .pcie (Fin.ofNat 96 (upstreamOf s (engPart s e))) (Fin.ofNat 32 (engPart s e))

/-- Entries of an engine's rings. -/
def engSize (s : State) (e : Nat) : Nat := 2 ^ s.get (MDMA.ENG_CTRL_SIZE_EXP e)

/-- Whether an engine works: enabled and not stopped, in modes 0 to 6 (R484). -/
def engRuns (s : State) (e : Nat) : Bool := s.flag (MDMA.ENG_STATUS_RUNNING e) && s.mode ≠ 7

/-- Unit 100's check of an access (R486). -/
def State.mdmaGuard (s : State) (t : Tlp) : Option Bool × State :=
  s.guardCheck 100 0xFFF (needOf t) (decide (tlpCls t = 1)) (rangeOf t).1 (rangeOf t).2 t.rid

/-- Send host writes, each checked by unit 100; stops at the first refusal. -/
def State.mdmaWrites (s : State) (e : Nat) : List Tlp → Bool × State
  | [] => (true, s)
  | t :: ts => match s.mdmaGuard t with
    | (some lock, s) => (s.admitTo (enginePkt s t (upstreamOf s (engPart s e)) (.mdmaWrite e) lock)).mdmaWrites e ts
    | (none, s) => (false, s)

/-- Write bytes to host memory, in requests within Max_Payload_Size (R348, R486). -/
def State.hostWrite (s : State) (e addr : Nat) (data : List Byte) : Bool × State :=
  let p := engPart s e
  s.mdmaWrites e ((cutAt (upMps s p) 4097 addr data.length).map (fun c =>
    memTlp .memWr c.1 c.2 (upRid s p) 0 false none ((data.drop (c.1 - addr)).take c.2)))

/-- Write the record of a descriptor (R484): its slot, PHASE as R342, and VECTOR after it with SIGNAL. -/
def State.putMdmaRecord (s : State) (e : Nat) (j : MdmaJob) : State :=
  let i := s.get (MDMA.ENG_CQ_TAIL_COUNT e)
  let b := leBytes 8 j.tag ++ leBytes 4 j.index ++ leBytes 1 (j.status.getD 0) ++ leBytes 1 ((i / engSize s e + 1) % 2) ++ leBytes 2 0
  let s := (s.hostWrite e (s.rd64 (MDMA.ENG_CQ_BASE_LO e) / 4096 * 4096 + 16 * (i % engSize s e)) b).2
  let s := s.set (MDMA.ENG_CQ_TAIL_COUNT e) ((i + 1) % 65536)
  if j.flags % 2 = 1 then s.raiseVector (engPart s e) (s.get (MDMA.ENG_CTRL_VECTOR e)) else s

/-- How many messages of an engine await answers. -/
def msgsOut (s : State) (e : Nat) : Nat := (s.mdma.jobs.filter (fun j => j.eng = e ∧ j.msgId.isSome ∧ j.status = none)).length

/-- Show MSG_OUT. -/
def State.showMsgOut (s : State) (e : Nat) : State := s.set (MDMA.ENG_STATUS_MSG_OUT e) (msgsOut s e)

/-- Write the records that are due, in index order (R485); `fuel` bounds how many. -/
def State.mdmaRecords (e : Nat) : Nat → State → State
  | 0, s => s
  | k + 1, s =>
    match s.mdma.jobs.find? (fun j => j.eng = e ∧ j.index = (s.eng e).done) with
    | some j =>
      if j.status.isSome then
        let s := { s with mdma := { s.mdma with jobs := s.mdma.jobs.filter (fun x => x.id ≠ j.id) } }
        let s := s.setEng e { s.eng e with done := ((s.eng e).done + 1) % 2 ^ 32 }
        State.mdmaRecords e k (s.putMdmaRecord e j)
      else s
    | none => s

/-- Ask for the next descriptor when its doorbell and its completion ring allow (R340). -/
def State.mdmaFetch (s : State) (e : Nat) : State :=
  let i := (s.eng e).fetch % 65536
  let busy := (s.mdma.want ++ s.mdma.reads).any (fun r => r.what = 0 && r.eng = e)
  if engRuns s e ∧ ¬ busy ∧ i ≠ s.get (MDMA.ENG_SQ_TAIL_COUNT e) ∧ (i + 65536 - s.get (MDMA.ENG_CQ_HEAD_COUNT e)) % 65536 < engSize s e then
    { s with mdma := { s.mdma with want := s.mdma.want ++
        [MdmaRead.mk 0 e 0 0 0 (s.rd64 (MDMA.ENG_SQ_BASE_LO e) / 4096 * 4096 + 32 * (i % engSize s e)) 32 []] } }
  else s

/-- Issue one wanted read, or leave it waiting while 32 are outstanding (R486): the tag is one of 0 to 31 that is free. -/
def State.mdmaIssue (s : State) (r : MdmaRead) : State :=
  let free := (List.range 32).filter (fun k => ¬ (s.mdma.reads.map MdmaRead.tag).contains k)
  if free = [] then { s with mdma := { s.mdma with want := s.mdma.want ++ [r] } }
  else
    let (v, s) := s.fresh
    let tag := (free[v % free.length]?).getD 0
    let p := engPart s r.eng
    let t := { memTlp .memRd r.addr r.len (upRid s p) 0 false none [] with tag := tag }
    match s.mdmaGuard t with
    | (none, s) => s.mdmaReadLost r 2
    | (some lock, s) =>
      let s := { s with mdma := { s.mdma with reads := s.mdma.reads ++ [{ r with tag := tag }] } }
      let s := s.set MDMA.STATUS_READS_OUT s.mdma.reads.length
      s.admitTo (enginePkt s t (upstreamOf s p) (.mdmaRead tag) lock)

/-- Bring the engines forward: records, fetches, reads. -/
def State.mdmaPump (s : State) : State :=
  let s := (List.range 8).foldl (fun s e => if engRuns s e then (s.mdmaRecords e (s.mdma.jobs.length + 1)).mdmaFetch e else s) s
  let l := s.mdma.want
  let s := l.foldl (fun s r => s.mdmaIssue r) { s with mdma := { s.mdma with want := [] } }
  (List.range 8).foldl (fun s e => if engRuns s e then s.mdmaRecords e (s.mdma.jobs.length + 1) else s) s

/-- A descriptor of 32 bytes (R484); BAD_DESC for an operation, a flag, a count or an address outside the table. -/
def jobOf (d : List Byte) : MdmaJob :=
  let f := fun (o n : Nat) => ofLe ((d.drop o).take n)
  let op := f 0 1
  let count := f 2 2
  let addr := f 8 8
  let bad := ¬ (op = 1 ∨ op = 2 ∨ op = 3) ∨ 2 ≤ f 1 1 ∨ (op = 1 ∧ (count < 1 ∨ 512 < count)) ∨ (op = 2 ∧ (count < 32 ∨ 100 < count)) ∨
    (op ≠ 3 ∧ addr % 8 ≠ 0)
  { id := 0, eng := 0, index := 0, op := op, flags := f 1 1, count := count, first := f 4 4, addr := addr, tag := f 0x10 8, started := bad,
    status := if bad then some 1 else none }

/-- The next descriptor an engine has to start, when it is of operation `op` (descriptors are taken in index order). -/
def nextJob? (s : State) (e op : Nat) : Option MdmaJob :=
  match s.mdma.jobs.find? (fun j => j.eng = e && !j.started) with
  | some j => if j.op = op ∧ engRuns s e then some j else none
  | none => none

/-- Start a descriptor, with its status when it is already decided. -/
def State.startJob (s : State) (j : MdmaJob) (status : Option Nat) : State :=
  s.mapJobs (fun x => x.id = j.id) (fun x => { x with started := true, status := status })

/-- MDMA_NOP. -/
def execMdmaNop (e : Fin 8) (s : State) : Res :=
  .next (match nextJob? s e 3 with
    | some j => (s.startJob j (some 0)).mdmaPump
    | none => s)

/-! ### Snapshots (R485, R491) -/

/-- Whether a path reads the values of counter page `q` (R491). -/
def pageVisible (s : State) (path : Path) (q : Nat) : Bool :=
  hasClass s path 0 || (match path with
    | .pcie _ p => hasClass s path 5 && ((q < 96 && portOfPart s p.val q) || q = 100 + p.val)
    | _ => false)

/-- The bytes of COUNT counters from FIRST: 8 each, bits 63:48 zero; a counter beyond page 138 has none (R488). -/
def snapshotBytes (s : State) (first count : Nat) : List Byte :=
  (List.range count).flatMap (fun i => leBytes 8 (s.counter ((first + i) / 512) ((first + i) % 512)))

/-- MDMA_SNAPSHOT. -/
def execMdmaSnapshot (e : Fin 8) (s : State) : Res :=
  .next (match nextJob? s e 1 with
    | some j =>
      let pages := ((List.range j.count).map (fun i => (j.first + i) / 512)).dedup
      if pages.all (fun q => q < 139 && pageVisible s (engPath s e) q) then
        let (ok, s) := s.hostWrite e j.addr (snapshotBytes s j.first j.count)
        (s.startJob j (some (if ok then 0 else 2))).mdmaPump
      else (s.startJob j (some 4)).mdmaPump
    | none => s)

/-! ### Messages (R480, R481, R485) -/

/-- A common header from its 16 bytes (R309). -/
def hdrOf (b : List Byte) : TfpHdr :=
  let v := ofBe (b.take 16)
  { kind := bitsHiLo v 127 120, tc := bitsHiLo v 119 117, poison := bitsHiLo v 116 116 = 1, hops := bitsHiLo v 115 112, dstDev := bitsHiLo v 111 101,
    srcDev := bitsHiLo v 100 90, dstPort := bitsHiLo v 89 83, srcPort := bitsHiLo v 82 76, colour := bitsHiLo v 75 64, gen := bitsHiLo v 63 39,
    xid := bitsHiLo v 38 25, xidGen := bitsHiLo v 24 21, window := bitsHiLo v 20 10 }

/-- The management header (R480), beside the body that follows it. -/
structure MgHdr where
  msgId   : Nat := 0
  pathLen : Nat := 0
  pathPos : Nat := 0
  path    : Nat := 0
  ret     : Nat := 0
  status  : Nat := 0
  count   : Nat := 0
deriving DecidableEq, Repr

/-- Read it from the content after the common header. -/
def mgHdrOf (c : List Byte) : MgHdr :=
  let v := ofBe (c.take 16)
  { msgId := bitsHiLo v 127 112, pathLen := bitsHiLo v 111 108, pathPos := bitsHiLo v 107 104, path := bitsHiLo v 103 74, ret := bitsHiLo v 73 44,
    status := bitsHiLo v 43 36, count := bitsHiLo v 35 32 }

/-- Its 16 bytes. -/
def mgHdrBytes (h : MgHdr) : List Byte :=
  beBytes 16 (pack [(16, h.msgId), (4, h.pathLen), (4, h.pathPos), (30, h.path), (30, h.ret), (8, h.status), (4, h.count), (32, 0)])

/-- Hop `i` of a path: bits [29 − 2i : 28 − 2i] of its 30 bits. -/
def hopAt (v i : Nat) : Nat := v / 2 ^ (28 - 2 * i) % 4

/-- A path with hop `i` set. -/
def setHop (v i b : Nat) : Nat := v - hopAt v i * 2 ^ (28 - 2 * i) + b % 4 * 2 ^ (28 - 2 * i)

/-- Put a management message in the queue of bundle `b` (R154, R281). -/
def State.mgSend (s : State) (b : Nat) (p : Tfp) (ingress : Nat) : State :=
  s.addPkt { id := 0, body := .tfp p .mgt false, dest := 32 + 2 * b, egress := 112 + b, tc := p.hdr.tc, kind := 3, ro := false, colour := p.hdr.colour,
             gens := tfpStamp s .mgt, sub := none, ingress := ingress, cells := cellsOf (32 * tfpFlits p), place := .mgmtq,
             origin := .none_ }

/-- Send a message that begins here (R481, R485): source-routed on its first hop; by its DST_DEVID; or one hop on the bundle its DST_PORTID
names for DST_DEVID 0x7FF. -/
def State.mgOriginate (s : State) (p : Tfp) (c : List Byte) : State :=
  let h := mgHdrOf c
  let out := fun (s : State) (b : Nat) (c : List Byte) =>
    if b < 4 ∧ bundleUsable s b then s.mgSend b ⟨{ p.hdr with gen := genField (tfpStamp s .mgt) }, .msg c⟩ 120 else s.addSat BRG.DROP_NO_ROUTE 1
  if h.pathLen ≠ 0 then out s (hopAt h.path 0) (mgHdrBytes { h with pathPos := 1 } ++ c.drop 16)
  else if p.hdr.dstDev = 0x7FF then out s (p.hdr.dstPort - 112) c
  else match routeBundle s p.hdr.dstDev with
    | some b => out s b c
    | none => s.addSat BRG.DROP_NO_ROUTE 1

/-- MDMA_MSG_SEND: the message's content is wanted from ADDR, or the descriptor fails with PRIV; at most 8 messages of an engine await answers. -/
def execMdmaMsgSend (e : Fin 8) (s : State) : Res :=
  .next (match nextJob? s e 2 with
    | some j =>
      if ¬ hasClass s (engPath s e) 1 then (s.startJob j (some 4)).mdmaPump
      else if 8 ≤ (s.mdma.jobs.filter (fun x => x.eng = e.val ∧ x.op = 2 ∧ x.started ∧ x.status = none)).length then s
      else
        let s := s.startJob j none
        let l := (cutAt (upMrrs s (engPart s e)) 101 j.addr j.count).map (fun c => MdmaRead.mk 0 e 1 j.id (c.1 - j.addr) c.1 c.2 [])
        ({ s with mdma := { s.mdma with want := s.mdma.want ++ l } }).mdmaPump
    | none => s)

/-- The message of a descriptor is whole: SRC_DEVID, SRC_PORTID, COLOUR and GEN are filled in and MSG_ID replaced, and it goes (R485). A kind
that is no management message fails with BAD_DESC. -/
def State.mgDepart (s : State) (j : MdmaJob) (bytes : List Byte) : State :=
  let h := hdrOf bytes
  let c := bytes.drop 16
  if ¬ (0x40 ≤ h.kind ∧ h.kind ≤ 0x47 ∧ h.kind ≠ 0x43) then s.mapJobs (fun x => x.id = j.id) (fun x => { x with status := some 1 })
  else
    let m := mgHdrOf c
    let n := s.mdma.msgSeq
    let s := { s with mdma := { s.mdma with msgSeq := (n + 1) % 65536 } }
    let s := s.mapJobs (fun x => x.id = j.id) (fun x => { x with msgId := some n, ownId := m.msgId, dl := some (s.adv + usFt 10000) })
    let h := { h with srcDev := ownDev s, srcPort := 120, colour := 0xFFF, gen := genField (stamp s false false false true true) }
    (s.mgOriginate ⟨h, .msg (mgHdrBytes { m with msgId := n } ++ c.drop 16)⟩ (mgHdrBytes { m with msgId := n } ++ c.drop 16)).showMsgOut j.eng

/-- Data of an engine's read arrives (R486): a descriptor joins the jobs; message content that is whole departs. -/
def State.mdmaData (s : State) (r : MdmaRead) (data : List Byte) : State :=
  if r.what = 0 then s.addJob r.eng (jobOf data)
  else
    let s := s.mapJobs (fun j => j.id = r.job) (fun j => { j with parts := j.parts ++ [(r.off, data)] })
    match s.mdma.jobs.find? (fun j => j.id = r.job) with
    | some j =>
      let got := j.parts.mergeSort (fun a b => a.1 ≤ b.1)
      let bytes := got.flatMap Prod.snd
      if j.status = none ∧ j.count ≤ bytes.length then s.mgDepart j (bytes.take j.count) else s
    | none => s

/-- An engine's read ends with an outcome of the host (R486). -/
def State.mdmaRead (s : State) (tag : Nat) (status : HostStatus) (data : List Byte) : State :=
  match s.mdma.reads.find? (fun r => r.tag = tag) with
  | some r =>
    let s := s.mdmaReadFree tag
    (match status with
      | .ok => s.mdmaData r (data.take r.len)
      | .guard => s.mdmaReadLost r 2
      | .ur | .ca | .poison => s.mdmaReadLost r 3).mdmaPump
  | none => s

/-- MDMA_HOST_READ_COMPLETE. -/
def execMdmaHostReadComplete (tag : Nat) (status : HostStatus) (data : List Byte) (s : State) : Res :=
  .next (if readQueued s (.mdmaRead tag) then s
    else match s.mdma.reads.find? (fun r => r.tag = tag) with
      | some r => if status = .ok ∧ data.length < r.len then s else (s.closeOut (.mdmaRead tag)).mdmaRead tag status data
      | none => s)

/-- MDMA_MSG_TIMEOUT: 10 ms without an answer (R485). -/
def execMdmaMsgTimeout (e : Fin 8) (s : State) : Res :=
  let late := fun (j : MdmaJob) => decide (j.eng = e.val) && j.msgId.isSome && j.status.isNone && s.due j.dl
  .next (if s.mdma.jobs.any late then ((s.mapJobs late (fun j => { j with status := some 5 })).showMsgOut e).mdmaPump else s)

/-- An answer has arrived (R485): it is written to ADDR with the sender's own MSG_ID, or it is late, and counted (index 0 of the device
page, log entry 21). -/
def State.mgAnswer (s : State) (p : Tfp) (c : List Byte) : State :=
  let h := mgHdrOf c
  match s.mdma.jobs.find? (fun j => j.msgId = some h.msgId && j.status.isNone) with
  | some j =>
    let (ok, s) := s.hostWrite j.eng j.addr (hdrBytes p.hdr ++ mgHdrBytes { h with msgId := j.ownId } ++ c.drop 16)
    ((s.mapJobs (fun x => x.id = j.id) (fun x => { x with status := some (if ok then 0 else 2) })).showMsgOut j.eng).mdmaPump
  | none => s.count 138 0 1

/-! ### Registers (R487, R493) -/

/-- A write to an engine's registers is refused: both REASON fields name why. -/
def State.mdmaRefused (s : State) (e code : Nat) : State := (s.set MDMA.STATUS_REASON code).set (MDMA.ENG_STATUS_REASON e) code

/-- A write to an engine's registers is taken. -/
def State.mdmaTaken (s : State) (e : Nat) : State := s.mdmaRefused e 0

/-- An engine stops and forgets what it had in progress. -/
def State.mdmaClears (s : State) (e : Nat) : State :=
  let s := { s with mdma := { s.mdma with jobs := s.mdma.jobs.filter (fun j => j.eng ≠ e), want := s.mdma.want.filter (fun r => r.eng ≠ e) } }
  (s.setEng e {}).showMsgOut e

/-- An engine stops with ERR, UC on source 49 with its partition as the instance (R340, R484, R493). -/
def State.mdmaStops (s : State) (e : Nat) : State :=
  ((s.set (MDMA.ENG_STATUS_RUNNING e) 0).set (MDMA.ENG_STATUS_ERR e) 1).raiseFault 49 UC (engPart s e)

/-- What an accepted write of `MDMA.ENG[e].CTRL` does. -/
def State.applyMdmaCtrl (s : State) (e : Nat) (val : Word) : State :=
  let on := s.flag (MDMA.ENG_CTRL_ENABLE e)
  let set_ := bitOf val.toNat 0
  let s := if on ∧ ¬ set_ then
      let s := s.mapJobs (fun j => j.eng = e ∧ j.status = none) (fun j => { j with status := some 6 })
      let s := if engRuns s e then s.mdmaRecords e (s.mdma.jobs.length + 1) else s
      (s.mdmaClears e).set (MDMA.ENG_STATUS_RUNNING e) 0
    else s
  let s := (s.wr (MDMA.ENG_CTRL e) (val &&& 0x7FF)).mdmaTaken e
  if set_ ∧ ¬ on then
    let s := s.mdmaClears e
    let s := (s.wr (MDMA.ENG_SQ_TAIL e) 0).wr (MDMA.ENG_SQ_HEAD e) 0
    let s := (s.wr (MDMA.ENG_CQ_HEAD e) 0).wr (MDMA.ENG_CQ_TAIL e) 0
    s.set (MDMA.ENG_STATUS_RUNNING e) 1
  else s

/-- What refuses ENABLE of an engine with CTRL written as `val`: its reason, 0 for none. -/
def mdmaRefusal (s : State) (e : Nat) (val : Word) : Nat :=
  let size := fieldOf val 1 4
  if e = 0 then 0x03
  else if s.mode = 7 then 0x16
  else if ¬ s.flag (MDMA.ENG_OWNER_VALID e) then 0x03
  else if size < 4 ∨ 12 < size then 0x19
  else 0

/-- A write of `MDMA.ENG[e].CTRL` that sets no ENABLE. -/
def State.mdmaWritten (s : State) (e : Nat) (val : Word) : State := if e = 0 then s.mdmaRefused e 0x03 else s.applyMdmaCtrl e val

/-- A write of `MDMA.ENG[e].CTRL`: one that sets ENABLE is tested by the checker (R77). -/
def State.actMdmaCtrl (s : State) (path : Path) (e : Nat) (val : Word) : State :=
  s.enableWrite path (MDMA.ENG_CTRL e) val (s.flag (MDMA.ENG_CTRL_ENABLE e)) (fun s => s.mdmaWritten e val)

/-- What a write of OWNER does (R487). -/
def State.actMdmaOwner (s : State) (e : Nat) (val : Word) : State :=
  if e = 0 ∨ s.flag (MDMA.ENG_CTRL_ENABLE e) then s.mdmaRefused e 0x03
  else (s.wr (MDMA.ENG_OWNER e) (val &&& 0x3F)).mdmaTaken e

/-- What a write of SQ_TAIL does (R340, R484). -/
def State.actMdmaTail (s : State) (e tail : Nat) : State :=
  if e = 0 then s.mdmaRefused e 0x03
  else
    let s := (s.set (MDMA.ENG_SQ_TAIL_COUNT e) tail).mdmaTaken e
    if ¬ engRuns s e then s
    else if engSize s e < (tail + 65536 - s.get (MDMA.ENG_SQ_HEAD_COUNT e)) % 65536 then s.mdmaStops e
    else s.mdmaPump

/-- What a write of register word `k` of an engine does: 0 OWNER, 1 CTRL, 2 to 5 the bases, 6 SQ_TAIL, 8 CQ_HEAD, 10 STATUS. -/
def State.actMdmaWord (s : State) (path : Path) (e k : Nat) (val : Word) : State :=
  if e = 0 then s.mdmaRefused e 0x03
  else if k = 0 then s.actMdmaOwner e val
  else if k = 1 then s.actMdmaCtrl path e val
  else if k = 6 then s.actMdmaTail e (fieldOf val 0 16)
  else if k = 8 then ((s.set (MDMA.ENG_CQ_HEAD_COUNT e) (fieldOf val 0 16)).mdmaTaken e).mdmaPump
  else if k = 10 then (if bitOf val.toNat 1 then (s.set (MDMA.ENG_STATUS_ERR e) 0).mdmaTaken e else s)
  else if 2 ≤ k ∧ k ≤ 5 then (s.wr (MDMA.ENG_OWNER e + 4 * k) (val &&& (if k % 2 = 0 then 0xFFFFF000 else 0xFFFFFFFF))).mdmaTaken e
  else s

/-- MDMA_ENABLE. -/
def execMdmaEnable (path : Path) (e : Fin 8) (s : State) : Res :=
  .next (s.writing path (MDMA.ENG_CTRL e) (strobe s (MDMA.ENG_CTRL_ENABLE e) 0x7FF) (fun s => s.actMdmaCtrl path e (strobe s (MDMA.ENG_CTRL_ENABLE e) 0x7FF)))

/-- MDMA_DISABLE. -/
def execMdmaDisable (path : Path) (e : Fin 8) (s : State) : Res :=
  .next (s.writing path (MDMA.ENG_CTRL e) (withField (s.rd (MDMA.ENG_CTRL e)) 0 1 0)
    (fun s => s.actMdmaCtrl path e (withField (s.rd (MDMA.ENG_CTRL e)) 0 1 0)))

/-- MDMA_OWNER_WRITE. -/
def execMdmaOwnerWrite (path : Path) (e : Fin 8) (val : Word) (s : State) : Res :=
  .next (s.writing path (MDMA.ENG_OWNER e) val (fun s => s.actMdmaOwner e val))

/-- MDMA_DOORBELL. -/
def execMdmaDoorbell (path : Path) (e : Fin 8) (tail : BitVec 16) (s : State) : Res :=
  .next (s.writing path (MDMA.ENG_SQ_TAIL e) (tail.setWidth 32) (fun s => s.actMdmaTail e tail.toNat))

/-- MDMA_ECC_ERROR: corrected, or the engine stops with ERR. -/
def execMdmaEccError (e : Fin 8) (double : Bool) (s : State) : Res :=
  .next (if double then (s.set MDMA.STATUS_ECC_UE 1).mdmaStops e else (s.set MDMA.STATUS_ECC_CE 1).raiseFault 49 CE (engPart s e))

end Sys2Proof.Machine
end

