-- ==== Sys2Proof/Machine/Power.lean ====
section
/-! DEFINITION. Rails over PMBus and adaptive voltage (R497 to R500), the park sequence and wakes (R501 to R504), warm resets by command (R507). -/
namespace Sys2Proof.Machine
open Sys2Proof

/-! ### Requests over PMBus (R497, R498) -/

/-- An event of a rail on source 44: recorded at once, or after the start while the core is off (R504). -/
def State.railFault (s : State) (r : Nat) : State :=
  if coreRuns s then s.raiseFault 44 UC r else { s with pwr := { s.pwr with timedOut := s.pwr.timedOut ++ [r] } }

/-- The transactions of a request (R497): PAGE unless it is 0xFF, then OPERATION, VOUT_COMMAND or CLEAR_FAULTS. The encodings of the data are the
PMBus specification's (log entry 42); that of a voltage depends on the regulator's VOUT_MODE, which is open. -/
def State.pmSend (s : State) (q : PmReq) : State :=
  let page := s.get (PWR.RAIL_CFG_PAGE q.rail)
  let s := if page = 0xFF then s else s.emit (.pmbus q.rail 0x00 [BitVec.ofNat 8 page])
  let s := match q.kind with
    | 0 => s.emit (.pmbus q.rail 0x01 [0x00])
    | 1 => s.emit (.pmbus q.rail 0x01 [0x80])
    | 2 => let (v, s) := s.fresh; s.emit (.pmbus q.rail 0x21 (leBytes 2 v))
    | _ => s.emit (.pmbus q.rail 0x03 [])
  ({ s with pwr := { s.pwr with sentAt := some s.adv } }).set PWR.STATUS_PMB_BUSY 1

/-- A request arises: it waits its turn (R498). -/
def State.pmAsk (s : State) (q : PmReq) : State :=
  let idle := s.pwr.reqs.isEmpty
  let s := { s with pwr := { s.pwr with reqs := s.pwr.reqs ++ [q] } }
  if idle then s.pmSend q else s

/-- The rails with PARK_OFF, in an order. -/
def parkRails (s : State) (order : List Nat) : List Nat := order.filter (fun r => s.flag (PWR.RAIL_CFG_PARK_OFF r))

/-- Ask for every rail with PARK_OFF, in the order of a park or of a wake. -/
def State.askRails (s : State) (order : List Nat) (kind why : Nat) : State :=
  (parkRails s order).foldl (fun (s : State) r => s.pmAsk { rail := r, kind := kind, why := why }) s

/-- The rails are good: the core comes out of reset (R504); with PARKED not reached, it is the warm reset that abandoned the park (R501). -/
def State.wakeGood (s : State) : State :=
  let s := { s with pwr := { s.pwr with attempts := 0, retryDl := none } }
  let was7 : Bool := s.mode = 7
  (s.set GLB.MODE_CHANGING 0).startCore (if was7 then 5 else 1) was7

/-- Turn the rails on; without one the core starts at once. -/
def State.wakeTry (s : State) : State :=
  let s := { s with pwr := { s.pwr with retryDl := none } }
  if parkRails s [3, 0, 1, 2] = [] then s.wakeGood else s.askRails [3, 0, 1, 2] 1 2

/-- A wake attempt failed at rail `r` (R504): every rail is asked off; after the third the device stays PARKED, else it tries again 100 ms later. -/
def State.wakeFailed (s : State) (r : Nat) : State :=
  let s := { s with pwr := { s.pwr with reqs := [], sentAt := none, attempts := s.pwr.attempts + 1 } }
  let s := s.askRails [2, 1, 0, 3] 0 3
  if 3 ≤ s.pwr.attempts then
    let s := { s with pwr := { s.pwr with attempts := 0, retryDl := none } }
    let s := if s.mode = 7 then s else (s.set GLB.MODE_PREVIOUS s.pwr.parkMode).set GLB.MODE_CURRENT 7
    (s.set PWR.WAKE_STATUS_FAIL 1).set PWR.WAKE_STATUS_FAIL_RAIL r
  else { s with pwr := { s.pwr with retryDl := some (s.adv + usFt 100000) } }

/-- The AVS state after its request ends: FAILED freezes it (R500). -/
def State.avsEnded (s : State) (q : PmReq) (ok : Bool) : State :=
  let s := if ok then s.set PWR.AVS_STATUS_MV q.mv else s
  if ¬ s.flag PWR.CTRL_AVS_EN then s.set PWR.STATUS_AVS_STATE 0 else s.set PWR.STATUS_AVS_STATE (if ok then 1 else 3)

/-- A request ends: the rail's state, the next request, and what waited for it. -/
def State.pmEnds (s : State) (q : PmReq) (ok : Bool) : State :=
  let s := { s with pwr := { s.pwr with reqs := s.pwr.reqs.drop 1, sentAt := none } }
  let s := s.set PWR.STATUS_PMB_BUSY 0
  let s := if ok ∧ q.kind = 0 then s.set (PWR.RAIL_STATUS_STATE q.rail) 2 else if ok ∧ q.kind = 1 then s.set (PWR.RAIL_STATUS_STATE q.rail) 1 else s
  let s := match s.pwr.reqs with
    | n :: _ => if q.why = 2 ∧ ¬ ok then s else s.pmSend n
    | [] => s
  if q.why = 1 ∧ ¬ ok then (s.set PWR.WAKE_STATUS_FAIL 1).set PWR.WAKE_STATUS_FAIL_RAIL q.rail
  else if q.why = 2 then
    (if ¬ ok then s.wakeFailed q.rail else if s.pwr.reqs.any (fun x => x.why = 2) then s else s.wakeGood)
  else if q.kind = 2 then s.avsEnded q ok
  else s

/-- Whether a STATUS_WORD shows the result of a request (R498). -/
def pmResult (kind : Nat) (w : BitVec 16) : Bool :=
  let b := fun (i : Nat) => bitOf w.toNat i
  if kind = 0 then b 11 else if kind = 3 then true else !b 11 && !b 6 && !b 15

/-- A request ends on a NACK or a PEC mismatch (R498). -/
def State.pmNack (s : State) (q : PmReq) : State := ((s.set PWR.STATUS_REASON 0xC3).railFault q.rail).pmEnds q false

/-- PMBUS_POLL: a read of STATUS_WORD, from 100 µs after the command; no word is a NACK or a PEC mismatch. -/
def execPmbusPoll (word : Option (BitVec 16)) (s : State) : Res :=
  match s.pwr.reqs with
  | [] => .next s
  | q :: _ =>
    if ¬ s.due (s.pwr.sentAt.map (· + usFt 100)) then .next s
    else match word with
      | none => .next (s.pmNack q)
      | some w =>
        let s := s.set (PWR.RAIL_STATUS_STATUS_WORD q.rail) w.toNat
        .next (if pmResult q.kind w then s.pmEnds q true else s)

/-- PMBUS_TIMEOUT. -/
def execPmbusTimeout (s : State) : Res :=
  match s.pwr.reqs with
  | [] => .next s
  | q :: _ =>
    if s.due (s.pwr.sentAt.map (· + usFt 5000)) then
      let s := (s.set (PWR.RAIL_STATUS_STATE q.rail) 3).set PWR.STATUS_REASON 0xC2
      .next ((s.railFault q.rail).pmEnds q false)
    else .next s

/-- One rail's word while `PMB_ALERT_N` is low (R499). -/
def State.alertWord (s : State) (r : Nat) : Option (BitVec 16) → State
  | none => (s.set PWR.STATUS_REASON 0xC3).railFault r
  | some w =>
    let s := s.set (PWR.RAIL_STATUS_STATUS_WORD r) w.toNat
    if [15, 14, 13, 5, 4].any (fun i => bitOf w.toNat i) then s.railFault r else s

/-- PMBUS_ALERT_POLL: `words` in rail order, once per 1 ms. -/
def execPmbusAlertPoll (words : List (Option (BitVec 16))) (s : State) : Res :=
  let paced : Bool := match s.pwr.alertAt with
    | some t => decide (t + usFt 1000 ≤ s.adv)
    | none => true
  if s.pwr.up < 2 ∨ paced = false then .next s
  else
    let s := { s with pwr := { s.pwr with alertAt := some s.adv } }
    .next (((List.range 4).zip words).foldl (fun (s : State) e => if s.flag (PWR.RAIL_CFG_EN e.1) then s.alertWord e.1 e.2 else s) s)

/-- What CLEAR does: CLEAR_FAULTS to a rail served, else PMBUS_CONFIG (R499, R514); nothing further while one is pending (R519). -/
def State.actRailClear (s : State) (r : Nat) : State :=
  if clearPending s r then s
  else if s.flag (PWR.RAIL_CFG_EN r) then (s.set PWR.STATUS_REASON 0).pmAsk { rail := r, kind := 3 } else s.set PWR.STATUS_REASON 0xC4

/-- RAIL_CLEAR. -/
def execRailClear (path : Path) (r : Fin 4) (s : State) : Res :=
  .next (s.writing path (PWR.RAIL_STATUS r) (strobe s (PWR.RAIL_STATUS_CLEAR r) 0) (fun s => s.actRailClear r))

/-! ### Adaptive voltage (R500) -/

/-- Whether AVS may run: rail 0 served and limits within 650 to 850 mV. -/
def avsOk (s : State) : Bool :=
  let lo := s.get PWR.AVS_CFG_MIN_MV
  let hi := s.get PWR.AVS_CFG_MAX_MV
  s.flag (PWR.RAIL_CFG_EN 0) && decide (650 ≤ lo) && decide (lo ≤ hi) && decide (hi ≤ 850)

/-- AVS starts, or is refused with PMBUS_CONFIG. -/
def State.avsStart (s : State) : State :=
  if avsOk s then ((s.set PWR.CTRL_AVS_EN 1).set PWR.STATUS_AVS_STATE 1).set PWR.STATUS_REASON 0
  else (s.set PWR.CTRL_AVS_EN 0).set PWR.STATUS_REASON 0xC4

/-- AVS is cleared: 750 mV is requested and the rail stays there. -/
def State.avsStop (s : State) : State :=
  let s := (s.set PWR.CTRL_AVS_EN 0).set PWR.STATUS_AVS_STATE 0
  if s.flag (PWR.RAIL_CFG_EN 0) then s.pmAsk { rail := 0, kind := 2, mv := 750 } else s

/-- AVS_STEP: the monitors show `marginMv` more margin than the target; a step of 5 mV toward it, within the limits, at most one per 1 ms and none
while one waits for its acknowledgement. -/
def execAvsStep (marginMv : Int) (s : State) : Res :=
  let v := s.get PWR.AVS_STATUS_MV
  let lo := s.get PWR.AVS_CFG_MIN_MV
  let hi := s.get PWR.AVS_CFG_MAX_MV
  let next := if 0 < marginMv then max lo (v - 5) else if marginMv < 0 then min hi (v + 5) else v
  let paced : Bool := match s.pwr.avsAt with
    | some t => decide (t + usFt 1000 ≤ s.adv)
    | none => true
  if coreRuns s ∧ s.flag PWR.CTRL_AVS_EN ∧ s.get PWR.STATUS_AVS_STATE = 1 ∧ avsOk s ∧ paced = true ∧ next ≠ v then
    let s := ({ s with pwr := { s.pwr with avsAt := some s.adv } }).set PWR.STATUS_AVS_STATE 2
    .next (s.pmAsk { rail := 0, kind := 2, mv := next })
  else .next s

/-! ### Wake (R503, R504) -/

/-- Whether a wake from PARKED is under way. -/
def waking (s : State) : Bool := s.pwr.reqs.any (fun q => q.why = 2) || s.pwr.retryDl.isSome

/-- A wake trigger: LAST is 1 a pin, 2 the alarm, 3 the MSP, 4 `RESET_N`. In PARKED it wakes; the first one keeps LAST, the lowest of those that come
together; during a park it is remembered (R501). -/
def State.wakeTrigger (s : State) (code : Nat) : State :=
  if s.mode = 7 then
    (if waking s then
      (if s.pwr.sentAt = some s.adv ∧ s.pwr.attempts = 0 ∧ code < s.get PWR.WAKE_STATUS_LAST then s.set PWR.WAKE_STATUS_LAST code else s)
     else ({ (s.set PWR.WAKE_STATUS_LAST code) with pwr := { s.pwr with attempts := 0 } }).wakeTry)
  else if s.get PWR.STATUS_PARK_STEP ≠ 0 then
    let s := if s.pwr.wakeReq then s else s.set PWR.WAKE_STATUS_LAST code
    { s with pwr := { s.pwr with wakeReq := true } }
  else s

/-- WAKE_PIN: the pin has held its active level for DEBOUNCE_MS: PIN is latched, and an enabled pin is a wake trigger. -/
def execWakePin (i : Fin 4) (s : State) : Res :=
  if s.pwr.up < 2 then .next s
  else
    let s := s.set PWR.WAKE_STATUS_PIN (s.get PWR.WAKE_STATUS_PIN ||| 2 ^ i.val)
    .next (if bitOf (s.get PWR.WAKE_CFG_EN) i then s.wakeTrigger 1 else s)

/-- FT as the wake alarm compares it: the AON copy while the core has no clock. -/
def wakeFt (s : State) : Nat := if coreClock s then s.time.ft else s.time.aon

/-- WAKE_ALARM_FIRE (R110): at an AON tick with ARM set and FT at or past `TIME.WAKE_AT`, once; outside PARKED one time alarm passes the ledger. -/
def execWakeAlarmFire (s : State) : Res :=
  if 2 ≤ s.pwr.up ∧ s.flag TIME.WAKE_CTRL_ARM ∧ ¬ s.time.wakeDone ∧ s.rd64 TIME.WAKE_AT_LO ≤ wakeFt s then
    let s := ({ s with time := { s.time with wakeDone := true } }).set TIME.WAKE_CTRL_FIRED 1
    let s := if coreRuns s then s.post Src.time { type := .alarm, aux := 16, payload := [(s.rd TIME.STATUS).toNat] } else s
    .next (if s.mode = 7 ∨ s.get PWR.STATUS_PARK_STEP ≠ 0 then (s.set PWR.WAKE_STATUS_ALARM 1).wakeTrigger 2 else s)
  else .next s

/-- What `PWR.CTRL`.WAKE does: in PARKED over the MSP it wakes, otherwise it is ignored. -/
def State.actWake (s : State) (path : Path) : State := if s.mode = 7 ∧ path = .msp then (s.set PWR.WAKE_STATUS_MSP 1).wakeTrigger 3 else s

/-- MSP_WAKE. -/
def execMspWake (s : State) : Res := .next (s.actWake .msp)

/-- RESET_N_WAKE. -/
def execResetNWake (s : State) : Res := .next (if s.mode = 7 then (s.set PWR.WAKE_STATUS_RESET 1).wakeTrigger 4 else s)

/-- WAKE_RETRY_TIMER: 100 ms after a failed attempt the rails are asked on again. -/
def execWakeRetryTimer (s : State) : Res := .next (if s.due s.pwr.retryDl then s.wakeTry else s)

/-! ### Park (R501) -/

/-- Whether anything that a drain or a mode change holds is under way (R37, R39). -/
def changePending (s : State) : Bool :=
  changeRuns s || s.get IMG.STATUS_STAGE_STATE = 4 || s.get IMG.STATUS_STAGE_STATE = 5 ||
    (List.range 96).any (fun n => s.get (PORT.STATUS_DRAIN_STATE n) = 1) || (List.range 4).any (fun b => s.get (BRG.BUNDLE_DRAIN_STATUS_STATE b) = 1)

/-- Why a park is refused (R501). -/
def parkRefusal (s : State) (path : Path) : Option Nat :=
  let en := s.get PWR.WAKE_CFG_EN
  if ¬ hasClass s path 3 then some 0x09
  else if changePending s then some 0x1A
  else if en = 0 ∧ ¬ s.flag TIME.WAKE_CTRL_ARM then some 0xC0
  else if en &&& s.get PWR.WAKE_STATUS_PIN ≠ 0 then some 0xC1
  else if (parkRails s [0, 1, 2, 3]).any (fun r => !s.flag (PWR.RAIL_CFG_EN r)) then some 0xC4
  else none

/-- Set the park's step. -/
def State.parkTo (s : State) (step : Nat) (dl : Option Nat) : State :=
  ({ s with pwr := { s.pwr with parkDl := dl } }).set PWR.STATUS_PARK_STEP step

/-- Every port and bundle is reserved from the acceptance of a park until it completes or is abandoned (R37). -/
def State.parkReserve (s : State) : State :=
  let s := (List.range 96).foldl (fun (s : State) n => if s.get (PORT.CFG_ROLE n) < 2 then s.setPaux n { s.paux n with reserved := true } else s) s
  (List.range 4).foldl (fun (s : State) b =>
    if (laneOf (imageTables s) (112 + b)).isSome then s.set (BRG.BUNDLE_DRAIN_STATUS_RESERVED_SW b) 1 else s) s

/-- What PARK does (R501). -/
def State.actPark (s : State) (path : Path) : State :=
  match parkRefusal s path with
  | some c => (s.set PWR.STATUS_REASON c).post Src.glb { type := .modeRefused, aux := s.mode, payload := [7, c, 0] }
  | none =>
    let s := if s.twin.enable ∧ s.get TWIN.STATUS_PAIR ≠ 0 then s.sendTwin 0x65 (roleBody 1 0xFF 0) else s
    let s := (s.set PWR.STATUS_REASON 0).set GLB.MODE_CHANGING 1
    let kills := (List.range 16).filter (fun n => s.flag (SLOT.STATUS_KILL n))
    let s := { s with pwr := { s.pwr with parkMode := s.mode, parkHash := activeHash s, parkKills := kills, wakeReq := false } }
    (s.post Src.glb { type := .park, aux := s.mode, payload := [0, 0, 0] }).parkReserve.parkTo 1 (some (s.adv + usFt 10000))

/-- A write of `PWR.CTRL`: its RW fields with class 0, PARK and WAKE (R500, R501, R503). -/
def State.actPwrCtrl (s : State) (path : Path) (val : Word) : State :=
  let b := fun (i : Nat) => bitOf val.toNat i
  let s := if hasClass s path 0 ∨ s.mode = 7 then
      let s := (s.set PWR.CTRL_PMB_400K (bit (b 3))).set PWR.CTRL_PMB_PEC (bit (b 4))
      if s.mode = 7 then s else if b 2 ∧ ¬ s.flag PWR.CTRL_AVS_EN then s.avsStart else if ¬ b 2 ∧ s.flag PWR.CTRL_AVS_EN then s.avsStop else s
    else s
  let s := if b 0 ∧ s.mode ≠ 7 then s.actPark path else s
  if b 1 then s.actWake path else s

/-- AVS_EN_WRITE. -/
def execAvsEnWrite (path : Path) (en : Bool) (s : State) : Res :=
  let v := if en then strobe s PWR.CTRL_AVS_EN 0x1C else unset s PWR.CTRL_AVS_EN 0x1C
  .next (s.writing path PWR.CTRL v (fun s => s.actPwrCtrl path v))

/-- PARK_REQUEST. -/
def execParkRequest (path : Path) (s : State) : Res :=
  .next (s.writing path PWR.CTRL (strobe s PWR.CTRL_PARK 0x1C) (fun s => s.actPwrCtrl path (strobe s PWR.CTRL_PARK 0x1C)))

/-- Step 3: every port and bundle drains (R37, R501). -/
def State.parkDrains (s : State) : State :=
  let s := (List.range 96).foldl (fun (s : State) n =>
    if s.get (PORT.CFG_ROLE n) < 2 ∧ s.flag (PORT.CTRL_ENABLE n) ∧ s.get (PORT.STATUS_DRAIN_STATE n) = 0 ∧ ¬ s.flag (PORT.STATUS_SHED n) then s.startDrain n 6
    else s) s
  (List.range 4).foldl (fun (s : State) b =>
    if bundleUsable s b ∧ s.get (BRG.BUNDLE_DRAIN_STATUS_STATE b) = 0 then s.bundleDrainStarts b 6 else s) s

/-- Whether a drain still runs. -/
def draining (s : State) : Bool :=
  (List.range 96).any (fun n => s.get (PORT.STATUS_DRAIN_STATE n) = 1) || (List.range 4).any (fun b => s.get (BRG.BUNDLE_DRAIN_STATUS_STATE b) = 1)

/-- Step 4: links go down, bundles stop, gates turn off; the output checks take 50 ms. -/
def State.parkDown (s : State) : State :=
  let s := (List.range 96).foldl (fun (s : State) n => if s.get (PORT.CFG_ROLE n) < 2 then s.linkGone n 7 5 .linkDown else s) s
  let s := (List.range 4).foldl (fun (s : State) b => s.phyOff b) s
  let s := (List.range 16).foldl (fun (s : State) n => if hasChannel s n then s.gateOff n else s) s
  s.parkTo 4 (some (s.adv + usFt 50000))

/-- A live output refuses the park (R501): the mode and DRAINED ports stay, the reservations end and the bundles train again. -/
def State.parkLive (s : State) : State :=
  let s := (List.range 96).foldl (fun (s : State) n =>
    let s := if (s.paux n).reserved then s.setPaux n { s.paux n with reserved := false, ownDrain := false } else s
    if s.get (PORT.CFG_ROLE n) < 2 ∧ ¬ s.flag (PORT.STATUS_SHED n) then s.set (PORT.STATUS_LTSSM n) 0 else s) s
  let s := (List.range 4).foldl (fun (s : State) b =>
    let s := s.set (BRG.BUNDLE_DRAIN_STATUS_RESERVED_SW b) 0
    if s.flag (FBL.PHY_CTRL_ENABLE b) then s.phyStart b else s) s
  let s := ((s.set PWR.STATUS_REASON 0xA2).set GLB.MODE_CHANGING 0).parkTo 0 none
  ({ s with pwr := { s.pwr with wakeReq := false }, brg := { s.brg with ownDrains := [] } }).post Src.glb
    { type := .modeRefused, aux := s.mode, payload := [7, 0xA2, 0] }

/-- The ring entry of the PARK event: the newest of its type. -/
def parkEntry (s : State) : List Byte :=
  match (List.range (min 4096 (written s))).find? (fun i => decide (ofLe (((ringEntry s (written s + 8191 - i)).drop 0x0E).take 2) = 0x0305)) with
  | some i => ringEntry s (written s + 8191 - i)
  | none => []

/-- Step 5: the flush of R551, then every domain but AON switches off; AON keeps the journal state of R445. -/
def State.parkOff (s : State) : State :=
  let s := s.flashDone.flushLedger
  let left := (written s + 2 ^ 32 - consumer s) % 2 ^ 32
  let e := parkEntry s
  let j := s.jrnl
  let lost := sat 32 ((s.rd JRNL.LOST).toNat + left)
  let gap : Bool := j.gap || left ≠ 0
  let keep : Journal :=
    { lastHash := j.lastHash, gap := gap, gapStart := if j.gap then j.gapStart else chainHash j.consumedHash, gapEnd := chainHash j.lastHash,
      gapFt := ofLe (e.take 8), gapMode := ofLe ((e.drop 0x15).take 1), consumedHash := if gap then j.consumedHash else j.lastHash }
  let s := s.coreReset true
  let s := ({ s with jrnl := { keep with readyAt := s.cycle }, pwr := { s.pwr with up := 3 } }).wr JRNL.LOST (BitVec.ofNat 32 lost)
  let s := (s.set GLB.MODE_CHANGING 1).wr PWR.DOMAIN_MISC 0
  s.parkTo 5 (some (s.adv + usFt 100))

/-- Step 7: PARKED. -/
def State.parkEnds (s : State) : State :=
  let s := (((s.set GLB.MODE_PREVIOUS s.pwr.parkMode).set GLB.MODE_CURRENT 7).set GLB.MODE_CHANGING 0).parkTo 0 none
  let s := { s with time := { s.time with wakeDone := false } }
  if s.pwr.wakeReq then ({ s with pwr := { s.pwr with wakeReq := false, attempts := 0 } }).wakeTry else s

/-- Whether the PARK entry has been written, and the journal drained to its host ring where that is asked for (R445). -/
def journalDrained (s : State) : Bool :=
  decide ((s.srcQ Src.glb).queue = [] ∧ s.jrnl.queue = []) && (!s.flag JRNL.CTRL_DRAIN_EN || (consumer s = written s && !s.jrnl.gap))

/-- PARK_SEQUENCE_STEP: the step in progress completes once what it waits for has come about, and the next begins. -/
def execParkSequenceStep (s : State) : Res :=
  match s.get PWR.STATUS_PARK_STEP with
  | 1 => .next (s.parkTo 2 s.pwr.parkDl)
  | 2 => .next (if journalDrained s ∨ s.due s.pwr.parkDl then s.parkDrains.parkTo 3 none else s)
  | 3 => .next (if draining s then s else s.parkDown)
  | 4 =>
    .next (if ¬ s.due s.pwr.parkDl ∨ (List.range 16).any (fun n => s.flag (SLOT.STATUS_CHECKING n)) then s
     else if (List.range 16).any (fun n => s.flag (SLOT.STATUS_KILL n) && !s.pwr.parkKills.contains n) then s.parkLive
     else s.parkOff)
  | 5 => .next (if s.due s.pwr.parkDl then (s.parkTo 6 none).askRails [2, 1, 0, 3] 0 1 else s)
  | 6 => .next (if s.pwr.reqs.any (fun q => q.why = 1) then s else s.parkEnds)
  | _ => .next s

/-! ### Warm resets by command (R507) -/

/-- WARM_RESET: `RESET_N` low. In PARKED it is a wake instead; in steps 5 and 6 of a park it abandons the park, and the rails come back first. -/
def execWarmReset (s : State) : Res :=
  if s.mode = 7 ∨ s.pwr.up < 3 then .next s
  else if s.pwr.up = 3 then
    .next (if s.get PWR.STATUS_PARK_STEP = 0 then s
     else (({ s with pwr := { s.pwr with reqs := [], sentAt := none, attempts := 0 } }).parkTo 0 none).wakeTry)
  else .next (s.warmReset 1)

/-- What `GLB.RESET`.WARM does: it needs classes 0 and 3 (R507). -/
def State.actReset (s : State) (path : Path) (val : Word) : State :=
  if ¬ bitOf val.toNat 0 then s
  else if hasClass s path 0 ∧ hasClass s path 3 then s.warmReset 2
  else s.privRefused path GLB.RESET val.toNat

/-- SOFT_WARM_RESET. -/
def execSoftWarmReset (path : Path) (s : State) : Res :=
  .next (s.writing path GLB.RESET (strobe s GLB.RESET_WARM 0) (fun s => s.actReset path (strobe s GLB.RESET_WARM 0)))

end Sys2Proof.Machine
end

