-- ==== Sys2Proof/Machine/Replicate.lean ====
section
/-! DEFINITION. The replication engine (R161 to R171): multicast copies, mirror records, the enable bits of both, and the faults of the
core's memories (R174). -/
namespace Sys2Proof.Machine
open Sys2Proof

/-! ### Multicast (R163 to R165) -/

/-- Whether copy slot `c` serves group `g`: multicast owns it for the block of eight that holds the group (R164). -/
def slotServes (s : State) (c g : Nat) : Bool :=
  s.get (CORE.COPY_SLOT_OWNER c) = 5 && s.get (CORE.COPY_SLOT_OWNER_INST c) = g / 8 * 8

/-- The spill shares that an owner and instance hold (R171). -/
def sharesOf (s : State) (owner oi : Nat) : Nat := (s.part.owners.filter (fun e => e.cls = 5 ∧ e.owner = owner ∧ e.ownerInst = oi)).length

/-- The cells staged for multicast: each original whose copies have not all crossed, once (R164). -/
def stagedCells (s : State) : Nat :=
  (((s.core.pkts.filter (fun q => q.copy = 1 ∧ q.place = .voq)).map (fun q => (q.parent, q.cells))).dedup).foldl (fun n e => n + e.2) 0

/-- Whether a multicast packet's cells fit into staging; shares are of 256 KiB (R68, R164). -/
def stagingFits (s : State) (p : Pkt) : Bool := stagedCells s + p.cells ≤ 4096 * sharesOf s 5 0

/-- Whether a multicast packet in the hold may be replicated as far as order goes (R155). -/
def mcReady (s : State) (p : Pkt) : Bool := p.place = .hold && p.group.isSome && !heldBack s p

/-- `CORE.STATUS`.MC_STALL: a multicast packet waits for staging or for a copy slot of its group (R165). -/
def mcStall (s : State) : Bool :=
  s.core.pkts.any (fun p => mcReady s p && (!stagingFits s p || (match p.group with
    | some (g, _) => (List.range 32).all (fun c => !slotServes s c g || slotBusy s c)
    | none => false)))

/-- The copy for member `m`, whose insertion serial was `serial` at classification: the original's address and Routing ID apart from
MC_Overlay, and its generation stamps (R163, R173). -/
def copyFor (s : State) (p : Pkt) (c m serial : Nat) : Pkt :=
  let body := match p.body, p.group with
    | .tlp t, some (_, true) => Body.tlp { t with addr := overlayAddr s m t.addr }
    | b, _ => b
  { p with body := body, dest := xbarOf s m, egress := m, copy := 1, place := .voq, members := [], serials := [], parent := p.id, slot := some c,
           serial := serial, cut := false, sub := none }

/-- One member's copy enters the engine's VOQs, or is discarded and counted by the state of its port (R163). -/
def State.copyTo (s : State) (p : Pkt) (c m serial : Nat) : State :=
  match targetRefusal s m with
  | some path => s.count m path.counters.2 1
  | none => s.addPkt (copyFor s p c m serial)

/-- MULTICAST_REPLICATE: a released multicast packet moves into staging through copy slot `slot`, its ingress cells are freed, and one copy per
member is enqueued; mirrors copy it in that cycle (R164, R167). -/
def execMulticastReplicate (pkt : Nat) (slot : Fin 32) (s : State) : Res :=
  .next (match s.pkt? pkt with
    | none => s
    | some p =>
      match p.group with
      | none => s
      | some (g, _) =>
        if mcReady s p ∧ slotServes s slot g ∧ ¬ slotBusy s slot ∧ stagingFits s p then
          let s := (s.mirrorAll p).dropPkt p.id
          (p.members.zip p.serials).foldl (fun (s : State) (e : Nat × Nat) => s.copyTo p slot e.1 e.2) s
        else s)

/-! ### Mirror records (R168, R169) -/

/-- The 32-byte header of a mirror record (R168). -/
def mirrorHeader (s : State) (m : Nat) (c : MirrorCopy) (dropped : Nat) : List Byte :=
  let cut := decide (s.get (CORE.MIRROR_RING_TRUNC m) < c.bytes.length)
  leBytes 8 c.ft ++ leBytes 4 (s.rd (CORE.MIRROR_SEQ m)).toNat ++ leBytes 2 (c.len % 8192) ++ leBytes 2 (c.colour % 4096) ++ leBytes 1 m ++
    leBytes 1 (bit c.leaving + 2 * bit cut) ++ leBytes 1 c.inPort ++ leBytes 1 c.outPort ++ leBytes 4 dropped ++ List.replicate 8 0

/-- Cut bytes at an address into writes no larger than `mps` that cross no 4 KiB boundary; `fuel` bounds the number of writes. -/
def cutWrites (mps : Nat) : Nat → Nat → List Byte → List (Nat × List Byte)
  | 0, _, _ => []
  | fuel + 1, a, bs =>
    let n := min mps (4096 - a % 4096)
    if bs = [] ∨ n = 0 then [] else (a, bs.take n) :: cutWrites mps fuel (a + n) (bs.drop n)

/-- One posted write of a record toward the analysis port: TC 0, no RO; it holds no generation (R168, R169). -/
def State.mirrorWrite (s : State) (m n seq slot : Nat) (w : Nat × List Byte) : State :=
  let t : Tlp := { kind := .memWr, addr := w.1, lenDw := ceilDiv w.2.length 4, firstBe := 15, lastBe := if 4 < w.2.length then 15 else 0,
                   rid := portRid s n, data := w.2 }
  s.addPkt { mkTlpPkt s t 121 n (.mirror m) .voq with copy := 2, parent := seq, slot := some slot }

/-- MIRROR_RECORD_WRITE: the oldest staged copy of a session is written as a record through a copy slot of the session that is idle. A copy whose analysis port is DRAINED, shed or without a link
is dropped instead (R169). -/
def execMirrorRecordWrite (sess : Fin 8) (s : State) : Res :=
  let m := sess.val
  let v := s.mirror m
  .next (match v.staged, (mirrorSlots s m).find? (fun c => !slotBusy s c) with
    | [], _ | _, none => s
    | c :: rest, some slot =>
      let n := s.get (CORE.MIRROR_CTRL_DEST m)
      if s.get (PORT.STATUS_DRAIN_STATE n) ≠ 1 ∧ analysisClosed s n then (s.setMirror m { v with staged := rest }).mirrorDrop m
      else
        let seq := (s.rd (CORE.MIRROR_SEQ m)).toNat
        let a := s.rd64 (CORE.MIRROR_RING_BASE_LO m) + seq % 2 ^ s.get (CORE.MIRROR_RING_ENTRIES_EXP m) * 2 ^ s.get (CORE.MIRROR_RING_STRIDE_EXP m)
        let bytes := mirrorHeader s m c v.dropped ++ c.bytes.take (s.get (CORE.MIRROR_RING_TRUNC m))
        let s := s.setMirror m { v with staged := rest, dropped := 0 }
        let s := s.wr (CORE.MIRROR_SEQ m) (BitVec.ofNat 32 (seq + 1))
        (cutWrites (s.paux n).mps bytes.length a bytes).foldl (fun (s : State) (w : Nat × List Byte) => s.mirrorWrite m n seq slot w) s)

/-! ### Enable bits (R164, R170) -/

/-- Whether a value of a session's CTRL names a reserved PortID (R13). -/
def mirrorNames (val : Word) : Bool := (!(bitOf val.toNat 3) && reservedPort (fieldOf val 4 7)) || reservedPort (fieldOf val 11 7)

/-- The refusal of a session's ENABLE with CTRL written as `val` (R168, R170, R176). -/
def mirrorRefusal (s : State) (m : Nat) (val : Word) : Nat :=
  let dest := fieldOf val 11 7
  let e := s.get (CORE.MIRROR_RING_ENTRIES_EXP m)
  let x := s.get (CORE.MIRROR_RING_STRIDE_EXP m)
  let t := s.get (CORE.MIRROR_RING_TRUNC m)
  let slots := s.part.owners.any (fun o => o.cls = 4 && o.owner = 6 && o.ownerInst = m)
  let rules : List (Bool × Nat) :=
    [(mirrorNames val, 0x02), (!slots || sharesOf s 6 m = 0, 0x03), (96 ≤ dest || s.get (PORT.CFG_ROLE dest) ≠ 0, 0x01),
     (fieldOf val 1 2 = 3 || e < 4 || 20 < e || x < 7 || 12 < x || t < 64 || 4064 < t || t % 16 ≠ 0 || 2 ^ x < 32 + t, 0x19)]
  ((rules.find? (fun r => r.1)).map Prod.snd).getD 0

/-- ENABLE of a session is set: the register, and SEQ from 0 (R170, R176). -/
def State.mirrorEnabled (s : State) (m : Nat) (val : Word) : State := (s.plainWrite (CORE.MIRROR_CTRL m) val).wr (CORE.MIRROR_SEQ m) 0

/-- A write of a session's CTRL that sets no ENABLE: one that names a reserved PortID is refused (R13); clearing ENABLE stops new copies and is
journaled (R170). -/
def State.mirrorWritten (s : State) (m : Nat) (val : Word) : State :=
  if mirrorNames val then
    (s.set (CORE.MIRROR_STATUS_REASON m) 0x02).enableResult Src.core m (CORE.MIRROR_STATUS m) (some ⟨0x02, CORE.MIRROR_CTRL m⟩)
  else
    let stops := s.flag (CORE.MIRROR_CTRL_ENABLE m) ∧ ¬ bitOf val.toNat 0
    let s := (s.plainWrite (CORE.MIRROR_CTRL m) val).set (CORE.MIRROR_STATUS_REASON m) 0
    if stops then s.enableResult Src.core m (CORE.MIRROR_STATUS m) none else s

/-- A write of `CORE.MIRROR[m].CTRL`: one that sets ENABLE waits for the checker (R77, R170). -/
def State.actMirrorCtrl (s : State) (path : Path) (m : Nat) (val : Word) : State :=
  s.enableWrite path (CORE.MIRROR_CTRL m) val (s.flag (CORE.MIRROR_CTRL_ENABLE m)) (fun s => s.mirrorWritten m val)

/-- The refusal of MC_EN: multicast owns no spill share (R164). -/
def mcEnRefusal (s : State) : Nat := if sharesOf s 5 0 = 0 then 0x03 else 0

/-- A write of `CORE.CTRL`: one that sets MC_EN waits for the checker (R164); any other is accepted (R176). -/
def State.actCoreCtrl (s : State) (path : Path) (val : Word) : State :=
  if checkPending s CORE.CTRL ∨ (bitOf val.toNat 1 ∧ ¬ s.flag CORE.CTRL_MC_EN) then s.enqueueCheck path CORE.CTRL val
  else (s.plainWrite CORE.CTRL val).set CORE.STATUS_REASON 0

/-- MIRROR_ENABLE: a write that sets ENABLE and leaves the register's other bits. -/
def execMirrorEnable (path : Path) (sess : Fin 8) (s : State) : Res :=
  let val := strobe s (CORE.MIRROR_CTRL_ENABLE sess) 0x3FFFFFFF
  .next (s.writing path (CORE.MIRROR_CTRL sess) val (fun s => s.actMirrorCtrl path sess val))

/-- MIRROR_DISABLE. -/
def execMirrorDisable (path : Path) (sess : Fin 8) (s : State) : Res :=
  let val := withField (s.rd (CORE.MIRROR_CTRL sess)) 0 1 0
  .next (s.writing path (CORE.MIRROR_CTRL sess) val (fun s => s.actMirrorCtrl path sess val))

/-- MC_EN_SET. -/
def execMcEnSet (path : Path) (s : State) : Res :=
  let val := strobe s CORE.CTRL_MC_EN 0x3
  .next (s.writing path CORE.CTRL val (fun s => s.actCoreCtrl path val))

/-! ### Faults of the core's memories (R174) -/

/-- A packet with its Poisoned bit, or the poison mark of a TFP packet, set. -/
def poisoned (p : Pkt) : Pkt :=
  match p.body with
  | .tlp t => { p with body := .tlp { t with ep := true } }
  | .tfp q c np => { p with body := .tfp { q with hdr := { q.hdr with poison := true } } c np }

/-- What an uncorrectable error does to the packet that holds it: an error in the header or descriptor discards it, with no completion; one in data
poisons it. -/
def State.eccHit (s : State) (header : Bool) (p : Pkt) : State :=
  if header then s.endPkt p .ecc (if p.ingress < 96 ∨ (112 ≤ p.ingress ∧ p.ingress ≤ 115) then pageOf p.ingress else 132) else s.setPkt (poisoned p)

/-- CORE_ECC_ERROR: buffer `buffer` of `CORE.ECC_STATUS`; `pkt` the packet concerned by a double-bit error. -/
def execCoreEccError (buffer : Fin 73) (double : Bool) (pkt : Option Nat) (header : Bool) (s : State) : Res :=
  if ¬ coreRuns s then .next s
  else
    let s := s.set CORE.ECC_STATUS_BUFFER buffer
    if double then
      let s := (s.set CORE.ECC_STATUS_UE 1).raiseFault 36 FATAL buffer
      .next (match pkt.bind (fun i => s.pkt? i) with
        | some p => s.eccHit header p
        | none => s)
    else .next ((s.set CORE.ECC_STATUS_CE 1).raiseFault 36 CE buffer)

/-- CROSSBAR_PARITY_ERROR. -/
def execCrossbarParityError (s : State) : Res := .next (if coreRuns s then s.raiseFault 37 FATAL 0xFFFF else s)

/-- REPLICATION_STATE_ERROR. -/
def execReplicationStateError (slot : Fin 32) (s : State) : Res := .next (if coreRuns s then s.raiseFault 55 UC slot else s)

/-- SPILL_SRAM_ERROR: corrected is CE, uncorrected UC (log entry 22). -/
def execSpillSramError (share : Fin 32) (double : Bool) (s : State) : Res :=
  .next (if coreRuns s then s.raiseFault 54 (if double then UC else CE) share else s)

end Sys2Proof.Machine
end

