-- ==== Sys2Proof/Machine/Apply.lean ====
section
/-! DEFINITION. Putting an image in force: its sections, its DEFAULT_REG entries (R66), the mode it starts in (R393), BARE (R74, R129), and what a
LIVE or DRAIN switch-over applies as one commit (R87, R389). -/
namespace Sys2Proof.Machine
open Sys2Proof

/-! ### The words of the sections -/

/-- The PARTITION entries of an image; in TRANSPARENT without one, partition 0 holds every port, has no colour and every bus (R208, log entry 44). -/
def imageParts (t : Tables) : List PartEnt :=
  if t.mode = 1 ∧ t.parts = [] then
    [{ part := 0, upstream := ((t.lanes.find? (fun e => e.2.role = 1)).map (fun e => e.2.portid)).getD 0, colour := 0,
       members := (t.lanes.filter (fun e => e.2.portid < 96 ∧ e.2.role ≠ 1)).foldl (fun (m : Nat) e => m ||| 2 ^ e.2.portid) 0,
       busFirst := 0, busLast := 255 }]
  else t.parts.map Prod.snd

/-- The words of a PCIe port (R53, R144). -/
def portWords (t : Tables) (e : LanePort) : List (Nat × Word) :=
  let n := e.portid
  let own := (imageParts t).find? (fun p => (e.role = 1 && p.upstream = n) || (e.role ≠ 1 && p.members.testBit n))
  [(PORT.CFG n, mkWord [(PORT.CFG_OCTET n, e.octet), (PORT.CFG_LANE n, e.lane), (PORT.CFG_WIDTH n, e.width), (PORT.CFG_ROLE n, e.role),
      (PORT.CFG_RATE n, e.rate), (PORT.CFG_SRIS n, e.flags), (PORT.CFG_HOTPLUG n, e.flags / 2), (PORT.CFG_PART n, (own.map PartEnt.part).getD 0),
      (PORT.CFG_SHARED n, bit (decide (e.role = 0) && own.isNone)), (PORT.CFG_SLOT n, e.slot)]),
   (PORT.CFG2 n, mkWord [(PORT.CFG2_PERST n, if e.perst = 0xFFFF then 0xFF else e.perst), (PORT.CFG2_OVERHEAD n, e.overhead)])]

/-- The PCIe ports that the image places in octet `k`. -/
def portsIn (t : Tables) (k : Nat) : List LanePort := (t.lanes.map Prod.snd).filter (fun e => (octetsOf e).contains k)

/-- `LANE[k].MAP` (R145). -/
def laneMap (t : Tables) (k : Nat) : Word :=
  let ps := portsIn t k
  let used := (List.range 8).foldl (fun (m : Nat) j => if ps.any (fun e => (claimed e).contains (8 * k + j)) then m ||| 2 ^ j else m) 0
  mkWord [(LANE.MAP_USED k, used), (LANE.MAP_PORTS k, ps.length), (LANE.MAP_PAIRED k, bit (ps.any (fun e => e.width = 4)))]

/-- The words of a partition (R54, R226). -/
def partWords (e : PartEnt) : List (Nat × Word) :=
  let p := e.part
  [(PART.TABLE_CTRL p, mkWord [(PART.TABLE_CTRL_VALID p, 1), (PART.TABLE_CTRL_UPSTREAM p, e.upstream), (PART.TABLE_CTRL_COLOUR p, e.colour)]),
   (PART.TABLE_BUS p, mkWord [(PART.TABLE_BUS_BUS_FIRST p, e.busFirst), (PART.TABLE_BUS_BUS_LAST p, e.busLast)]),
   (PART.TABLE_MEMBERS p 0, BitVec.ofNat 32 e.members), (PART.TABLE_MEMBERS p 1, BitVec.ofNat 32 (e.members / 2 ^ 32)),
   (PART.TABLE_MEMBERS p 2, BitVec.ofNat 32 (e.members / 2 ^ 64))]

/-- The words of a fault source: bit 6 of every action is set, and sources 37 and 52 are FATAL (R63). -/
def faultWords (e : FaultEnt) : List (Nat × Word) :=
  let i := e.source
  [(FLT.SRC_CFG i, mkWord [(FLT.SRC_CFG_CLASS i, if i = 37 ∨ i = 52 then 2 else e.cls), (FLT.SRC_CFG_GROUP_EN i, bit (decide (e.group ≠ 0xFF))),
      (FLT.SRC_CFG_GROUP i, if e.group = 0xFF then 0 else e.group)]),
   (FLT.SRC_ACT i, mkWord [(FLT.SRC_ACT_ACT_CE i, e.ce ||| 64), (FLT.SRC_ACT_ACT_UC i, e.uc ||| 64)]),
   (FLT.SRC_ACT_FATAL i, mkWord [(FLT.SRC_ACT_FATAL_ACT_FATAL i, e.fatal ||| 64)])]

/-- Every word that the sections of an image give, but for the ports' (R53 to R64). -/
def sectionWords (t : Tables) : List (Nat × Word) :=
  (imageParts t).flatMap partWords ++ t.colours.flatMap (fun e => colourWords e.1 e.2) ++ t.regions.flatMap (fun e => regionWords e.1 e.2) ++
  t.binds.flatMap (fun e => bindWords e.1 e.2) ++ t.windows.flatMap (fun e => winWords e.1 e.2) ++ t.routes.flatMap (fun e => routeWords e.2) ++
  t.subs.flatMap (fun e => subWords e.2) ++ t.gates.flatMap (fun e => gateWords e.2) ++ t.faults.flatMap (fun e => faultWords e.2) ++
  t.slots.flatMap (fun e => slotWords e.2)

/-- Set live words. -/
def State.wrAll (s : State) (ws : List (Nat × Word)) : State := ws.foldl (fun (s : State) e => s.wr e.1 e.2) s

/-- The SUBSCRIBER prefix: the wheel, the sampler period, and SAMPLE_EN for an image with the section (R61, R202). -/
def State.takePrefix (s : State) (t : Tables) : State :=
  match t.prefix_ with
  | some (x, us) => (((s.set SCHED.WHEEL_SLOT_EXP x).set SCHED.SAMPLE_PERIOD_US us).set SCHED.CTRL_SAMPLE_EN 1).resumeSampling
  | none => s

/-- What the owners of resources show in registers: copy slots, spill shares of a bundle, the subscribers' wheel blocks (R176, R195, R303). -/
def State.showOwners (s : State) : State :=
  let own := s.part.owners
  let s := (own.filter (fun e => e.cls = 4)).foldl (fun (s : State) e =>
    (s.set (CORE.COPY_SLOT_OWNER e.inst) e.owner).set (CORE.COPY_SLOT_OWNER_INST e.inst) e.ownerInst) s
  let s := (List.range 4).foldl (fun (s : State) b => s.set (FBL.LL_STORE_SHARES b) (sharesOf s 7 b)) s
  s.set SCHED.WHEEL_SUB_BLOCKS (own.filter (fun e => e.cls = 3 ∧ e.owner = 3)).length

/-- The ports of an image: settings, lanes, and the octets whose PHY domain is on (R120, R144, R145). -/
def State.placePorts (s : State) (t : Tables) : State :=
  let ports := (t.lanes.map Prod.snd).filter (fun e => e.portid < 96)
  let s := s.wrAll (ports.flatMap (portWords t))
  let s := ports.foldl (fun (s : State) e => s.set (PORT.INSERTION_SLOT_PORT e.portid) (bit (decide (e.slot ≠ 0xFF)))) s
  (List.range 32).foldl (fun (s : State) k =>
    let on : Bool := !(portsIn t k).isEmpty
    let s := (s.wr (LANE.MAP k) (laneMap t k)).set (LANE.STATUS_POWERED k) (bit on)
    if on then s.set PWR.DOMAIN_OCT_ON (s.get PWR.DOMAIN_OCT_ON ||| 2 ^ k) else s) s

/-- Identity of the image in force (R91). -/
def State.showImage (s : State) (i : Image) (slot : Nat) : State :=
  let s := (s.set IMG.STATUS_ACTIVE_SLOT slot).set IMG.STATUS_ACTIVE_ARV i.arv
  let s := s.wr IMG.ACTIVE_VERSION (BitVec.ofNat 32 i.version)
  (List.range 12).foldl (fun (s : State) k => s.wr (IMG.ACTIVE_HASH k) (BitVec.ofNat 32 (ofLe ((i.hash.drop (4 * k)).take 4)))) s

/-- Gate lists, polling and virtual ports that an installed image starts (R202, R209, R330). -/
def State.startTables (s : State) : State :=
  let s := s.gatesChanged ((List.range 100).filter (fun i => s.flag (SCHED.PORT_GATE_CTRL_ENABLE i)))
  let s := if s.flag BRG.SB_CTRL_ENABLE then s.pollChanged else s
  s.imageVdsps

/-! ### DEFAULT_REG (R66) -/

/-- The port whose CTRL register an offset is. -/
def portCtrlAt (off : Nat) : Option Nat := inArray off (PORT.CTRL 0) 0x1000 4 96

/-- One entry: no W1S field, and no key register, takes its value (R66, R372); a register that refuses values at runtime keeps its rule. `PORT.CTRL`
waits for step 7 (R144). -/
def State.defaultWrite (s : State) (off : Nat) (val : Word) : State :=
  match regAt off with
  | none => s
  | some (r, _) =>
    let v := val &&& ~~~ w1sBits r.fields val
    let pause := (List.range 16).find? (fun k => off = FBL.LL_PAUSE (k / 4) (k % 4))
    let limit := (List.range 4).find? (fun b => off = FBL.LL_LIMIT b)
    let pool := (List.range 32).find? (fun p => off = RMA.KEY_POOL p)
    if keyReg off ∨ (portCtrlAt off).isSome ∨ (inArray off (MDMA.ENG_OWNER 0) 0x40 0x40 1).isSome ∨ off = GLB.VIEW then s
    else if off = JRNL.RD_INDEX then s.actRdIndex v
    else match pause, limit, pool, realOff s off with
      | some k, _, _, _ => s.actLlPause (k / 4) (k % 4) v
      | _, some b, _, _ => s.actLlLimit b v
      | _, _, some p, _ => s.actKeyPool p v
      | _, _, _, some o => s.storeReg o r.fields v
      | _, _, _, none => s

/-- The last value that the entries give `PORT[n].CTRL`. -/
def portDefault (t : Tables) (n : Nat) : Option Nat := ((t.defaults.map Prod.snd).filter (fun e => e.1 = PORT.CTRL n)).getLast?.map Prod.snd

/-- Whether the entries leave a port DISABLED (R144). -/
def portLeftOff (t : Tables) (n : Nat) : Bool :=
  match portDefault t n with
  | some v => !v.testBit 0
  | none => false

/-- The first BRG register among the entries that a device in modes 0 to 2 refuses: one that is no route, lent port or sideband watch (R308). -/
def brgForbidden (t : Tables) : Option Nat :=
  ((t.defaults.map (fun e => e.2.1)).filter (fun o => decide (0x180000 ≤ o) && decide (o < 0x1C0000) &&
    !(decide (BRG.ROUTE 0 ≤ o) && decide (o < BRG.ROUTE 2047)) && (inArray o (BRG.LEND 0) 4 4 96).isNone &&
    (inArray o (BRG.SB_WATCH_CFG 0) (BRG.SB_WATCH_CFG 1 - BRG.SB_WATCH_CFG 0) 16 64).isNone)).min?

/-- What an enable bit would refuse at runtime, in the state that the entries leave (R66), in order of BAR0 offset. -/
def defaultTests (s : State) (t : Tables) : Option Fail :=
  let pinOwned := fun (k : Nat) => t.owners.any (fun e => e.2.cls = 1 ∧ e.2.inst = k ∧ e.2.owner = 1)
  firstFail (
    (List.range 16).map (fun n => (s.flag (TIME.ALARM_CTRL_ENABLE n) && (alarmOwner s n).isNone, ⟨0x03, offReg (TIME.ALARM_CTRL n)⟩)) ++
    [(s.flag PWR.CTRL_AVS_EN && !avsOk s, ⟨0xC4, offReg PWR.CTRL⟩),
     ((List.range 4).any (fun k => bitOf (s.get PWR.WAKE_CFG_EN) k && !pinOwned k), ⟨0x03, offReg PWR.WAKE_CFG⟩)] ++
    (List.range 96).flatMap (fun n =>
      let v := (portDefault t n).getD 0
      let tr := v / 2 % 8
      [(tr = 7 || (decide (tr ≠ 0) && decide (s.get (PORT.CFG_RATE n) < tr)) || (tr = 6 && v.testBit 11), ⟨0x46, offReg (PORT.CTRL n)⟩),
       (v.testBit 0 && decide (2 ≤ s.get (PORT.CFG_ROLE n)), ⟨0x01, offReg (PORT.CTRL n)⟩)]) ++
    (List.range 4).map (fun b => (s.flag (FBL.PHY_CTRL_ENABLE b) && decide (phyRefusal s b ≠ 0), ⟨phyRefusal s b, offReg (FBL.PHY_CTRL b)⟩)) ++
    [(s.flag CORE.CTRL_MC_EN && decide (mcEnRefusal s ≠ 0), ⟨mcEnRefusal s, offReg CORE.CTRL⟩)] ++
    ((List.range 96).filter (fun n => decide (s.get (PORT.CFG_ROLE n) < 2) && !portLeftOff t n)).map (fun n =>
      ((shareTest s n).isSome, (shareTest s n).getD ⟨0, 0⟩)) ++
    (List.range 8).map (fun m =>
      let r := mirrorRefusal s m (s.rd (CORE.MIRROR_CTRL m))
      (s.flag (CORE.MIRROR_CTRL_ENABLE m) && decide (r ≠ 0), ⟨r, offReg (CORE.MIRROR_CTRL m)⟩)) ++
    (match brgForbidden t with
     | some o => [(decide (t.mode < 3), ⟨0x16, offReg o⟩)]
     | none => []) ++
    (List.range 64).map (fun r =>
      let c := ringRefusal (s.set (RMA.RING_CTRL_ENABLE r) 0) r (s.rd (RMA.RING_CTRL r))
      (s.flag (RMA.RING_CTRL_ENABLE r) && decide (c ≠ 0), ⟨c, offReg (RMA.RING_CTRL r)⟩)) ++
    (List.range 8).map (fun e =>
      let c := mdmaRefusal s e (s.rd (MDMA.ENG_CTRL e))
      (s.flag (MDMA.ENG_CTRL_ENABLE e) && decide (c ≠ 0), ⟨c, offReg (MDMA.ENG_CTRL e)⟩)))

/-- Every shadow becomes live, and no shadow differs (R66, R521). -/
def State.foldShadow (s : State) : State :=
  { s.shadow.foldl (fun (s : State) e => s.wr e.1 (mergeSh e.1 (s.rd e.1) e.2)) s with shadow := [] }

/-- Rings and engines that the entries enable run from zero indices (R337, R484). -/
def State.defaultStarts (s : State) : State :=
  let s := (List.range 64).foldl (fun (s : State) r => if s.flag (RMA.RING_CTRL_ENABLE r) then s.set (RMA.RING_STATUS_RUNNING r) 1 else s) s
  (List.range 8).foldl (fun (s : State) e => if s.flag (MDMA.ENG_CTRL_ENABLE e) then s.set (MDMA.ENG_STATUS_RUNNING e) 1 else s) s

/-! ### Applying an image (R72) -/

/-- The mode that an image starts in: its MODE, or for a paired device the mode of R393. -/
def startMode (s : State) (t : Tables) : Nat :=
  match t.twin.find? (fun e => e.2.enable = 1) with
  | none => t.mode
  | some (_, w) =>
    let named : Bool := decide (s.get TWIN.STATUS_SIDE = w.role)
    if t.mode = 5 then 5
    else if w.arrange = 0 then (if named then t.mode else 5)
    else if t.mode = 4 ∧ ¬ named then 3
    else t.mode

/-- Step 6: sections in type order, then DEFAULT_REG as one state that is judged once; the first failure where it is refused (R66, R72). -/
def applyImage (s : State) (i : Image) (slot : Nat) : Except Fail State :=
  let t := i.tables
  let s := { s with pwr := { s.pwr with up := 8 }, img := { s.img with active := some i, sealed := false },
                    part := { s.part with privs := t.privs.map Prod.snd, owners := t.owners.map Prod.snd } }
  let s := s.set GLB.MODE_CURRENT (startMode s t)
  let s := ((s.placePorts t).wrAll (sectionWords t)).takePrefix t
  let s := ((s.showOwners).showImage i slot).assignVdsps
  let s := t.defaults.foldl (fun (s : State) e => s.defaultWrite e.2.1 (BitVec.ofNat 32 e.2.2)) s
  match firstSome [checkState s (appliedRd s s.shadow), defaultTests (s.foldShadow) t] with
  | some f => .error f
  | none =>
    let s := (s.foldShadow).defaultStarts
    let s := { s with img := { s.img with sealed := i.flags.testBit 0 } }
    let s := s.setTimeSource ((t.time.head?).map Prod.snd)
    .ok s.startTables

/-- The twin block at step 7 (R392, R394, R399, R403): a pair leaves OFF and its alarm runs; the outputs toggle in modes 1 to 6, an unpaired device's by its
own timer. -/
def State.startTwin (s : State) (t : Tables) : State :=
  match t.twin.find? (fun e => e.2.enable = 1) with
  | none => { s with twin := { s.twin with enable := false, croakRun := true, croakDl := some (s.adv + usFt 500) } }
  | some (_, w) =>
    let s := { s with twin := { s.twin with enable := true, bundle := w.bundle, arrange := w.arrange, role := w.role, croakRun := true, center := some s.adv } }
    let s := (s.set TWIN.STATUS_ARRANGE w.arrange).pairTo 1 0
    match featureAlarm s 9 0 with
    | some n => s.loadAlarm n (s.time.ft + 429497) 429497 true
    | none => s

/-- A port with ROLE 0 or 1 is enabled in the cycle in which the mode is entered, unless DEFAULT_REG leaves it DISABLED (R144, R146). -/
def State.startPort (s : State) (t : Tables) (n : Nat) : State :=
  let s := match portDefault t n with
    | some v => s.wr (PORT.CTRL n) (BitVec.ofNat 32 v &&& 0xC0E)
    | none => s
  if s.get (PORT.CFG_ROLE n) < 2 ∧ portLeftOff t n = false then s.enablePort n else s

/-- Step 7: the mode is entered from `old`, the mode before the reset (R72), and ports, bundles, slots, the twin and AVS start. -/
def State.startImage (s : State) (i : Image) (old : Nat) : State :=
  let m := s.mode
  let s := (s.set GLB.MODE_CURRENT old).enterMode m 0 true
  let s := s.startTwin i.tables
  let s := (List.range 96).foldl (fun (s : State) n => s.startPort i.tables n) s
  let s := (List.range 4).foldl (fun (s : State) b => if phyRefusal s b = 0 then s.phyStart b else s) s
  let s := s.trackSlots
  if s.flag PWR.CTRL_AVS_EN then s.avsStart else s

/-- BARE: no image is in force and the recovery port trains (R74, R129). -/
def State.enterBare (s : State) : State :=
  let s := s.enterMode 0 0 true
  let s := s.set IMG.STATUS_ACTIVE_SLOT 3
  let s := s.wrAll [(PORT.CFG 0, 0xFF016A00), (PORT.CFG2 0, 0xFF), (LANE.MAP 0, mkWord [(LANE.MAP_USED 0, 0x0F), (LANE.MAP_PORTS 0, 1)])]
  let s := (s.set (LANE.STATUS_POWERED 0) 1).set PWR.DOMAIN_OCT_ON 1
  let s := s.enablePort 0
  { s with pwr := { s.pwr with up := 8 } }

/-! ### A switch-over without a reset (R86, R87, R389) -/

/-- Whether an offset holds a word that an image section gives and a commit changes. -/
def sectionWord (off : Nat) : Bool :=
  (0x1000000 ≤ off && off < 0x10F0000 && shMask off ≠ 0) || (BRG.ROUTE 0 ≤ off && off < BRG.ROUTE 2047) ||
    (SCHED.PORT_GATE_CTRL 0 ≤ off && off < SCHED.PORT_GATE_CTRL 100 && 0x14 ≤ off % 64 && off % 64 ≤ 0x2C) ||
    (PART.TABLE_CTRL 0 ≤ off && off < PART.TABLE_CTRL 32 && off % 32 < 20) || (FLT.SRC_CFG 0 ≤ off && off < FLT.SRC_CFG 64 && off % 16 < 12) ||
    (SLOT.CFG0 0 ≤ off && off < SLOT.CFG0 16 && off % 0x1000 ≤ 8)

/-- The words a switch-over applies: those of the staged image's sections, and the reset word of every other section word in force (log entry 45). -/
def switchWords (s : State) (t : Tables) : List (Nat × Word) :=
  let new := sectionWords t
  let keep := new.foldl (fun (m : SMap Word) e => SMap.put (SMap.drop m e.1) e.1 e.2) []
  ((s.regs.filter (fun e => sectionWord e.1 && (SMap.find? keep e.1).isNone)).map (fun e => (e.1, resetWord e.1))) ++ new

/-- The running device as the checker sees it with an image's sections that no register holds (R87). -/
def underImage (s : State) (i : Image) : State :=
  { s with img := { s.img with active := some i }, part := { s.part with privs := i.tables.privs.map Prod.snd, owners := i.tables.owners.map Prod.snd } }

/-- The registers as a LIVE or DRAIN switch-over leaves them (R66, R87): the words of its sections, its ports, then its DEFAULT_REG entries, every shadow
equal to its live word (R521). -/
def switchWritten (s : State) (i : Image) (slot : Nat) : State :=
  let t := i.tables
  let ws := switchWords s t
  let s := underImage s i
  let s := ws.foldl (fun (s : State) e => s.wr e.1 (if 0x1000000 ≤ e.1 then mergeSh e.1 (s.rd e.1) e.2 else e.2)) s
  let s := s.takePrefix t
  let s := s.wrAll (((t.lanes.map Prod.snd).filter (fun e => e.portid < 96)).flatMap (portWords t))
  let s := (s.showOwners).showImage i slot
  let s := { s with shadow := [] }
  (t.defaults.foldl (fun (s : State) e => s.defaultWrite e.2.1 (BitVec.ofNat 32 e.2.2)) s).foldShadow

/-- What the change of LANE_PORT and PARTITION settings does to one affected port (R389): `old` is its entry before, `e` its new one.
A port that software has disabled stays so. -/
def State.portChanges (s : State) (old e : LanePort) : State :=
  let n := e.portid
  let s := s.setPaux n { s.paux n with reserved := false, drainAt := none, drainDl := none, ownDrain := false }
  if e.role = 2 then ((s.set (PORT.CTRL_ENABLE n) 0).linkGone n 7 5 .linkDown).set (PORT.STATUS_DRAIN_STATE n) 3
  else if old.role ≠ 2 ∧ ¬ s.flag (PORT.CTRL_ENABLE n) then s
  else
    let s := s.set (PORT.STATUS_DRAIN_STATE n) 0
    if old.role = 2 then s.enablePort n
    else if old.role ≠ e.role ∨ old.flags % 2 ≠ e.flags % 2 then s.linkGone n 0 5 .linkDown
    else if old.rate ≠ e.rate ∧ linkUp s n then (s.set (PORT.STATUS_LTSSM n) 3).count n 36 1
    else s

/-- A LIVE or DRAIN switch-over applies as one commit (R19, R20, R87): generations advance, affected ports take their settings, the shadow equals the live
values again, and the seal stays (R520, R521). -/
def State.switchIn (s : State) (i : Image) (slot : Nat) (ports : List Nat) : State :=
  let t := i.tables
  let old := s
  let lanes := imageTables s
  let s := switchWritten s i slot
  let s := (tablesBetween old s).foldl (fun (s : State) g => s.advanceGen g) s
  let s := ports.foldl (fun (s : State) n =>
    match laneOf lanes n, laneOf t n with
    | some o, some e => s.portChanges o e
    | _, _ => s) s
  let s := s.afterApply old (s.regs.map Prod.fst ++ old.regs.map Prod.fst)
  let s := { s with guard := { s.guard with lost := [] } }
  s.imageVdsps

end Sys2Proof.Machine
end

