-- ==== Sys2Proof/Machine/Stage.lean ====
section
/-! DEFINITION. `IMG.CTRL`: staging, classes, switch-over at an epoch, cancel, boot pointer (R86 to R92, R387 to R390), and direct mode requests (R37). -/
namespace Sys2Proof.Machine
open Sys2Proof

/-! ### Staging (R86) -/

/-- What STAGE does: it starts verification; while the stage is VERIFYING or a switch-over is under way it is ignored with LOST (R91). -/
def State.actStage (s : State) : State :=
  let st := s.get IMG.STATUS_STAGE_STATE
  if st = 1 ∨ st = 4 ∨ st = 5 then s.set IMG.STATUS_LOST 1
  else (({ s.askFlash .flush with img := { (s.askFlash .flush).img with staged := none } }).set IMG.STATUS_STAGE_STATE 1).set IMG.STATUS_CLASS 3

/-- LANE_PORT entries of ports and bundles, by PortID, as far as a change of them is of class RESET. -/
def placement (t : Tables) : List (Nat × Nat × Nat × Nat) :=
  ((t.lanes.map Prod.snd).map (fun e => (e.portid, e.octet, e.width, e.lane))).mergeSort (fun a b => a.1 ≤ b.1)

/-- LOCK regions with their indices. -/
def lockRegions (t : Tables) : List (Nat × RegionEnt) := t.regions.filter (fun e => e.2.rights.testBit 7)

/-- Whether the difference of two images is of class RESET (R86). -/
def resetClass (a b : Tables) : Bool :=
  a.mode != b.mode || placement a != placement b || lockRegions a != lockRegions b || a.twin.map Prod.snd != b.twin.map Prod.snd ||
    a.time.map Prod.snd != b.time.map Prod.snd || a.owners.map Prod.snd != b.owners.map Prod.snd

/-- The ports concerned by the differences of class DRAIN (R86): those whose own entry changed, the upstream ports of a partition whose UPSTREAM changed,
the ports that joined or left it, and the ports a slot channel fed before and after. -/
def drainPorts (a b : Tables) : List Nat :=
  let part := fun (t : Tables) (p : Nat) => (imageParts t).find? (fun e => e.part = p)
  let members := fun (t : Tables) (p : Nat) => ((part t p).map PartEnt.members).getD 0
  let up := fun (t : Tables) (p : Nat) => (part t p).map PartEnt.upstream
  let slot := fun (t : Tables) (c : Nat) => ((t.slots.map Prod.snd).find? (fun e => e.channel = c)).map SlotEnt.portid
  (List.range 96).filter (fun n =>
    (match laneOf a n, laneOf b n with
      | some x, some y => x.role != y.role || x.rate != y.rate || x.flags != y.flags
      | _, _ => false) ||
    (List.range 32).any (fun p => (members a p).testBit n != (members b p).testBit n || (up a p != up b p && (up a p == some n || up b p == some n))) ||
    (List.range 16).any (fun c => slot a c != slot b c && (slot a c == some n || slot b c == some n)))

/-- The class of a staged image against the one that runs, 0 LIVE, 1 DRAIN, 2 RESET, and the ports it drains; without one in force it is RESET. -/
def classify (s : State) (i : Image) : Nat × List Nat :=
  match s.img.active with
  | none => (2, [])
  | some a =>
    if resetClass a.tables i.tables then (2, [])
    else
      let ps := drainPorts a.tables i.tables
      (if ps = [] then 0 else 1, ps)

/-- Verification of the inactive slot, as the loader's steps 2 to 5. -/
def verifySlot (s : State) (k : Nat) : Except (Nat × List Byte × Fail) Image :=
  let m := imageBytes s k
  match parseImage m (slotBase k).2 with
  | .error f => .error (0, [], f)
  | .ok i =>
    match firstSome [verifyImage s m i, steppingArv s m, checkImage i] with
    | some f => .error (i.version, i.hash, f)
    | none => .ok i

/-- IMG_STAGE. -/
def execImgStage (path : Path) (s : State) : Res :=
  .next (s.writing path IMG.CTRL (strobe s IMG.CTRL_STAGE 0x40) (fun s => s.actStage))

/-- IMG_STAGE_DONE: VERIFIED with its class, or REFUSED; either is journaled (R92). What was written before STAGE is programmed first (R85). -/
def execImgStageDone (s : State) : Res :=
  if s.get IMG.STATUS_STAGE_STATE ≠ 1 ∨ s.img.flashOp.isSome then .next s
  else
    let k := inactiveSlot s
    .next (match verifySlot s k with
      | .error (ver, hash, f) =>
        let s := (((s.set IMG.STATUS_STAGE_STATE 3).set IMG.STATUS_CLASS 3).set IMG.STATUS_REASON f.reason).wr IMG.STAGED_VERSION (BitVec.ofNat 32 ver)
        s.imgEvent .imgStage ver k f.reason hash
      | .ok i =>
        let c := classify s i
        let s := { s with img := { s.img with staged := some (i, c.1, c.2) } }
        let s := (((s.set IMG.STATUS_STAGE_STATE 2).set IMG.STATUS_CLASS c.1).set IMG.STATUS_REASON 0).wr IMG.STAGED_VERSION (BitVec.ofNat 32 i.version)
        s.imgEvent .imgStage i.version k 0 i.hash)

/-! ### Switching (R87 to R89, R382, R387, R388) -/

/-- A drain deadline as it acts, in µs (R138, R391). -/
def drainUs (v : Nat) : Nat := min 1000000 (max 1 v)

/-- The ports and bundles a switch-over drains. -/
def switchPorts (s : State) (cls : Nat) (ports : List Nat) : List Nat := if cls = 2 then dataPorts s else if cls = 1 then ports else []

/-- The bundles it drains: those not OFF, for class RESET. -/
def switchBundles (s : State) (cls : Nat) : List Nat := if cls = 2 then (List.range 4).filter (fun b => s.flag (FBL.PHY_CTRL_ENABLE b)) else []

/-- The least lead of the epoch, in FT units (R387). -/
def switchLead (s : State) (cls : Nat) (ports : List Nat) : Nat :=
  let p := (switchPorts s cls ports).map (fun n => drainUs (s.get (PORT.DRAIN_DEADLINE_DEADLINE_US n)))
  let b := (switchBundles s cls).map (fun k => drainUs (s.get (BRG.BUNDLE_DRAIN_DEADLINE_DEADLINE_US k)))
  usFt (50 + (p ++ b).foldl max 0)

/-- Why SWITCH is refused: the pair's rules, a drain or mode change that runs, the checker on the runtime state, then the epoch. -/
def switchRefusal (s : State) (i : Image) (cls : Nat) (ports : List Nat) : Option Nat :=
  let paired : Bool := s.twin.enable && (s.mode = 3 || s.mode = 4)
  let pairStaged : Bool := match s.img.commit with
    | some c => c.pair
    | none => false
  let busy : Bool := (switchPorts s cls ports).any (fun n => decide (s.get (PORT.STATUS_DRAIN_STATE n) = 1)) ||
    (switchBundles s cls).any (fun b => decide (s.get (BRG.BUNDLE_DRAIN_STATUS_STATE b) = 1)) || s.flag GLB.MODE_CHANGING || s.twin.cmd.isSome
  let check : Option Fail :=
    if cls = 2 then checkImage i
    else
      let t := switchWritten s i (inactiveSlot s)
      firstSome [genBusyOn s (tablesBetween s t), checkState (underImage s i) (liveRd t), defaultTests t i.tables]
  if (paired && s.twin.peerHash != i.hash) || pairStaged then some 0x11
  else if busy then some 0x1A
  else if i.arv < s.fuses.arv then some 0x13
  else match check with
    | some f => some f.reason
    | none => (epochTests s (s.rd64 IMG.SWITCH_EPOCH_LO) (switchLead s cls ports)).map Fail.reason

/-- Write the boot pointer to name a slot, journaled (R47, R90, R92). -/
def State.pointTo (s : State) (slot ver : Nat) (hash : List Byte) : State := (s.writeBootPtr slot).imgEvent .bootptrWrite ver slot 0 hash

/-- The ports and bundles of an accepted switch-over are reserved, each with the FT at which its drain starts (R87, R387, R388). -/
def State.reserveSwitch (s : State) (epoch cls : Nat) (ports : List Nat) : State :=
  let s := (switchPorts s cls ports).foldl (fun (s : State) n =>
    s.setPaux n { s.paux n with reserved := true, drainAt := some (epoch - usFt (drainUs (s.get (PORT.DRAIN_DEADLINE_DEADLINE_US n)))) }) s
  (switchBundles s cls).foldl (fun (s : State) b =>
    let at_ := epoch - usFt (drainUs (s.get (BRG.BUNDLE_DRAIN_DEADLINE_DEADLINE_US b)))
    ({ s with brg := { s.brg with drainAt := SMap.set (fun _ => none) s.brg.drainAt b (some at_) } }).set (BRG.BUNDLE_DRAIN_STATUS_RESERVED_SW b) 1) s

/-- What SWITCH does. Without a verified image there is nothing to switch in: it is ignored (log entry 46). -/
def State.actSwitch (s : State) : State :=
  let st := s.get IMG.STATUS_STAGE_STATE
  if st = 1 ∨ st = 4 ∨ st = 5 then s.set IMG.STATUS_LOST 1
  else match s.img.staged with
    | none => s
    | some (i, cls, ports) =>
      let k := inactiveSlot s
      match switchRefusal s i cls ports with
      | some c => (s.set IMG.STATUS_REASON c).imgEvent .imgSwitch i.version k c i.hash
      | none =>
        let epoch := s.rd64 IMG.SWITCH_EPOCH_LO
        let s := (s.set IMG.STATUS_STAGE_STATE 4).set IMG.STATUS_REASON 0
        let s := { s with img := { s.img with switchAt := some epoch, switchAfter := none } }
        let s := (s.reserveSwitch epoch cls ports).imgEvent .imgSwitch i.version k 0 i.hash
        if cls = 2 then s.pointTo k i.version i.hash else s

/-- What CANCEL does: it withdraws a SWITCH_PENDING switch-over; otherwise it is ignored, with LOST while the stage is busy (R91). -/
def State.actImgCancel (s : State) : State :=
  let st := s.get IMG.STATUS_STAGE_STATE
  if st = 4 then s.withdrawSwitch 0 else if st = 1 ∨ st = 5 then s.set IMG.STATUS_LOST 1 else s

/-- What BOOTPTR_WRITE does (R90). -/
def State.actBootptr (s : State) : State := s.pointTo (s.get IMG.CTRL_BOOTPTR_SLOT) (s.rd IMG.ACTIVE_VERSION).toNat (activeHash s)

/-- A write of `IMG.CTRL`: BOOTPTR_SLOT, then the commands in the order of their bits. Ignored with LOST while STAGE_STATE is 1, 4 or 5 are STAGE, SWITCH
and, as far as its own text says so, CANCEL; ARV_COMMIT, REVOKE_OTHER and BOOTPTR_WRITE do not use the stage and are carried out, DESIGN CHOICE: R91
does not say which commands it means (log entry 46). -/
def State.actImgCtrl (s : State) (val : Word) : State :=
  let b := fun (i : Nat) => bitOf val.toNat i
  let s := if s.get IMG.CTRL_BOOTPTR_SLOT = bit (b 6) then s else s.set IMG.CTRL_BOOTPTR_SLOT (bit (b 6))
  let s := s.when (b 0) State.actStage
  let s := s.when (b 1) State.actSwitch
  let s := s.when (b 2) State.actImgCancel
  let s := s.when (b 3) State.actArvCommit
  let s := s.when (b 4) State.actRevokeOther
  s.when (b 5) State.actBootptr

/-- A command of `IMG.CTRL` through its path: its bit set, BOOTPTR_SLOT kept. -/
def State.imgCommand (s : State) (path : Path) (f : RF) : State :=
  let v := strobe s f 0x40
  s.writing path IMG.CTRL v (fun s => s.actImgCtrl v)

/-- IMG_SWITCH. -/
def execImgSwitch (path : Path) (s : State) : Res := .next (s.imgCommand path IMG.CTRL_SWITCH)

/-- IMG_CANCEL. -/
def execImgCancel (path : Path) (s : State) : Res := .next (s.imgCommand path IMG.CTRL_CANCEL)

/-- ARV_COMMIT. -/
def execArvCommit (path : Path) (s : State) : Res := .next (s.imgCommand path IMG.CTRL_ARV_COMMIT)

/-- KEYSLOT_REVOKE. -/
def execKeyslotRevoke (path : Path) (s : State) : Res := .next (s.imgCommand path IMG.CTRL_REVOKE_OTHER)

/-- BOOTPTR_WRITE. -/
def execBootptrWrite (path : Path) (s : State) : Res := .next (s.imgCommand path IMG.CTRL_BOOTPTR_WRITE)

/-! ### The drains and the epoch (R87, R88, R114, R387) -/

/-- Bundle drains of a switch-over whose start has come (R387). -/
def State.bundleDrainsDue (s : State) : State :=
  (List.range 4).foldl (fun (s : State) b =>
    match SMap.get (fun _ => none) s.brg.drainAt b with
    | some a =>
      if a ≤ s.time.ft then
        let s := { s with brg := { s.brg with drainAt := SMap.set (fun _ => none) s.brg.drainAt b none } }
        let s := s.set IMG.STATUS_STAGE_STATE 5
        if s.get (BRG.BUNDLE_DRAIN_STATUS_STATE b) = 0 ∧ ¬ s.flag (BRG.BUNDLE_DRAIN_STATUS_SHED b) then s.bundleDrainStarts b 4 else s
      else s
    | none => s) s

/-- SWITCHOVER_DRAIN_START: at the epoch minus its deadline a port's drain starts; so do the bundle drains that are due. -/
def execSwitchoverDrainStart (port : Fin 96) (s : State) : Res :=
  if s.img.switchAt.isNone then .next s
  else
    let s := s.bundleDrainsDue
    match (s.paux port).drainAt with
    | some a =>
      if a ≤ s.time.ft then
        let s := (s.setPaux port { s.paux port with drainAt := none }).set IMG.STATUS_STAGE_STATE 5
        .next (if s.flag (PORT.CTRL_ENABLE port) ∧ s.get (PORT.STATUS_DRAIN_STATE port) = 0 ∧ ¬ s.flag (PORT.STATUS_SHED port) then s.startDrain port 4
               else s)
      else .next s
    | none => .next s

/-- The switch-over applies (R87, R88): RESET by a warm reset; LIVE or DRAIN as one commit, and then the boot pointer. The last word of its entry records that the
shadow was reset (R521). Whatever recovery traffic a device
in BARE holds ends first (R37). -/
def State.switchover (s : State) (i : Image) (cls : Nat) (ports : List Nat) : State :=
  let k := inactiveSlot s
  let ev : Ev := { type := .imgSwitch, aux := i.version, epoch := true,
                   payload := [(s.rd IMG.STATUS).toNat, k, 0] ++ (List.range 8).map (fun j => ofLe ((i.hash.drop (4 * j)).take 4)) ++
                     [(s.rd TIME.STATUS).toNat, errBound s, 1] }
  let s := if ftState s = 2 then s else s.set TIME.STATUS_EPOCH_UNLOCKED 1
  if cls = 2 then
    let s := if s.mode = 0 then s.endAll (fun _ => true) .bareImage 0 else s
    (s.post Src.image ev).warmReset 3
  else
    let s := s.switchIn i k ports
    let s := s.releaseSwitch
    let s := (s.set IMG.STATUS_STAGE_STATE 0).set IMG.STATUS_CLASS 3
    let s := ({ s with img := { s.img with staged := none } }).post Src.image ev
    s.pointTo k i.version i.hash

/-- SWITCHOVER_APPLY: at FT at or past the epoch; a staged commit due in the same cycle applies first, and the switch-over is tested in a later one
(R114). A changed table that still drains withdraws it. -/
def execSwitchoverApply (s : State) : Res :=
  match s.img.switchAt, s.img.staged with
  | some e, some (i, cls, ports) =>
    let commitNow : Bool := match s.img.commit with
      | some c => decide (c.epoch ≤ s.time.ft)
      | none => false
    let wait : Bool := match s.img.switchAfter with
      | some c => decide (s.cycle ≤ c)
      | none => false
    if s.time.ft < e ∨ wait = true then .next s
    else if commitNow then .next (let s := s.commitDue; { s with img := { s.img with switchAfter := some s.cycle } })
    else
      match (if cls = 2 then none else genBusyOn s (tablesBetween s (switchWritten s i (inactiveSlot s)))) with
      | some f => .next (s.withdrawSwitch f.reason)
      | none => .next (s.switchover i cls ports)
  | _, _ => .next s

/-! ### Direct mode requests (R37, R39, R77) -/

/-- Why a direct request for a mode is refused; the changes a command may ask for are a park, and a pair's DEMOTE, RESTORE and HANDBACK. -/
def modeRefusal (s : State) (path : Path) (m : Nat) : Option Nat :=
  let role := fun (from6 back : Bool) => if s.twin.enable then roleRefusal s from6 back else some 0x16
  if changeRuns s then some 0x1A
  else if ¬ hasClass s path 3 then some 0x09
  else if m = 7 then parkRefusal s path
  else if (s.mode = 3 ∨ s.mode = 4) ∧ m = 5 then role false false
  else if s.mode = 6 ∧ (m = 3 ∨ m = 4) then (if m = s.twin.former then role true false else some 0x16)
  else if s.mode = 6 ∧ m = 5 then role true true
  else some 0x16

/-- What an accepted request starts. -/
def State.modeStarts (s : State) (path : Path) (m : Nat) : State :=
  if m = 7 then s.actPark path else if s.mode = 6 ∧ m = 5 then s.actHandback else if s.mode = 6 then s.actRestore else s.actDemote

/-- The result of a mode request, journaled (R84), and in the commit registers unless they hold a commit that is CHECKING or STAGED (log entry 47). -/
def State.modeResult (s : State) (reason : Nat) : State :=
  let st := s.get GLB.COMMIT_STATUS_STATE
  let state := if reason = 0 then 3 else 4
  let s := if st = 1 ∨ st = 2 then s
    else (((s.set GLB.COMMIT_STATUS_STATE state).set GLB.COMMIT_STATUS_REASON reason).set GLB.COMMIT_STATUS_REQUEST 1).wr GLB.COMMIT_OFFENDER 0
  s.postResult state reason 1 0 0 false

/-- MODE_REQUEST: refused with the code of R37 and journaled, or started. -/
def execModeRequest (path : Path) (mode : Fin 8) (s : State) : Res :=
  if s.pwr.up < 6 ∨ s.mode = 7 then .next s
  else match modeRefusal s path mode with
    | some c => .next ((s.modeResult c).post Src.glb { type := .modeRefused, aux := s.mode, payload := [mode, c, 0] })
    | none => .next ((s.modeResult 0).modeStarts path mode)

end Sys2Proof.Machine
end

