-- ==== Sys2Proof/Machine/Loader.lean ====
section
/-! DEFINITION. The tadpole loader (R38, R46, R72 to R74). -/
namespace Sys2Proof.Machine
open Sys2Proof

/-- The candidates in the order the loader tries them: after a wake the slots whose image has the recorded hash come first, and a device parked from BARE
tries none (R38, R46, R72). -/
def candidates (s : State) : List Nat :=
  if s.pwr.wakeRun then
    if s.pwr.parkMode = 0 then []
    else
      let hit := (bootOrder s).filter (fun k => sha384 (imageBytes s k) = s.pwr.parkHash)
      hit ++ (bootOrder s).filter (fun k => !hit.contains k)
  else bootOrder s

/-- The outcome of a candidate in the commit registers (R77). -/
def State.loadResult (s : State) (state reason offender : Nat) : State :=
  (((s.set GLB.COMMIT_STATUS_STATE state).set GLB.COMMIT_STATUS_REASON reason).set GLB.COMMIT_STATUS_REQUEST 2).wr GLB.COMMIT_OFFENDER
    (BitVec.ofNat 32 offender)

/-- A candidate fails: the result, and the journal entry of the step that failed it. -/
def State.loadFails (s : State) (type : EvType) (k ver : Nat) (hash : List Byte) (f : Fail) : State :=
  (s.loadResult 4 f.reason f.offender).imgEvent type ver k f.reason hash

/-- One candidate, steps 2 to 6: the state with its image applied, or as it was but for the events and the result (R74). -/
def loadOne (s : State) (k : Nat) : Except State (Image × State) :=
  let m := imageBytes s k
  match parseImage m (slotBase k).2 with
  | .error f => .error (s.loadFails .imgVerify k 0 [] f)
  | .ok i =>
    match verifyImage s m i with
    | some f => .error (s.loadFails .imgVerify k i.version i.hash f)
    | none =>
      let s := s.imgEvent .imgVerify i.version k 0 i.hash
      match firstSome [steppingArv s m, checkImage i] with
      | some f => .error (s.loadFails .imgCheck k i.version i.hash f)
      | none =>
        let s := s.imgEvent .imgCheck i.version k 0 i.hash
        match applyImage s i k with
        | .error f => .error (s.loadFails .imgApply k i.version i.hash f)
        | .ok t => .ok (i, (t.loadResult 3 0 0).imgEvent .imgApply i.version k 0 i.hash)

/-- The candidates in turn; BARE after the last (R72). -/
def State.loadFrom (s : State) : List Nat → State
  | [] => s.enterBare
  | k :: ks =>
    match loadOne s k with
    | .ok (i, t) => t.startImage i (s.get GLB.MODE_CURRENT)
    | .error t => t.loadFrom ks

/-- LOADER_RUN: after start-up step 6. The boot pointers are read once, and the copy used is journaled. -/
def execLoaderRun (s : State) : Res :=
  if s.pwr.up ≠ 6 then .next s
  else
    let order := candidates s
    let s := s.set IMG.STATUS_FUSED_ARV s.fuses.arv
    let s := s.post Src.image { type := .imgPointer, payload := [(s.rd IMG.STATUS).toNat, order.head?.getD 3, 0, (bootCopy s).getD 0xFF] }
    let s := s.loadFrom order
    .next { s with pwr := { s.pwr with wakeRun := false } }

end Sys2Proof.Machine
end

