-- ==== Sys2Proof/Machine/CfgSpace.lean ====
section
/-! DEFINITION. Configuration space: the management function (R465, R466), the switch ports (R135, R218, R467; the capabilities' layout is that of
the PCI Express Base Specification, PRESUMED, log entry 6), bus numbers (R210), bound functions (R217), and how a completion reaches whoever asked. -/
namespace Sys2Proof.Machine
open Sys2Proof

/-! ### A completion for its requester -/

/-- The outcome a completion gives one of the switch's own masters (R343, R486, R513). -/
def hostStatusOf (t : Tlp) : HostStatus := if t.status = 1 then .ur else if t.status ≠ 0 then .ca else if t.ep then .poison else .ok

/-- RESULT of the configuration mailbox for a completion status (R226); a reserved status counts as Unsupported Request (log entry 49). -/
def mailResult (st : Nat) : Nat := if st = 0 then 0 else if st = 2 then 3 else if st = 4 then 2 else 1

/-- Data of a read of the management DMA arrives, in one completion or several (R486). -/
def State.mdmaPart (s : State) (tag : Nat) (data : List Byte) : State :=
  match s.mdma.reads.find? (fun r => r.tag = tag) with
  | none => s
  | some r =>
    let got := r.got ++ data
    if r.len ≤ got.length then s.mdmaRead tag .ok got
    else { s with mdma := { s.mdma with reads := s.mdma.reads.map (fun x => if x.tag = tag then { x with got := got } else x) } }

/-- The completion of OUT entry `x` for its requester: Requester ID and tag restored, the Completer ID the host-view Routing ID (R216); back over the
fabric when the request had come from there (R307). -/
def State.boundCpl (s : State) (x ing : Nat) (t : Tlp) : State :=
  match s.tag? x with
  | none => s
  | some e =>
    match e.rem with
    | some h =>
      let s := s.sendTfpIn (answerTfp s 0x04 h { status := t.status, byteCount := t.byteCount % 8192, lowerAddr := t.lowerAddr, lenDw := t.lenDw % 1024,
                                                 cplRid := completerOf s e } t.data t.ep) ing (cplColour s ing t)
      if cplLast t then (s.freeTag x).retryWaiting else s
    | none =>
      let u := { cplTlp e.rid e.tag t.status t.tc (completerOf s e) t.byteCount t.lowerAddr t.data with ep := t.ep, ro := t.ro, ido := t.ido, ns := t.ns }
      (s.deliverCpl x e u ing t.tc).retryWaiting

/-- A completion `t` that entered at PortID `ing` (120 when the switch formed it) answers the request of origin `o`. -/
def State.giveCpl (s : State) (o : Origin) (ing : Nat) (t : Tlp) : State :=
  match o with
  | .port n => (s.cplTo t ing n .none_).2
  | .func n rid => (s.cplTo { t with dest := rid } ing n .none_).2
  | .tagged x => s.boundCpl x ing t
  | .bridged h _ x _ => s.returnCpl ing ⟨ing, t.dest, t.tag, 0, o, .cpl, 0, 0, ing⟩ t h x
  | .rmaRead k => if hostStatusOf t = .ok then s.readData k t.data else s.hostRead k (hostStatusOf t) []
  | .mdmaRead k => if hostStatusOf t = .ok then s.mdmaPart k t.data else s.mdmaRead k (hostStatusOf t) []
  | .debug => s.debugEnds (if hostStatusOf t = .ok then 0 else 5) (ofLe (t.data.take 4))
  | .mailbox => s.mailboxEnds (mailResult t.status) (BitVec.ofNat 32 (ofLe (t.data.take 4)))
  | _ => s

/-- The switch itself completes a request, as completer `rid`. -/
def State.answerOwn (s : State) (o : Origin) (t : Tlp) (rid status : Nat) (data : List Byte) : State :=
  s.giveCpl o 120 (cplTlp t.rid t.tag status t.tc rid (max 4 data.length) 0 data)

/-! ### Values -/

/-- Whether a function is a vDSP or a shared port's own function: a downstream switch port. -/
def cfgDown (fn : Nat) : Bool := 1056 ≤ fn || (fn % 33 ≠ 0 && fn % 33 ≠ 32)

/-- The port or bundle behind a switch-port function. -/
def cfgPort (s : State) (fn : Nat) : Nat :=
  if 1056 ≤ fn then fn - 1056 else if fn % 33 = 32 then upstreamOf s (fn / 33) else s.get (PART.VDSP_PORTID (fn / 33) (fn % 33))

/-- Whether a function is the vDSP of a shared port or bundle (R218). -/
def cfgShared (s : State) (fn : Nat) : Bool := fn < 1056 && cfgDown fn && 2 ≤ s.get (PART.VDSP_KIND (fn / 33) (fn % 33))

/-- Speed and width of a function's link: the physical port's, x16 at 64.0 GT/s for a bundle (R218). -/
def cfgLink (s : State) (fn : Nat) : Nat × Nat :=
  let n := cfgPort s fn
  if 96 ≤ n then (6, 16) else if linkUp s n then (s.get (PORT.STATUS_CUR_RATE n), lanesOf (s.get (PORT.STATUS_CUR_WIDTH n))) else (0, 0)

/-- Slot Capabilities (R135, R218). -/
def slotCaps (s : State) (fn : Nat) : Nat :=
  let n := cfgPort s fn
  if ¬ cfgDown fn then 0
  else if cfgShared s fn then 0x60
  else if n < 96 ∧ s.flag (PORT.CFG_HOTPLUG n) then
    let c := channelOf s n
    let attn : Bool := match c with
      | some k => s.flag (SLOT.CFG2_ATTN k) && (attnPin s k).isSome
      | none => false
    0x40060 + bit attn + 2 * bit c.isSome + 2 ^ 19 * n
  else 0

/-- Power Controller Control as it reads: the inverse of WANT (R452). -/
def powerCtl (s : State) (fn : Nat) : Nat :=
  if cfgShared s fn then 0
  else match channelOf s (cfgPort s fn) with
    | some c => bit (cfgDown fn && s.flag (PORT.CFG_HOTPLUG (cfgPort s fn)) && !s.flag (SLOT.STATUS_WANT c))
    | none => 0

/-- The read-only bits of a management function's dwords (R465, R466). -/
def mgmtFixed (p dw : Nat) : Nat :=
  match dw with
  | 0 => 0x2569FA5E
  | 1 => 0x00100000
  | 2 => 0x088000B0
  | 4 => 0x4
  | 6 => 0xC
  | 11 => 0xFA5E + 2 ^ 16 * p
  | 13 => 0x40
  | 16 => 0x00035001
  | 20 => 0x003F7011
  | 21 => 0xE000
  | 22 => 0xF000
  | 28 => 0x00020010
  | 29 => 0x8025
  | 64 => 0x00020001
  | _ => 0

/-- The read-only bits of a switch-port function's dwords (R123, R135, R218, R467). -/
def portFixed (s : State) (fn dw : Nat) : Nat :=
  let n := cfgPort s fn
  let down := cfgDown fn
  let rate := if n < 96 then s.get (PORT.CFG_RATE n) else 6
  match dw with
  | 0 => 0x2568FA5E
  | 1 => 0x00100000
  | 2 => 0x060400B0
  | 3 => 0x00010000
  | 9 => 0x00010001
  | 13 => 0x40
  | 15 => if down then 0x0100 else 0
  | 16 => 0x00035001
  | 20 => 0x00807005
  | 28 => if down then 0x00620010 + 2 ^ 24 * bit (slotCaps s fn ≠ 0) else 0x00520010
  | 29 => 0x8025
  | 31 => rate + 16 * (if n < 96 then lanesOf (s.get (PORT.CFG_WIDTH n)) else 16) + 0x800 + (if down then 0x100000 else 0) +
      0x80000 * bit (down && n < 96 && s.flag (PORT.CFG_HOTPLUG n)) + 2 ^ 24 * n
  | 32 => 2 ^ 16 * (cfgLink s fn).1 + 2 ^ 20 * (cfgLink s fn).2
  | 33 => slotCaps s fn
  | 34 => 0x400 * powerCtl s fn
  | 37 => 0x00030000 + (if down then 0x20 else 0)
  | 39 => 2 * (2 ^ rate - 1)
  | 64 => 0x20020001
  | 0x80 => if down then 0x24010012 else 0x2C010012
  | 0x81 => 0x3F
  | 0x90 => if down then 0x2801000D else 0
  | 0x91 => if down then 0x207F else 0
  | 0xA0 => if down then 0x2C01001D else 0
  | 0xA1 => if down then 0x80 else 0
  | 0xA2 => bit (down && n < 96 && s.flag (PORT.STATUS_DPC n))
  | 0xB0 => 0x3001001F
  | 0xB1 => 0x2
  | 0xC0 => 0x38010027
  | 0xC1 => 0x10000
  | 0xE0 => 0x0001002F
  | 0xE1 => 0x8
  | _ => 0

/-- Whether a dword is a lane's register of the Lane Margining capability: 16 lanes from 0x308 (R123; layout of the Base Specification, log entry 6). -/
def marginDw (dw : Nat) : Bool := 0xC2 ≤ dw && dw < 0xD2

/-- The bits of a dword that a host may write. -/
def cfgRw (fn dw : Nat) : Nat :=
  if fn < 1056 ∧ fn % 33 = 0 then
    match dw with
    | 1 => 0x6
    | 4 => 0xFF000000
    | 5 => 0xFFFFFFFF
    | 6 => 0xFFF00000
    | 7 => 0xFFFFFFFF
    | 12 => 0xFFFC0001
    | 17 => 0x3
    | 20 => 0xC0000000
    | 30 => 0x7FFF
    | 66 | 67 => 0x07FFFFFF
    | 69 => 0xFFFF
    | _ => 0
  else
    match dw with
    | 1 => 0x547
    | 6 => 0x00FFFFFF
    | 7 => 0xF0F0
    | 8 | 9 => 0xFFF0FFF0
    | 10 | 11 => 0xFFFFFFFF
    | 15 => 0x005F00FF
    | 17 => 0x3
    | 20 => 0x10000
    | 21 => 0xFFFFFFFC
    | 22 => 0xFFFFFFFF
    | 23 => 0xFFFF
    | 30 => 0x7FFF
    | 32 => 0x0FD3
    | 34 => 0x1BFF
    | 38 | 40 => 0xFFFF
    | 66 | 67 => 0x07FFFFFF
    | 69 => 0xFFFF
    | 0x81 => 0x803F0000
    | 0x82 => 0xFFFFF03F
    | 0x83 | 0x84 | 0x85 | 0x86 | 0x87 | 0x88 | 0x89 | 0x8A | 0x8B => 0xFFFFFFFF
    | 0x91 => if cfgDown fn then 0x007F0000 else 0
    | 0x92 => if cfgDown fn then 0xFFFFFFFF else 0
    | 0xA1 => if cfgDown fn then 0x00BF0000 else 0
    | 0xB2 => 0x3
    | 0xE2 => 0x3F
    | _ => if marginDw dw then 0xFFFF else 0

/-- The bits of a dword that a host clears by writing 1. -/
def cfgW1c (fn dw : Nat) : Nat :=
  match dw with
  | 30 => 0x000F0000
  | 34 => if cfgDown fn then 0x011F0000 else 0
  | 65 => 0x07FFFFFF
  | 68 => 0xFFFF
  | _ => 0

/-- The reset value of a dword's writable bits: those bits are kept with it taken out, so that a space of zeros is the space after reset. -/
def cfgDefault (fn dw : Nat) : Nat :=
  match dw with
  | 30 => 0x2810
  | 67 => 0x00462030
  | 69 => 0x2000
  | _ => if marginDw dw && (1056 ≤ fn || fn % 33 ≠ 0) then 0x9C38 else 0

/-- A dword of a function's configuration space as a configuration read returns it. -/
def State.cfgRead (s : State) (fn dw : Nat) : Word :=
  BitVec.ofNat 32 (if fn < 1056 ∧ fn % 33 = 0 then mgmtFixed (fn / 33) dw else portFixed s fn dw) ||| (s.cfgRd fn dw ^^^ BitVec.ofNat 32 (cfgDefault fn dw))

/-! ### Writes -/

/-- The bits of a dword that byte enables cover. -/
def beMask (be : Nat) : Word :=
  (List.range 4).foldl (fun (m : Word) i => if be.testBit i then m ||| fieldMask (8 * i) 8 else m) 0

/-- Pending MSI-X vectors that are no longer masked are sent (R468). -/
def State.msixRelease (s : State) (p : Nat) : State :=
  let ctl := s.cfgRd (33 * p) 0x14
  if fieldOf ctl 31 1 = 0 ∨ fieldOf ctl 30 1 = 1 then s
  else (List.range 64).foldl (fun s v =>
    let k := 4096 * p + 2048 + 4 * (v / 32)
    let pend := SMap.get (fun _ => (0 : Word)) s.msix k
    if pend.toNat.testBit (v % 32) ∧ fieldOf (SMap.get (fun _ => (0 : Word)) s.msix (4096 * p + 16 * v + 12)) 0 1 = 0 then
      ({ s with msix := SMap.set (fun _ => 0) s.msix k (withField pend (v % 32) 1 0) }).raiseVector p v
    else s) s

/-- A host write the switch ignores: completed, counted in EMU_REFUSED and journaled (R210, R217, R226). -/
def State.emuRefused (s : State) (p off : Nat) (val : Word) : State :=
  (s.addSat (PART.TABLE_EMU_REFUSED_V p) 1).post Src.part { type := .privRefused, inst := p, aux := off, payload := [upstreamOf s p, val.toNat] }

/-- Whether a bus number lies in partition p's range; where no PARTITION entry sets one, every number does (R210, log entry 44). -/
def busOk (s : State) (p bus : Nat) : Bool :=
  !s.flag (PART.TABLE_CTRL_VALID p) || (s.get (PART.TABLE_BUS_BUS_FIRST p) ≤ bus && bus ≤ s.get (PART.TABLE_BUS_BUS_LAST p))

/-- A write of a switch port's bus number register to `w` with byte enables `be`: a Secondary or Subordinate Bus Number outside the partition's range keeps its
value, and the write is counted (R210). A shared port's own function has device-view numbers, which no range bounds. -/
def State.writeBuses (s : State) (fn be : Nat) (w : Word) : State :=
  if 1056 ≤ fn then s.cfgWr fn 6 w
  else
    let p := fn / 33
    let old := s.cfgRd fn 6
    let okSec := !be.testBit 1 || busOk s p (fieldOf w 8 8)
    let okSub := !be.testBit 2 || busOk s p (fieldOf w 16 8)
    let v := if okSec then w else withField w 8 8 (fieldOf old 8 8)
    let v := if okSub then v else withField v 16 8 (fieldOf old 16 8)
    let s := s.cfgWr fn 6 v
    if okSec && okSub then s else s.emuRefused p 0x18 w

/-- Secondary Bus Reset of a switch port (R218): Hot Reset on the port behind it, or, from the upstream port, on every member. -/
def State.secondaryReset (s : State) (fn : Nat) : State :=
  if cfgShared s fn then s
  else if cfgDown fn then (if linkUp s (cfgPort s fn) then s.hotReset (cfgPort s fn) else s)
  else ((partPorts s (fn / 33)).filter (fun m => s.get (PORT.CFG_ROLE m) = 0 && linkUp s m)).foldl (fun s m => s.hotReset m) s

/-- What a configuration write sets off beside the bits it stores; `old` is the dword before it, `w` the value written where enabled. -/
def State.cfgEffects (s : State) (fn dw be : Nat) (old w : Word) : State :=
  let n := cfgPort s fn
  if fn < 1056 ∧ fn % 33 = 0 then (if dw = 20 then s.msixRelease (fn / 33) else s)
  else
    match dw with
    | 15 => if w.toNat.testBit 22 ∧ be.testBit 2 ∧ ¬ old.toNat.testBit 22 then s.secondaryReset fn else s
    | 30 => if n < 96 ∧ ¬ cfgShared s fn then s.setPaux n { s.paux n with mps := 128 * 2 ^ min 5 (devCtl s fn / 32 % 8) } else s
    | 34 =>
      if be.testBit 1 ∧ n < 96 ∧ ¬ cfgShared s fn ∧ s.flag (PORT.CFG_HOTPLUG n) then s.slotPowerControl n (w.toNat.testBit 10) else s
    | 0x84 | 0x85 =>
      if n < 96 ∧ ¬ cfgShared s fn then
        s.setPaux n { s.paux n with mcReceive := (s.cfgRd fn (mcCap 4)).toNat + 2 ^ 32 * (s.cfgRd fn (mcCap 5)).toNat }
      else s
    | 0xA1 =>
      if w.toNat.testBit 22 ∧ be.testBit 2 ∧ cfgDown fn ∧ n < 96 ∧ ¬ cfgShared s fn ∧ dpcEnabled s n then
        s.shedPort n true 3
      else s
    | 0xA2 => if w.toNat.testBit 0 ∧ be.testBit 0 ∧ cfgDown fn ∧ n < 96 ∧ ¬ cfgShared s fn then s.clearDpc n else s
    | _ => s

/-- A configuration write to one of the switch's own functions. -/
def State.cfgWrite (s : State) (fn dw be : Nat) (w : Word) : State :=
  let m := beMask be &&& BitVec.ofNat 32 (cfgRw fn dw)
  let old := s.cfgRd fn dw
  let new := ((old &&& ~~~m) ||| ((w ^^^ BitVec.ofNat 32 (cfgDefault fn dw)) &&& m)) &&& ~~~(w &&& beMask be &&& BitVec.ofNat 32 (cfgW1c fn dw))
  let s := if dw = 6 ∧ ¬ (fn < 1056 ∧ fn % 33 = 0) then s.writeBuses fn be new else s.cfgWr fn dw new
  s.cfgEffects fn dw be old w

/-! ### Which function a configuration request names (R209, R213, R217, R222) -/

/-- What a configuration request of partition p meets. -/
inductive CfgHit where
  | own (fn : Nat)
  | port (m : Nat) (type1 : Bool)
  | bound (i : Nat) (b : BindEnt)
  | placeholder
  | none_
deriving DecidableEq, Repr

/-- Whether a bus carries a bound function that the host can reach below a present vDSP of partition p. -/
def boundBus (s : State) (p bus : Nat) : Bool :=
  (rdBinds (liveRd s)).any (fun e => e.2.part = p && boundReach s e.2 && boundPresent s e.2 && hostRid s e.2 / 256 = bus)

/-- Decode a configuration request that enters partition p's upstream port. -/
def cfgHit (s : State) (p : Nat) (t : Tlp) : CfgHit :=
  let bus := t.dest / 256
  let up := busRange s (upFn p)
  if ¬ t.cfgType1 then (if t.dest % 256 = 0 then .own (upFn p) else .none_)
  else if up.1 = 0 ∨ bus < up.1 ∨ up.2 < bus then .none_
  else if bus = up.1 then
    let d := t.dest / 8 % 32
    if t.dest % 8 ≠ 0 then .none_
    else if d = 0 then .own (33 * p)
    else if s.get (PART.VDSP_KIND p d) ≠ 0 then .own (33 * p + d)
    else .none_
  else match (vdspsOf s p 1).find? (fun d => belowFn s (33 * p + d) bus) with
    | some d => .port (s.get (PART.VDSP_PORTID p d)) (decide (bus ≠ (busRange s (33 * p + d)).1))
    | none =>
      match bindOfHostRid s p t.dest with
        | some (i, b) => if boundPresent s b then .bound i b else .none_
        | none => if t.dest % 256 = 0 ∧ boundBus s p bus then .placeholder else .none_

/-! ### Bound functions (R217) -/

/-- The bindings of one function in ascending HOST_BASE order. -/
def functionBinds (s : State) (b : BindEnt) : List BindEnt :=
  (((rdBinds (liveRd s)).map Prod.snd).filter (fun e => e.part = b.part ∧ e.target = b.target ∧ e.hostRid = b.hostRid)).mergeSort
    (fun x y => x.hostBase ≤ y.hostBase)

/-- Where the sizing write of a BAR dword is remembered. -/
def sizedKey (p rid dw : Nat) : Nat := 2 ^ 20 * p + 8 * rid + (dw - 4)

/-- A BAR dword of a bound function: HOST_BASE, or the size mask after a sizing write, with the attribute bits; 0 where no binding backs it. -/
def emuBar (s : State) (b : BindEnt) (dw : Nat) (sized : Bool) : Nat :=
  match (functionBinds s b)[(dw - 4) / 2]? with
  | none => 0
  | some e =>
    let v := if sized then 2 ^ 64 - e.length else e.hostBase
    if dw % 2 = 0 then v % 2 ^ 32 / 16 * 16 + 4 + 8 * bit (2 ^ 32 ≤ e.hostBase) else v / 2 ^ 32

/-- The switch answers a configuration access to a bound function's BAR dwords or Expansion ROM BAR. -/
def State.emuAccess (s : State) (p : Nat) (b : BindEnt) (t : Tlp) (o : Origin) : State :=
  let k := sizedKey p t.dest t.dword
  let val : Word := BitVec.ofNat 32 (ofLe (t.data.take 4))
  if t.kind = .cfgRd then
    if t.dword = 12 then s.answerOwn o t t.dest 0 (leBytes 4 0)
    else
      let v := emuBar s b t.dword (s.part.sized.contains k)
      ({ s with part := { s.part with sized := s.part.sized.filter (· ≠ k) } }).answerOwn o t t.dest 0 (leBytes 4 v)
  else if t.dword ≠ 12 ∧ ((functionBinds s b)[(t.dword - 4) / 2]?).isSome ∧ t.firstBe = 15 ∧ val = 0xFFFFFFFF then
    ({ s with part := { s.part with sized := if s.part.sized.contains k then s.part.sized else s.part.sized ++ [k] } }).answerOwn o t t.dest 0 []
  else (s.emuRefused p (4 * t.dword) val).answerOwn o t t.dest 0 []

/-- A configuration access passed on to a bound function: to DEV_RID, under a tag entry (R214); through its window when it is on another switch
(R219). -/
def State.passConfig (s : State) (p ing colour i : Nat) (b : BindEnt) (t : Tlp) (o : Origin) : State :=
  let u := { t with dest := b.devRid, rid := proxyRid s p, cfgType1 := cfgTypeAt s b.target b.devRid }
  if 112 ≤ b.target then
    match windowOfBind s b with
    | some w => s.windowOut u ing colour (proxyRid s p) t.rid w.2.base w (some i) none o false ing
    | none => s.endPkt (rawPkt s t ing colour o) .noDest ing
  else
    let e : TagEntry := { isOut := true, xidGen := 0, rid := t.rid, tag := t.tag, ingress := ing, part := p, serial := serialOf s b.target, port := b.target,
                          bind := some i, cpl := hostRid s b, tc := t.tc }
    s.admitTo { id := s.core.nextId, body := .tlp u, dest := xbarOf s b.target, egress := b.target, tc := t.tc, kind := 1, ro := t.ro, colour := colour,
                gens := reqStamp s false, sub := matchSub s ing colour t.tc none, ingress := ing, cells := cellsOf (tlpBytes u),
                serial := serialOf s b.target, place := .voq, origin := o, need := some e }

/-- A configuration access to a bound function (R217). -/
def State.boundConfig (s : State) (p ing colour i : Nat) (b : BindEnt) (t : Tlp) (o : Origin) : State :=
  if (4 ≤ t.dword ∧ t.dword ≤ 9) ∨ t.dword = 12 then s.emuAccess p b t o else s.passConfig p ing colour i b t o

/-- The placeholder function's registers (R217). -/
def placeholderDw (dw : Nat) : Nat :=
  match dw with
  | 0 => 0x256AFA5E
  | 2 => 0xFF000000
  | 3 => 0x00800000
  | _ => 0

/-- The substitute for a completion that answers offset 0x00 of a bound function with vendor ID 0xFFFF: `PART.SHARED_VFID` of its port, when set
(R217). -/
def vfidData (s : State) (target : Nat) (data : List Byte) : List Byte :=
  let w := s.rd (PART.SHARED_VFID target)
  if ofLe (data.take 2) = 0xFFFF ∧ fieldOf w 0 16 ≠ 0xFFFF then leBytes 4 w.toNat else data

/-- A configuration request served by one of the switch's own functions. -/
def State.ownConfig (s : State) (fn : Nat) (t : Tlp) (o : Origin) : State :=
  if t.kind = .cfgRd then s.answerOwn o t t.dest 0 (leBytes 4 (s.cfgRead fn t.dword).toNat)
  else (s.cfgWrite fn t.dword t.firstBe (BitVec.ofNat 32 (ofLe (t.data.take 4)))).answerOwn o t t.dest 0 []

/-- A configuration request of partition p that entered at `ing`, from whoever sent it. -/
def State.configAccess (s : State) (p ing colour : Nat) (t : Tlp) (o : Origin) : State :=
  match cfgHit s p t with
  | .own fn => s.ownConfig fn t o
  | .port m type1 => s.portOut { t with cfgType1 := type1 } ing m colour o false none
  | .bound i b => s.boundConfig p ing colour i b t o
  | .placeholder =>
    if t.kind = .cfgRd then s.answerOwn o t t.dest 0 (leBytes 4 (placeholderDw t.dword))
    else (s.emuRefused p (4 * t.dword) (BitVec.ofNat 32 (ofLe (t.data.take 4)))).answerOwn o t t.dest 0 []
  | .none_ => s.endPkt (rawPkt s t ing colour o) .noDest ing

/-! ### The rows -/

/-- Whether a TLP is a Configuration Request. -/
def isConfig (t : Tlp) : Bool := t.kind = .cfgRd || t.kind = .cfgWr

/-- Whether port `n` is an upstream port that is alive. -/
def upAlive (s : State) (n : Nat) : Bool := s.get (PORT.CFG_ROLE n) = 1 && s.mode ≠ 7 && linkUp s n

/-- HOST_BUS_NUMBER_WRITE: device 0 stands for the upstream port, 1 to 31 for the vDSPs (log entry 51). -/
def execHostBusNumberWrite (part : Fin 32) (dev : Fin 32) (sec sub : Byte) (s : State) : Res :=
  let fn := if dev.val = 0 then upFn part else 33 * part.val + dev.val
  let w := withField (withField (s.cfgRd fn 6) 8 8 sec.toNat) 16 8 sub.toNat
  .next (if s.mode ≠ 7 ∧ (dev.val = 0 ∨ s.get (PART.VDSP_KIND part dev) ≠ 0) then s.writeBuses fn 6 w else s)

end Sys2Proof.Machine
end

