-- ==== Sys2Proof/Machine/Reads.lean ====
section
/-! DEFINITION. The read side of the register interface: the derived values registers show, the shadow view (R521), the `_LO` latch (R8, R518),
what a read clears (R519), the windows of BAR0 that hold no registers (R444, R468, R488, R516), and reads that are refused (R476, R522). -/
namespace Sys2Proof.Machine
open Sys2Proof

/-! ### Derived values -/

/-- The packets in a subscriber's pre-queue. -/
def preQueue (s : State) (i : Nat) : List Pkt := s.core.pkts.filter (fun q => q.place = .pre && q.sub = some i)

/-- BUSY, ORPHAN and CELLS of a subscriber (R200, R206). -/
def subWord3 (s : State) (i : Nat) : Nat :=
  let q := preQueue s i
  bit (q ≠ []) + 2 * bit (q ≠ [] && !s.flag (Sub.ENABLE i)) + 2 ^ 8 * sat 24 (q.foldl (fun n p => n + p.cells) 0)

/-- VALID and LOCKED of `GUARD.COUNT` (R245). -/
def guardCount (s : State) : Nat :=
  let r := (rdRegions (liveRd s)).filter (fun e => !s.guard.lost.contains e.1)
  r.length + 2 ^ 16 * (r.filter (fun e => s.flag (Region.LOCK e.1))).length

/-- IN_USE of a route: 0 the primary bundle, 1 the alternate, 2 none (R315, R333). -/
def routeInUse (s : State) (d : Nat) : Nat :=
  let pr := s.get (BRG.ROUTE_PRIMARY d)
  let al := s.get (BRG.ROUTE_ALTERNATE d)
  if s.brg.deadRoute.contains d then 2
  else if pr < 4 ∧ bundleUsable s pr then 0
  else if al < 4 ∧ bundleUsable s al then 1
  else 2

/-- An AT_EPOCH GO now passes the TIME_UNLOCKED test (R112). -/
def epochOk (s : State) : Bool := !(ftState s = 0 || (ftState s = 1 && heldTooLong s))

/-- The ms left of a channel's off time or insertion delay, and the ms of its absence (R464). -/
def slotTimers (s : State) (n : Nat) : Nat :=
  let a := s.saux n
  let left := match a.offDl, a.insertDl with
    | some d, _ => ftMs (d - s.adv)
    | none, some d => ftMs (d - s.adv)
    | none, none => 0
  sat 16 left + 2 ^ 16 * (match a.absentAt with
    | some t => sat 16 (ftMs (s.adv - t))
    | none => 0)

/-- The PRIVILEGE entry `PART.PRIV_SEL` selects (R226). -/
def privSel (s : State) : Option PrivEnt := s.part.privs[s.get PART.PRIV_SEL_INDEX]?

/-- `w` with the bits of `m` replaced by those of `v`. -/
def overlayBits (w : Word) (m v : Nat) : Word := (w &&& ~~~BitVec.ofNat 32 m) ||| (BitVec.ofNat 32 v &&& BitVec.ofNat 32 m)

/-- The low (`hi` false) or high half of a 64-bit number. -/
def half64 (v : Nat) (hi : Bool) : Word := BitVec.ofNat 32 (if hi then v / 2 ^ 32 else v)

/-- A GLB or TIME word as it reads: `w` is what the register holds. GO reads 1 while its check runs (R9, R82). -/
def liveGlb (s : State) (path : Path) (off : Nat) (w : Word) : Word :=
  if off = GLB.LEDGER_LO ∨ off = GLB.LEDGER_HI then half64 s.ledger.last (off = GLB.LEDGER_HI)
  else if off = GLB.VIEW then overlayBits w 1 (bit (s.views.contains (pathCode path)))
  else if off = GLB.COMMIT then overlayBits w 1 (bit (s.get GLB.COMMIT_STATUS_STATE = 1))
  else if off = TIME.FT_LO ∨ off = TIME.FT_HI then half64 (if s.mode = 7 then s.time.aon else s.time.ft) (off = TIME.FT_HI)
  else if off = TIME.HOLD_ELAPSED then BitVec.ofNat 32 (holdElapsed s)
  else if off = TIME.ERR_BOUND then BitVec.ofNat 32 (errBound s)
  else if off = TIME.STATUS then overlayBits w 0x20 (32 * bit (epochOk s))
  else if (inArray off (TIME.ALARM_STATUS 0) 0x20 4 16).isSome then
    overlayBits w 0xFF0000 (2 ^ 16 * (((inArray off (TIME.ALARM_STATUS 0) 0x20 4 16).bind (alarmOwner s)).map Prod.fst).getD 0)
  else w

/-- The commands of `IMG.CTRL` whose action is pending (R9, R91, R519): STAGE while VERIFYING, SWITCH until the switch-over has applied, ARV_COMMIT and
REVOKE_OTHER while their fuses are blown. -/
def imgPending (s : State) : Nat :=
  let st := s.get IMG.STATUS_STAGE_STATE
  bit (st = 1) + 2 * bit (st = 4 || st = 5) + 8 * bit (fuseRuns s 4) + 16 * bit (fuseRuns s 5)

/-- A PWR, FLT or IMG word as it reads (R72, R420, R434, R499). -/
def livePwr (s : State) (off : Nat) (w : Word) : Word :=
  if off = PWR.FUSE_CMD then overlayBits w 8 (8 * bit (match s.img.fuseOp with | some (op, _) => decide (op ≤ 3) | none => false))
  else if off = FLT.PINS then overlayBits w 0x1FF (faultPins s + 2 ^ 8 * bit (mspIrq s))
  else if off = FLT.SRC_CFG 37 ∨ off = FLT.SRC_CFG 52 then overlayBits w 3 2
  else if (inArray off (FLT.SRC_ACT 0) 0x10 4 64).isSome then w ||| 0x00400040
  else if (inArray off (FLT.SRC_ACT_FATAL 0) 0x10 4 64).isSome then w ||| 0x40
  else if off = IMG.CTRL then overlayBits w 0x1B (imgPending s)
  else if (inArray off (PWR.RAIL_STATUS 0) 0x10 4 4).isSome then overlayBits w 4 (4 * bit (atIdx (inArray off (PWR.RAIL_STATUS 0) 0x10 4 4) (fun r => clearPending s r)))
  else if off = IMG.FLASH_CTRL then
    overlayBits w 0x10000000 (2 ^ 28 * bit (erasePending s))
  else w

/-- A CORE or SCHED word as it reads (R165, R176, R192, R206). -/
def liveCore (s : State) (off : Nat) (w : Word) : Word :=
  if off = CORE.STATUS then overlayBits w 0x100 (0x100 * bit (mcStall s))
  else match inArray off (CORE.IBUF_LEVEL 0) 0x10 4 36 with
    | some i => BitVec.ofNat 32 (sat 16 (ibufUsed s i) + 2 ^ 16 * sat 16 (poolFree s i))
    | none => match inArray off (CORE.COPY_SLOT 0) 4 4 32 with
      | some c => overlayBits w 0x10000 (0x10000 * bit (slotBusy s c))
      | none => match inArray off (SCHED.PORT_GATE_STATUS 0) 0x40 4 100 with
        | some i => overlayBits w 0xFFFF ((gateMask s i).1 + 2 ^ 8 * (gateMask s i).2)
        | none => if off = SCHED.SUB_DATA3 then BitVec.ofNat 32 (subWord3 s (s.get SCHED.SUB_SEL_INDEX)) else w

/-- A GUARD, BRG or RMA word as it reads; key words read 0 (R245, R315, R345, R354, R374). -/
def liveBrg (s : State) (off : Nat) (w : Word) : Word :=
  if off = GUARD.COUNT then BitVec.ofNat 32 (guardCount s)
  else if off = BRG.TAG_CTRL then overlayBits w 0x4000 (0x4000 * bit (s.flag BRG.STATUS_RECLAIM_BUSY))
  else match inArray off (BRG.ROUTE 0) 4 4 2047 with
    | some d => overlayBits w 0xC00 (0x400 * routeInUse s d)
    | none =>
      let c := s.conn (s.get RMA.CONN_SEL_INDEX)
      if off = RMA.CONN_DATA3 then BitVec.ofNat 32 (c.state % 8 + 8 * (c.phase % 2) + 2 ^ 8 * (c.unacked.length % 2048))
      else if off = RMA.CONN_COUNTER_LO ∨ off = RMA.CONN_COUNTER_HI then half64 c.counter (off = RMA.CONN_COUNTER_HI)
      else if off = RMA.CONN_PSN then BitVec.ofNat 32 (c.psn % 2 ^ 24)
      else if off = RMA.CRYPTO_SEL then
        overlayBits w 0x4000 (0x4000 * bit (SMap.get (fun _ => (none : Option (List Byte))) s.rma.crypto (selSlot w)).isSome)
      else if RMA.CRYPTO_KEY 0 ≤ off ∧ off ≤ RMA.CRYPTO_KEY 7 then 0
      else match inArray off (RMA.KEYCMD_STATE 0) 0x20 4 32 with
        | some p => keyStateWord s p
        | none => w

/-- A SLOT, TWIN, JRNL, MDMA or PART word as it reads (R226, R406, R442, R464, R484). -/
def liveRest (s : State) (off : Nat) (w : Word) : Word :=
  if off = TWIN.CTRL then
    overlayBits w 7 (match s.twin.cmd with
      | some (act, _, _) => if 1 ≤ act ∧ act ≤ 3 then 2 ^ (act - 1) else 0
      | none => 0)
  else if off = TWIN.CROAK then overlayBits w 0xFFFF0000 (if s.twin.enable then 2 ^ 16 * sat 16 (ftUs (s.adv - (s.link s.twin.bundle).lastGood)) else 0)
  else if off = TWIN.CKPT_AGE then BitVec.ofNat 32 (if s.twin.enable then sat 32 (ftUs (s.adv - s.twin.ackAt)) else 0)
  else if TWIN.PAIR_KEY 0 ≤ off ∧ off ≤ TWIN.PAIR_KEY 7 then 0
  else if off = JRNL.STATUS then overlayBits w 1 (bit s.jrnl.gap)
  else if off = MDMA.ENG_OWNER 0 then
    (if s.flag JRNL.CTRL_DRAIN_EN then BitVec.ofNat 32 (1 + 2 * s.get JRNL.RING_CFG_PART) else 0)
  else if off = PART.CFG_CTRL then overlayBits w 1 (bit (s.flag PART.CFG_CTRL_BUSY))
  else if off = PART.PRIV_DATA0 then
    BitVec.ofNat 32 (match privSel s with | some e => 1 + 2 * (e.kind % 4) + 8 * (e.index % 128) | none => 0)
  else if off = PART.PRIV_DATA1 then BitVec.ofNat 32 (match privSel s with | some e => e.classes | none => 0)
  else match inArray off (SLOT.TIMERS 0) 0x1000 4 16 with
    | some n => BitVec.ofNat 32 (slotTimers s n)
    | none => match inArray off (PART.VDSP 0 0) 4 4 1024 with
      | some k =>
        let fn := 33 * (k / 32) + k % 32
        if s.get (PART.VDSP_KIND (k / 32) (k % 32)) = 0 then w
        else overlayBits w 0xFFFF0000 (2 ^ 16 * (busRange s fn).1 + 2 ^ 24 * (busRange s fn).2)
      | none => w

/-- Whether a REOPEN of the port whose CTRL lies at an offset waits for the checker (R9, R140). -/
def reopenPending (s : State) (off : Nat) : Bool :=
  s.img.checks.any (fun c => match c with
    | .enable e => e.off = off && bitOf e.val.toNat 6
    | .commit _ _ _ _ _ | .partner _ _ _ => false)

/-- A register as it reads on a path: `w` is the word the view shows, derived fields apart. -/
def liveWord (s : State) (path : Path) (off : Nat) (w : Word) : Word :=
  if off < 0x20000 then liveGlb s path off w
  else if off < 0x80000 then livePwr s off w
  else if 0x110000 ≤ off ∧ off < 0x140000 then liveCore s off w
  else if 0x140000 ≤ off ∧ off < 0x200000 then liveBrg s off w
  else if 0x200000 ≤ off then liveRest s off w
  else if (inArray off (PORT.CTRL 0) 0x1000 4 96).isSome then overlayBits w 0x40 (0x40 * bit (reopenPending s off))
  else if 0x100000 ≤ off ∧ off < 0x110000 ∧ 0x40 ≤ off % 0x4000 ∧ off % 0x4000 < 0x80 then
    BitVec.ofNat 32 (coefWord s ((off - 0x100000) / 0x4000) ((off % 0x4000 - 0x40) / 4))
  else w

/-- The word a path sees at a register's offset: live, or its shadow where the path's `GLB.VIEW` asks for it (R9, R521); an indirect window
whose selection names nothing reads 0 (R205). -/
def viewWord (s : State) (path : Path) (off : Nat) : Word :=
  match realOff s off with
  | none => 0
  | some r => liveWord s path off (if s.views.contains (pathCode path) then s.shd r else s.rd r)

/-! ### The windows of BAR0 that hold no registers -/

/-- The MSI-X table and PBA (R466, R468). -/
def msixWindow (off : Nat) : Bool := (0xE000 ≤ off && off < 0xE400) || (0xF000 ≤ off && off < 0xF008)

/-- The counter a PMC word belongs to: page, counter, high half (R488, R494); none beyond page 138 and for a reserved counter. -/
def pmcAt (off : Nat) : Option (Nat × Nat × Bool) :=
  let q := (off - 0x220000) / 0x1000
  let k := off % 0x1000 / 8
  let n := if q < 96 then 56 else if q < 100 then 128 else if q < 132 then 64 else 512
  if 0x220000 ≤ off ∧ off < 0x300000 ∧ off % 4 = 0 ∧ q < 139 ∧ k < n then some (q, k, off % 8 = 4) else none

/-- The marker and entry windows of the journal (R442, R447). -/
def jrnlWindow (off : Nat) : Bool := (0x301000 ≤ off && off < 0x301080) || (0x380000 ≤ off && off < 0x400000)

/-- The four bytes of a journal window. -/
def jrnlWord (s : State) (off : Nat) : Word :=
  let b := if off < 0x380000 then (if s.jrnl.gap ∧ ¬ s.flag JRNL.CTRL_DRAIN_EN then marker s else List.replicate 128 0) else delivered s ((off - 0x380000) / 128)
  BitVec.ofNat 32 (ofLe ((b.drop (off % 128)).take 4))

/-- Whether an offset is a word of BAR0 that something occupies (R6, R522). -/
def occupied (off : Nat) : Bool :=
  off % 4 = 0 && (msixWindow off || jrnlWindow off || (pmcAt off).isSome || (0x60000 ≤ off && off < 0x80000) || (regAt off).isSome)

/-- The word of a window. -/
def windowWord (s : State) (path : Path) (off : Nat) : Option Word :=
  if msixWindow off then
    some (match path with
      | .pcie _ p => SMap.get (fun _ => 0) s.msix (4096 * p.val + (if off < 0xF000 then off - 0xE000 else 2048 + (off - 0xF000)))
      | _ => 0)
  else if jrnlWindow off then some (jrnlWord s off)
  else if 0x60000 ≤ off ∧ off < 0x80000 then
    some (BitVec.ofNat 32 (ofLe ((List.range 4).map (fun i => flashByte s (windowAddr s ((off - 0x60000) / 4) + i)))))
  else none

/-! ### A read -/

/-- A read the view does not allow (R476): counted, and journaled at most once per path in any 1 ms, with the reads refused since. -/
def State.readRefused (s : State) (path : Path) (off : Nat) : State :=
  let c := pathCode path
  let n := SMap.get (fun _ => 0) s.part.rdCount c + 1
  let s := s.count (pathPage path) 35 1
  let now : Bool := match SMap.get (fun _ => none) s.part.rdLast c with
    | some t => decide (t + usFt 1000 ≤ s.adv)
    | none => true
  if now then
    ({ s with part := { s.part with rdLast := SMap.set (fun _ => none) s.part.rdLast c (some s.adv),
                                    rdCount := SMap.set (fun _ => 0) s.part.rdCount c 0 } }).post Src.glb
      { type := .privRefused, aux := off, payload := [c, n] }
  else { s with part := { s.part with rdCount := SMap.set (fun _ => 0) s.part.rdCount c n } }

/-- Whether a path reads an offset: its view (R475), for a counter word the pages it sees (R491). -/
def canRead (s : State) (path : Path) (off : Nat) : Bool :=
  match pmcAt off with
  | some (q, _, _) => pageVisible s path q || path = .msp
  | none => readAllowed s path off

/-- What PARKED lets the MSP read (R502). -/
def parkedRead (path : Path) (off : Nat) : Bool :=
  path = .msp && (parkedOk off || off = GLB.ID || off = GLB.MODE || off = TIME.FT_LO || off = TIME.FT_HI)

/-- Whether the register interface answers on a path: initialised (R509 step 6), and in PARKED only what R502 lists. -/
def answers (s : State) (path : Path) (off : Nat) : Bool := decide (6 ≤ s.pwr.up) && (s.mode ≠ 7 || parkedRead path off) || (s.mode = 7 && parkedRead path off)

/-- The latch of a pair on a path (R518); `off` is the `_LO` offset. -/
def latchKey (path : Path) (off : Nat) : Nat := 2 ^ 24 * pathCode path + off

/-- A read of `_LO` latches the half that goes with it. -/
def State.latch (s : State) (path : Path) (off : Nat) (hi : Word) : State := { s with hiLatch := SMap.set (fun _ => 0) s.hiLatch (latchKey path off) hi }

/-- The half latched. -/
def latched (s : State) (path : Path) (off : Nat) : Word := SMap.get (fun _ => 0) s.hiLatch (latchKey path off)

/-- What reading a register does to it (R519): RC fields clear; a fence gives its requesters to the snapshot (R321). -/
def State.readClears (s : State) (off : Nat) (fields : List FieldDef) : State :=
  match inArray off (BRG.FENCE 0) 0x10 4 2048 with
  | some w => s.readFence w
  | none => match realOff s off with
    | some r => if afterRead fields (s.rd r) = s.rd r then s else s.wr r (afterRead fields (s.rd r))
    | none => s

/-- Read a register of the map. -/
def State.readReg (s : State) (path : Path) (off : Nat) (half : Half) (fields : List FieldDef) : Word × State :=
  match half with
  | .hi => (latched s path (off - 4), s)
  | .lo => (viewWord s path off, (s.latch path off (viewWord s path (off + 4))).readClears off fields)
  | .whole => (viewWord s path off, s.readClears off fields)

/-- Read one counter word (R488). -/
def State.readCounter (s : State) (path : Path) (off q k : Nat) (hi : Bool) : Word × State :=
  if hi then (latched s path (off - 4), s)
  else (half64 (s.counter q k) false, s.latch path off (half64 (s.counter q k) true))

/-- Read a word of BAR0 that something occupies, whatever the path's view. -/
def State.readWord (s : State) (path : Path) (off : Nat) : Word × State :=
  match pmcAt off with
  | some (q, k, hi) => s.readCounter path off q k hi
  | none => match windowWord s path off with
    | some w => (w, s)
    | none => match regAt off with
      | some (r, _) => s.readReg path off r.half r.fields
      | none => (0, s)

/-- A read of the word at an offset of BAR0 on a path: the value, and what the read does. -/
def State.busRead (s : State) (path : Path) (off : Nat) : Word × State :=
  if ¬ occupied off ∨ ¬ answers s path off then (0, s)
  else if ¬ canRead s path off then (0, s.readRefused path off)
  else s.readWord path off

/-- Read consecutive words, in rising order (R469, R482). -/
def State.busReads (s : State) (path : Path) (off : Nat) : Nat → List Word × State
  | 0 => ([], s)
  | n + 1 =>
    let (w, s) := s.busRead path off
    let (ws, s) := s.busReads path (off + 4) n
    (w :: ws, s)

/-! ### The rows -/

/-- A read whose answer leaves on the path; it waits behind an earlier access of the path that waits (R33). -/
def State.readOut (s : State) (path : Path) (off : Nat) : State :=
  match waitingAt s path with
  | some k => s.hold k (.regRead path off)
  | none =>
    let (w, s) := s.busRead path off
    s.emit (.readData path off w)

/-- LO_READ_LATCH. -/
def execLoReadLatch (path : Path) (off : BitVec 24) (s : State) : Res := .next (s.readOut path off.toNat)

/-- RC_READ. -/
def execRcRead (path : Path) (off : BitVec 24) (s : State) : Res := .next (s.readOut path off.toNat)

/-- FENCE_READ: a read of `BRG.FENCE[w]` (R321, R336). -/
def execFenceRead (path : Path) (w : Fin 2048) (s : State) : Res := .next (s.readOut path (BRG.FENCE w))

end Sys2Proof.Machine
end

