-- ==== Sys2Proof/Machine/Bus.lean ====
section
/-! DEFINITION. The write side of the register interface: what a write of each register does (R9, R519), the configuration mailbox (R225, R226),
and the refusal a write meets (R476, R522). -/
namespace Sys2Proof.Machine
open Sys2Proof

/-! ### The configuration mailbox (R225) -/

/-- Every mailbox write is journaled with `PART.CFG_ADDR` and `CFG_CTRL` (R225, R439). -/
def State.mailEvent (s : State) : State :=
  s.post Src.mailbox { type := .mailbox, payload := [(s.rd PART.CFG_ADDR).toNat, (s.rd PART.CFG_CTRL).toNat] }

/-- The mailbox's request for a function below port `n`, a Configuration Request under a tag of the port (R225). -/
def State.mailSend (s : State) (n : Nat) : State :=
  let rid := s.get PART.CFG_ADDR_RID
  let (tag, s) := s.pickOwnTag n (portRid s n)
  let write := s.flag PART.CFG_CTRL_WRITE
  let t : Tlp := { kind := if write then .cfgWr else .cfgRd, dest := rid, dword := s.get PART.CFG_ADDR_DWORD, firstBe := s.get PART.CFG_CTRL_BE,
                   cfgType1 := decide (rid / 256 ≠ (busRange s (1056 + n)).1), rid := portRid s n, tag := tag.getD 0,
                   data := if write then leBytes 4 (s.rd PART.CFG_DATA).toNat else [] }
  let s := { s.set PART.CFG_CTRL_BUSY 1 with part := { s.part with mailDl := some (s.adv + usFt 50000) } }
  s.admitTo { enginePkt s t n .mailbox false with ingress := 120, sub := none }

/-- Issue the mailbox's request: TYPE 0 is the port's own switch-port function, answered at once (R225, R226). -/
def State.mailGo (s : State) : State :=
  let n := s.get PART.CFG_CTRL_PORTID
  let refused := fun (c : Nat) => ((s.set PART.CFG_CTRL_RESULT 5).set PART.CFG_CTRL_REASON c).set PART.STATUS_REASON c
  if reservedPort n then refused 0x02
  else if ¬ (n < 96 ∧ s.get (PORT.CFG_ROLE n) = 0 ∧ s.flag (PORT.CFG_SHARED n)) then refused 0x01
  else
    let s := (s.set PART.CFG_CTRL_REASON 0).set PART.STATUS_REASON 0
    if s.flag PART.CFG_CTRL_TYPE then s.mailSend n
    else
      let dw := s.get PART.CFG_ADDR_DWORD
      let s := if s.flag PART.CFG_CTRL_WRITE then s.cfgWrite (1056 + n) dw (s.get PART.CFG_CTRL_BE) (s.rd PART.CFG_DATA)
        else s.wr PART.CFG_DATA (s.cfgRead (1056 + n) dw)
      s.set PART.CFG_CTRL_RESULT 0

/-- What a write of `PART.CFG_CTRL` does; one with GO while BUSY is ignored. -/
def State.actCfgCtrl (s : State) (val : Word) : State :=
  let go := bitOf val.toNat 0
  if go ∧ s.flag PART.CFG_CTRL_BUSY then s.mailEvent
  else if reservedPort (fieldOf val PART.CFG_CTRL_PORTID.lo PART.CFG_CTRL_PORTID.n) then (s.set PART.CFG_CTRL_REASON 0x02).mailEvent
  else
    let s := (s.wr PART.CFG_CTRL ((s.rd PART.CFG_CTRL &&& 0xFFFF0000) ||| (val &&& 0x3FFE))).mailEvent
    if go then s.mailGo else s

/-! ### Writes by block -/

/-- Store a register's value by its access types at the place the access reaches: an indirect window's entry (R521). -/
def State.storeAt (s : State) (off : Nat) (val : Word) : State :=
  match realOff s off, regAt off with
  | some real, some (r, _) => s.storeReg real r.fields val
  | _, _ => s

/-- `GLB.VIEW`, held for each path (R521). -/
def State.actView (s : State) (path : Path) (val : Word) : State :=
  let l := s.views.filter (· ≠ pathCode path)
  { s with views := if bitOf val.toNat 0 then l ++ [pathCode path] else l }

/-- A write of the MSI-X table of the partition whose function the path reaches; pending vectors it unmasks are sent (R468). -/
def State.actMsix (s : State) (path : Path) (off : Nat) (val : Word) : State :=
  match path with
  | .pcie _ p =>
    if off < 0xE400 then ({ s with msix := SMap.set (fun _ => 0) s.msix (4096 * p.val + (off - 0xE000)) (if off % 16 = 12 then val &&& 1 else val) }).msixRelease p
    else s
  | _ => s

/-- A write of a GLB register. -/
def State.actGlb (s : State) (path : Path) (off : Nat) (val : Word) : State :=
  if off = GLB.VIEW then s.actView path val
  else if off = GLB.RESET then s.actReset path val
  else if off = GLB.COMMIT then
    let s := if bitOf val.toNat 0 then s.actCommitGo val else s.wr GLB.COMMIT (val &&& 0xE)
    if bitOf val.toNat 4 then s.actCommitCancel else s
  else if msixWindow off then s.actMsix path off val
  else s.storeAt off val

/-- A write of a wake alarm register: the comparison may be met again (R110). -/
def State.actWakeAlarm (s : State) (off : Nat) (val : Word) : State :=
  let s := { s with time := { s.time with wakeDone := false } }
  if off = TIME.WAKE_CTRL then s.wr off ((val &&& 1) ||| (s.rd off &&& ~~~val &&& 2)) else s.wr off val

/-- A write of a TIME register. -/
def State.actTime (s : State) (path : Path) (off : Nat) (val : Word) : State :=
  if off = TIME.CTRL then
    let s := s.storeAt off val
    let s := if bitOf val.toNat 4 then s.wr64 TIME.SNAP_FT_LO s.time.ft else s
    if bitOf val.toNat 5 then s.actTimeSet else s
  else if off = TIME.WAKE_CTRL ∨ off = TIME.WAKE_AT_LO ∨ off = TIME.WAKE_AT_HI then s.actWakeAlarm off val
  else match alarmAt off with
    | some n => if off = TIME.ALARM_CTRL n then s.actAlarmCtrl path n val else if off = TIME.ALARM_STATUS n then s.storeAt off val else (s.storeAt off val).rearm n
    | none => s.storeAt off val

/-- The pins resource class 0x01 gives to the wake logic (R68, R503). -/
def wakePins (s : State) : List Nat := (s.part.owners.filter (fun e => e.cls = 1 ∧ e.owner = 1)).map OwnerEnt.inst

/-- A write of a PWR register (R503, R514). -/
def State.actPwr (s : State) (path : Path) (off : Nat) (val : Word) : State :=
  if off = PWR.CTRL then s.actPwrCtrl path val
  else if off = PWR.WAKE_CFG then
    (if (List.range 4).any (fun i => bitOf val.toNat i && !(wakePins s).contains i) then s.set PWR.STATUS_REASON 0x03
     else (s.storeAt off val).set PWR.STATUS_REASON 0)
  else if off = PWR.FUSE_CMD then s.actFuseCmd val
  else match inArray off (PWR.RAIL_STATUS 0) 0x10 4 4 with
    | some r => if bitOf val.toNat 2 then s.actRailClear r else s
    | none => s.storeAt off val

/-- A write of a FLT register (R431 to R434, R446). -/
def State.actFlt (s : State) (path : Path) (off : Nat) (val : Word) : State :=
  if off = FLT.STATUS_LO then s.actStatusClear val.toNat
  else if off = FLT.STATUS_HI then s.actStatusClear (2 ^ 32 * val.toNat)
  else if off = FLT.INJECT then s.actInject path val
  else if off = FLT.SHED_CMD then s.actShedCmd val
  else s.storeAt off val

/-- A write of an IMG register or of the flash window. -/
def State.actImg (s : State) (off : Nat) (val : Word) : State :=
  if off = IMG.CTRL then s.actImgCtrl val
  else if off = IMG.FLASH_CTRL then s.actFlashCtrl val
  else if 0x60000 ≤ off then s.actFlashWrite ((off - 0x60000) / 4) val
  else s.storeAt off val

/-- A write of an FBL register of bundle `b` at `o` in its block (R264, R285, R298). -/
def State.actFbl (s : State) (path : Path) (b o : Nat) (off : Nat) (val : Word) : State :=
  if o = 0 then s.actPhyCtrl path b val
  else if o = 0x100 then
    let s := s.storeAt off val
    if bitOf val.toNat 0 then s.actLinkRestart b else s
  else if o = 0x104 then s.actLlLimit b val
  else if 0x110 ≤ o ∧ o ≤ 0x11C then s.actLlPause b ((o - 0x110) / 4) val
  else s.storeAt off val

/-- A write of a CORE register; one of another kind than a session's is the last that `CORE.STATUS`.REASON tells of (R176). -/
def State.actCore (s : State) (path : Path) (off : Nat) (val : Word) : State :=
  match inArray off (CORE.MIRROR_CTRL 0) 0x40 0x40 8 with
  | some m => if off = CORE.MIRROR_CTRL m then s.actMirrorCtrl path m val else s.storeAt off val
  | none => if off = CORE.CTRL then s.actCoreCtrl path val else (s.storeAt off val).set CORE.STATUS_REASON 0

/-- A write of a SCHED register; another sampling period counts from FT 0 as well (R196). -/
def State.actSched (s : State) (off : Nat) (val : Word) : State :=
  if off = SCHED.GATE_SEL ∧ reservedPort (fieldOf val 0 7) then s.set SCHED.STATUS_REASON 0x02
  else
  let s := s.set SCHED.STATUS_REASON 0
  if off = SCHED.CTRL then
    let was := s.flag SCHED.CTRL_SAMPLE_EN
    let s := s.storeAt off val
    let s := if bitOf val.toNat 0 ∧ ¬ was then s.resumeSampling else s
    if bitOf val.toNat 1 then s.actSampleClear else s
  else if off = SCHED.SAMPLE then
    let p := samplePeriod s
    let s := s.storeAt off val
    if samplePeriod s = p then s else s.resumeSampling
  else if off = SCHED.SAMP_SEL then s.actSampSel val
  else s.storeAt off val

/-- A write of a BRG register: in modes 0 to 2 only routes, lent ports and the sideband watch may be staged (R308). -/
def State.actBrg (s : State) (off : Nat) (val : Word) : State :=
  let staging := (BRG.ROUTE 0 ≤ off && off < BRG.ROUTE 2047) || (BRG.LEND 0 ≤ off && off < BRG.LEND 96) || (BRG.SB_WATCH_CFG 0 ≤ off && off < BRG.SB_WATCH_CFG 64)
  match inArray off (BRG.BUNDLE_DRAIN_CTRL 0) 0x10 4 4 with
  | some b => s.actBundleDrain b val
  | none =>
    if s.mode < 3 ∧ ¬ staging then s.set BRG.STATUS_REASON 0x16
    else if off = BRG.TAG_CTRL then s.actTagCtrl val
    else if off = BRG.RSP_BUDGET ∧ (fieldOf val 0 14 < 256 ∨ 14976 < fieldOf val 0 14) then s.set BRG.STATUS_REASON 0x82
    else
      let s := (s.storeAt off val).set BRG.STATUS_REASON 0
      if off = BRG.LATE_REC ∧ bitOf val.toNat 0 then { s with brg := { s.brg with raised := false } } else s

/-- A write of an RMA register. -/
def State.actRma (s : State) (path : Path) (off : Nat) (val : Word) : State :=
  match inArray off (RMA.RING_OWNER 0) 0x40 0x40 64 with
  | some r => s.actRingWord path r ((off - RMA.RING_OWNER r) / 4) val
  | none => match inArray off (RMA.KEY_POOL 0) 4 4 32 with
    | some p => s.actKeyPool p val
    | none => match inArray off (RMA.KEYCMD_CMD 0) 0x20 4 32 with
      | some p => s.actKeyCmd p val
      | none =>
        if RMA.CONN_DATA0 ≤ off ∧ off ≤ RMA.CONN_DATA3 then s.actConnData ((off - RMA.CONN_DATA0) / 4) val
        else if off = RMA.CONN_CMD then s.actConnCmd val
        else if off = RMA.CRYPTO_SEL then s.actCryptoSel val
        else s.storeAt off val

/-- A write of a TWIN register. -/
def State.actTwin (s : State) (off : Nat) (val : Word) : State :=
  if off = TWIN.CTRL then s.actTwinCtrl val
  else if off = TWIN.DECIDE then s.actDecide val
  else if off = TWIN.PAIR_KEY_CTRL then (if bitOf val.toNat 0 then s.actPairKeyLoad else s)
  else s.storeAt off val

/-- A write of a JRNL register (R442, R447). -/
def State.actJrnl (s : State) (off : Nat) (val : Word) : State :=
  if off = JRNL.CTRL then
    let s := s.storeAt off val
    if bitOf val.toNat 3 then s.actGapAck else s
  else if off = JRNL.RD_INDEX then s.actRdIndex val
  else s.storeAt off val

/-- A write of an MDMA register. -/
def State.actMdma (s : State) (path : Path) (off : Nat) (val : Word) : State :=
  match inArray off (MDMA.ENG_OWNER 0) 0x40 0x40 8 with
  | some e => s.actMdmaWord path e ((off - MDMA.ENG_OWNER e) / 4) val
  | none => s.storeAt off val

/-- A write of a PART register. -/
def State.actPart (s : State) (off : Nat) (val : Word) : State :=
  if off = PART.CFG_CTRL then s.actCfgCtrl val
  else if off = PART.CFG_ADDR ∨ off = PART.CFG_DATA then (s.storeAt off val).mailEvent
  else (s.storeAt off val).set PART.STATUS_REASON 0

/-- A write that has reached its register. -/
def State.actWrite (s : State) (path : Path) (off : Nat) (val : Word) : State :=
  if off < 0x10000 then s.actGlb path off val
  else if off < 0x20000 then s.actTime path off val
  else if off < 0x30000 then s.actPwr path off val
  else if off < 0x40000 then s.actFlt path off val
  else if off < 0x80000 then s.actImg off val
  else if off < 0xE0000 then
    (if off % 0x1000 = 8 then s.actPortCtrl path ((off - 0x80000) / 0x1000) val
     else if portPending s ((off - 0x80000) / 0x1000) then s.enqueueCheck path off val
     else s.portStored ((off - 0x80000) / 0x1000) (fun s => s.storeAt off val))
  else if off < 0x100000 then s.storeAt off val
  else if off < 0x110000 then s.actFbl path ((off - 0x100000) / 0x4000) (off % 0x4000) off val
  else if off < 0x120000 then s.actCore path off val
  else if off < 0x140000 then s.actSched off val
  else if off < 0x180000 then (s.storeAt off val).set GUARD.STATUS_REASON 0
  else if off < 0x1C0000 then s.actBrg off val
  else if off < 0x200000 then s.actRma path off val
  else if off < 0x210000 then
    (if off % 0x1000 = 0xC then s.actSlotCtrl ((off - 0x200000) / 0x1000) val else s.storeAt off val)
  else if off < 0x220000 then s.actTwin off val
  else if off < 0x400000 then s.actJrnl off val
  else if off < 0x410000 then s.actMdma path off val
  else s.actPart off val

/-! ### A write on a path -/

/-- Whether a write at an offset is ignored without being recorded: nothing is there, or a counter or journal window (R494, R522). -/
def ignored (off : Nat) : Bool := !occupied off || (pmcAt off).isSome || jrnlWindow off

/-- A write of the word at an offset of BAR0 on a path. -/
def State.busWrite (s : State) (path : Path) (off : Nat) (val : Word) : State :=
  if ignored off then s
  else if off = TWIN.DECIDE then s.decideWrite path val
  else match alarmAt off with
    | some n => if off = TIME.ALARM_CTRL n then s.alarmWrite path n val else s.writing path off val (fun s => s.actWrite path off val)
    | none => s.writing path off val (fun s => s.actWrite path off val)

/-- Write consecutive words, in rising order (R469). -/
def State.busWrites (s : State) (path : Path) (off : Nat) : List Word → State
  | [] => s
  | w :: ws => (s.busWrite path off w).busWrites path (off + 4) ws

/-! ### What a write meets (R482, R483, R513) -/

/-- The field in which a block names why it refused the last write of a register. -/
def reasonOf (off : Nat) : Option RF :=
  if off = GLB.COMMIT then some GLB.COMMIT_STATUS_REASON
  else if off = PWR.FUSE_CMD then some PWR.FUSE_STATUS_REASON
  else if 0x20000 ≤ off ∧ off < 0x30000 then some PWR.STATUS_REASON
  else if off = FLT.SHED_CMD then some FLT.SHED_CMD_REASON
  else if off = IMG.CTRL then some IMG.STATUS_REASON
  else if 0x80000 ≤ off ∧ off < 0xE0000 then some (PORT.STATUS_REASON ((off - 0x80000) / 0x1000))
  else if 0x100000 ≤ off ∧ off < 0x110000 then
    some (if off % 0x4000 < 0x100 then FBL.PHY_STATUS_REASON ((off - 0x100000) / 0x4000) else FBL.LL_STATUS_REASON ((off - 0x100000) / 0x4000))
  else if 0x110000 ≤ off ∧ off < 0x120000 then
    some (match inArray off (CORE.MIRROR_CTRL 0) 0x40 0x40 8 with
      | some m => CORE.MIRROR_STATUS_REASON m
      | none => CORE.STATUS_REASON)
  else if 0x120000 ≤ off ∧ off < 0x140000 then some SCHED.STATUS_REASON
  else if 0x140000 ≤ off ∧ off < 0x180000 then some GUARD.STATUS_REASON
  else if 0x180000 ≤ off ∧ off < 0x1C0000 then
    some (match inArray off (BRG.BUNDLE_DRAIN_CTRL 0) 0x10 0x10 4 with
      | some b => BRG.BUNDLE_DRAIN_STATUS_REASON b
      | none => BRG.STATUS_REASON)
  else if 0x1C0000 ≤ off ∧ off < 0x200000 then
    some (match inArray off (RMA.RING_OWNER 0) 0x40 0x40 64, inArray off (RMA.KEYCMD_INDEX 0) 0x20 0x20 32 with
      | some r, _ => if off = RMA.RING_OWNER r then RMA.STATUS_REASON else RMA.RING_STATUS_REASON r
      | none, some p => RMA.KEYCMD_RESULT_RESULT p
      | none, none => if off = RMA.CONN_CMD then RMA.CONN_RESULT_REASON else RMA.STATUS_REASON)
  else if 0x200000 ≤ off ∧ off < 0x210000 then some (SLOT.STATUS_REASON ((off - 0x200000) / 0x1000))
  else if 0x210000 ≤ off ∧ off < 0x220000 then some TWIN.STATUS_REASON
  else if 0x400000 ≤ off ∧ off < 0x410000 then
    some (match inArray off (MDMA.ENG_OWNER 0) 0x40 0x40 8 with
      | some e => MDMA.ENG_STATUS_REASON e
      | none => MDMA.STATUS_REASON)
  else if off = PART.CFG_CTRL then some PART.CFG_CTRL_REASON
  else if 0x410000 ≤ off then some PART.STATUS_REASON
  else none

/-- A write, carried out by `f`, with what it met: 0 done, 0x09 its path may not write there, 0x18 its domain is off, else the reason the block reports (R83, R477, R522). -/
def State.tryBy (s : State) (path : Path) (off : Nat) (f : State → State) : Nat × State :=
  if ignored off then (0, s)
  else if s.pwr.up < 6 ∨ (s.mode = 7 ∧ ¬ (path = .msp ∧ parkedOk off)) then (0x18, s)
  else if ¬ writeAllowed s path off then (0x09, f s)
  else match reasonOf off with
    | none => (0, f s)
    | some r =>
      let t := f (s.set r 0)
      if t.get r = 0 then (0, f s) else (t.get r, t)

/-- A write that arrives, with what it met. -/
def State.tryWrite (s : State) (path : Path) (off : Nat) (val : Word) : Nat × State := s.tryBy path off (fun s => s.busWrite path off val)

/-- A write that has waited is carried out (R33). -/
def State.writeNow (s : State) (path : Path) (off : Nat) (val : Word) : State := s.guarded path off val (fun s => s.actWrite path off val)

/-! ### The rows -/

/-- REGISTER_WRITE. -/
def execRegisterWrite (path : Path) (off : BitVec 24) (val : Word) (s : State) : Res := .next (s.busWrite path off.toNat val)

/-- ENABLE_BIT_WRITE: a write that sets an enable bit reaches its block, which hands it to the checker's queue; while 32 wait there, the register
interface accepts no write (R77, R79). -/
def execEnableBitWrite (path : Path) (off : BitVec 24) (val : Word) (s : State) : Res := .next (s.busWrite path off.toNat val)

/-- MAILBOX_GO: a write of `PART.CFG_CTRL` that sets GO and leaves the register's other bits. -/
def execMailboxGo (path : Path) (s : State) : Res := .next (s.busWrite path PART.CFG_CTRL (strobe s PART.CFG_CTRL_GO 0x3FFE))

/-- The mailbox's request as it stands in the core or outstanding is forgotten; a record becomes one of an ended request (R138, R225). -/
def State.mailForget (s : State) : State :=
  let mine := s.core.out.filter (fun r => r.origin = .mailbox)
  let s := (s.core.pkts.filter (fun p => p.origin = .mailbox)).foldl (fun (s : State) p => s.dropPkt p.id) s
  { s with core := { s.core with out := s.core.out.filter (fun r => r.origin ≠ .mailbox),
                                 ended := s.core.ended ++ mine.map (fun r => EndedRec.mk r.port r.rid r.tag) } }

/-- MAILBOX_COMPLETION: RESULT and the data of a read; a completion that comes when no request waits is discarded and counted. -/
def execMailboxCompletion (status : Fin 8) (data : Word) (s : State) : Res :=
  let n := s.get PART.CFG_CTRL_PORTID
  .next (if s.flag PART.CFG_CTRL_BUSY then (if readQueued s .mailbox then s else (s.closeOut .mailbox).mailboxEnds (mailResult status) data)
   else if n < 96 then s.count n 21 1 else s)

/-- MAILBOX_TIMEOUT: 50 ms without a completion. -/
def execMailboxTimeout (s : State) : Res :=
  .next (if s.flag PART.CFG_CTRL_BUSY ∧ s.due s.part.mailDl then s.mailForget.mailboxEnds 4 0 else s)

end Sys2Proof.Machine
end

