-- ==== Sys2Proof/Machine/Endpoint.lean ====
section
/-! DEFINITION. The management function's BARs (R465, R469), the Device Description Table (R470 to R473), the management serial port (R483) and
the debug access port (R513). -/
namespace Sys2Proof.Machine
open Sys2Proof

/-! ### The Device Description Table -/

/-- The path through partition p's upstream port. -/
def upPath (s : State) (p : Nat) : Path := .pcie (Fin.ofNat 96 (upstreamOf s p)) (Fin.ofNat 32 p)

/-- The classes of the view the table of partition p describes (R470, R477). -/
def ddtClasses (s : State) (p : Nat) : Nat := classesOf s (upPath s p)

/-- Base, stride and instances of the blocks in the order of the BAR0 block map (R471, R516). -/
def ddtBlocks : List (Nat × Nat × Nat) :=
  [(0x000000, 0, 1), (0x010000, 0, 1), (0x020000, 0, 1), (0x030000, 0, 1), (0x040000, 0, 1), (0x080000, 0x1000, 96), (0x0E0000, 0x800, 32),
   (0x100000, 0x4000, 4), (0x110000, 0, 1), (0x120000, 0, 1), (0x140000, 0, 1), (0x180000, 0, 1), (0x1C0000, 0, 1), (0x200000, 0x1000, 16),
   (0x210000, 0, 1), (0x220000, 0, 1), (0x300000, 0, 1), (0x400000, 0, 1), (0x410000, 0, 1)]

/-- Whether instance `i` of block `id` exists under the active image (R471). -/
def ddtExists (s : State) (id i : Nat) : Bool :=
  if id = 6 then decide (s.get (PORT.CFG_ROLE i) < 3)
  else if id = 7 then decide (s.get (LANE.MAP_USED i) ≠ 0)
  else if id = 8 then (laneOf (imageTables s) (112 + i)).isSome
  else if id = 14 then hasChannel s i
  else true

/-- Whether it is in partition p's view (R475). -/
def ddtInView (s : State) (p id base i : Nat) : Bool :=
  let cl := ddtClasses s p
  cl.testBit 0 ||
    (if id = 6 ∨ id = 7 ∨ id = 14 then partReadable s p cl base
     else if id = 16 then cl.testBit 5
     else decide (i = 0) && ([1, 2, 5, 12, 13, 15, 18, 19].contains id))

/-- A block record (R471). -/
def ddtBlock (s : State) (p id : Nat) (b : Nat × Nat × Nat) : List Byte :=
  let present := (List.range b.2.2).foldl (fun m i => if ddtExists s id i && ddtInView s p id (b.1 + b.2.1 * i) i then m + 2 ^ i else m) 0
  leBytes 1 id ++ leBytes 1 (bit (present ≠ 0) + 2 * bit ((ddtClasses s p).testBit 0)) ++ leBytes 2 b.2.2 ++ leBytes 4 b.1 ++ leBytes 4 b.2.1 ++
    leBytes 16 present ++ leBytes 4 0

/-- KIND, INSTANCE, COUNT and NAME_FIRST of a counter page (R472, R489). -/
def pageShape (q : Nat) : Nat × Nat × Nat × Nat :=
  if q < 96 then (0, q, 64, 0) else if q < 100 then (1, q - 96, 128, 64) else if q < 132 then (2, q - 100, 64, 192)
  else (3, q - 132, 512, 256 + 512 * (q - 132))

/-- A page record (R472). -/
def ddtPage (s : State) (p q : Nat) : List Byte :=
  let x := pageShape q
  leBytes 2 q ++ leBytes 1 x.1 ++ leBytes 1 (bit (pageVisible s (upPath s p) q)) ++ leBytes 2 x.2.1 ++ leBytes 2 x.2.2.1 ++ leBytes 4 x.2.2.2 ++ leBytes 4 0

/-- Counter name `k`: `RESERVED` for a reserved counter; the manual gives no other names (log entry 2). -/
def ddtName (k : Nat) : List Byte :=
  if 56 ≤ k ∧ k < 64 then [0x52, 0x45, 0x53, 0x45, 0x52, 0x56, 0x45, 0x44, 0, 0, 0, 0, 0, 0, 0, 0]
  else (List.range 16).map (Config.counterName k)

/-- The header up to its CRC field (R470). -/
def ddtHead (s : State) (p : Nat) : List Byte :=
  [0x56, 0x58, 0x44, 0x44] ++ leBytes 2 1 ++ leBytes 2 0x60 ++ leBytes 4 0xFB70 ++ leBytes 1 s.mode ++ leBytes 1 0xB0 ++
    leBytes 2 (s.get GLB.DEVID_DEVID + 2 ^ 15 * s.get GLB.DEVID_VALID) ++ leBytes 1 p ++ leBytes 1 1 ++ leBytes 1 (ddtClasses s p % 64) ++
    leBytes 1 19 ++ leBytes 2 139 ++ leBytes 2 s.part.ddtSeq ++ leBytes 4 (if s.mode = 0 then 0 else (s.rd IMG.ACTIVE_VERSION).toNat) ++ leBytes 4 3840 ++
    (if s.mode = 0 then List.replicate 48 0 else (activeHash s ++ List.replicate 48 0).take 48) ++ leBytes 4 0x60 ++ leBytes 4 0x2C0 ++ leBytes 4 0xB70

/-- What follows the header. -/
def ddtTail (s : State) (p : Nat) : List Byte :=
  (ddtBlocks.zipIdx.flatMap (fun b => ddtBlock s p (b.2 + 1) b.1)) ++ (List.range 139).flatMap (ddtPage s p) ++ (List.range 3840).flatMap ddtName

/-- The whole table with its CRC (R45, R470). -/
def ddtTable (s : State) (p : Nat) : List Byte :=
  let h := ddtHead s p
  let t := ddtTail s p
  h ++ leBytes 4 (crc32 (h ++ leBytes 4 0 ++ t)) ++ t

/-- Bytes of the Expansion ROM window; those at or beyond TOTAL_LEN read 0. -/
def romBytes (s : State) (p off n : Nat) : List Byte := ((ddtTable s p ++ List.replicate (off + n) 0).drop off).take n

/-! ### Requests to the BARs (R469) -/

/-- Whether every byte a request names is enabled. -/
def allEnabled (t : Tlp) : Bool := t.firstBe = 15 && (if t.lenDw = 1 then t.lastBe = 0 else t.lastBe = 15)

/-- Whether the management function accepts a memory request that hits `bar` (0, 2, or 6 the ROM) at `off`; in D3hot it accepts none (R466). -/
def barAccepts (s : State) (p : Nat) (t : Tlp) (bar off : Nat) : Bool :=
  fieldOf (s.cfgRd (33 * p) 17) 0 2 ≠ 3 &&
    (if bar = 0 then
      (t.kind = .memRd || t.kind = .memWr) && allEnabled t && ((t.lenDw = 1 && off % 4 = 0) || (t.lenDw = 2 && off % 8 = 0))
     else if bar = 2 then t.kind = .memRd && decide (1 ≤ t.lenDw) && decide (t.lenDw ≤ 16) && off % 4 = 0 && decide (off % 4096 + 4 * t.lenDw ≤ 4096)
     else t.kind = .memRd && decide (1 ≤ t.lenDw) && decide (t.lenDw ≤ 64) && off % 4 = 0 && decide (off + 4 * t.lenDw ≤ 2 ^ 18))

/-- Complete a read with data, in completions no longer than the function's Max Payload Size and cut at its multiples. -/
def State.answerRead (s : State) (o : Origin) (t : Tlp) (p : Nat) (data : List Byte) : State :=
  let rid := mgmtRid s p
  let mps := 128 * 2 ^ min 5 (devCtl s (33 * p) / 32 % 8)
  ((cutAt mps (data.length + 1) t.addr data.length).foldl (fun (x : State × Nat) c =>
    (x.1.giveCpl o 120 (cplTlp t.rid t.tag 0 t.tc rid (data.length - x.2) ((t.addr + x.2) % 128) ((data.drop x.2).take c.2)), x.2 + c.2)) (s, 0)).1

/-- A request the function does not accept: Unsupported Request, or discarded and logged in the function's AER (R469). -/
def State.barRefuses (s : State) (p : Nat) (t : Tlp) (o : Origin) : State :=
  if tlpCls t = 1 then s.answerOwn o t (mgmtRid s p) 1 [] else s.aerLog (33 * p) aerUr t

/-- An accepted request acts (R469, R470, R488). -/
def State.barServes (s : State) (path : Path) (p : Nat) (t : Tlp) (o : Origin) (bar off : Nat) : State :=
  if t.kind = .memWr then s.busWrites path off ((List.range t.lenDw).map (fun i => BitVec.ofNat 32 (ofLe ((t.data.drop (4 * i)).take 4))))
  else if bar = 6 then s.answerRead o t p (romBytes s p off (4 * t.lenDw))
  else
    let (ws, s) := s.busReads path (if bar = 0 then off else 0x220000 + off) t.lenDw
    s.answerRead o t p (ws.flatMap (fun w => leBytes 4 w.toNat))

/-- A request to the BARs of partition p's management function is served or refused. -/
def State.barReached (s : State) (path : Path) (p : Nat) (t : Tlp) (o : Origin) : State :=
  match mgmtBar s p t.addr with
  | none => s.barRefuses p t o
  | some (bar, off) => if barAccepts s p t bar off then s.barServes path p t o bar off else s.barRefuses p t o

/-- A request of partition p's hierarchy reaches its management function on a path (R469, R474); it waits behind an earlier access of the path that
waits (R33). -/
def State.barRequest (s : State) (path : Path) (p : Nat) (t : Tlp) (o : Origin) : State :=
  match waitingAt s path with
  | some k => s.hold k (.barRequest path p t o)
  | none => s.barReached path p t o

/-- MGMT_BAR_REQUEST_REFUSED: a request at port `port` that hits a BAR of its partition's management function and that the function does not accept. -/
def execMgmtBarRequestRefused (port : Fin 96) (t : Tlp) (s : State) : Res :=
  let p := s.get (PORT.CFG_PART port)
  .next (match mgmtBar s p t.addr with
    | some (bar, off) => if portOfPart s p port ∧ linkUp s port ∧ s.mode ≠ 7 ∧ ¬ barAccepts s p t bar off then s.barRefuses p t (.port port) else s
    | none => s)

/-! ### The management serial port (R483) -/

/-- Whether the MSP answers frames: the registers are initialised, or the device is PARKED (R502, R509). -/
def mspAlive (s : State) : Bool := decide (6 ≤ s.pwr.up) || s.mode = 7

/-- A frame with a CRC error or an unknown command changes nothing and raises a CE event on source 48; PARKED has no collector. -/
def State.mspError (s : State) : State := if s.mode = 7 then s else s.raiseFault 48 CE 0xFFFF

/-- A frame that is none of the three commands. -/
def State.mspOther (s : State) (frame : List Byte) : State :=
  match frame with
  | c :: _ => if mspAlive s ∧ ¬ (c = 0x02 ∨ c = 0x03 ∨ c = 0x05) then s.mspError else s
  | [] => s

/-- ADDR of a frame, a BAR0 offset. -/
def mspAddr (frame : List Byte) : Nat := ofBe ((frame.drop 1).take 3)

/-- The answer to a frame that wrote. -/
def State.mspWrote (x : Nat × State) : State := x.2.emit (.msp [if x.1 = 0 then 0xA5 else 0x3C])

/-- A frame's write, which waits with its answer as R33 says. -/
def State.mspWrites (s : State) (off : Nat) (val : Word) : State :=
  match (if ignored off then none else waitsAt s .msp off) with
  | some k => s.hold k (.mspWrite off val)
  | none => State.mspWrote (s.tryWrite .msp off val)

/-- The answer to a frame that reads. -/
def State.mspAnswer (s : State) (off : Nat) : State :=
  let (w, s) := s.busRead .msp off
  let d := beBytes 4 w.toNat
  s.emit (.msp ([0xA5] ++ d ++ [BitVec.ofNat 8 (crc8 d)]))

/-- MSP_WRITE: CMD, ADDR, DATA and CRC; a frame cut short changes nothing. -/
def execMspWrite (frame : List Byte) (s : State) : Res :=
  .next (if frame.head? ≠ some 0x02 then s.mspOther frame
    else if ¬ mspAlive s ∨ frame.length < 9 then s
    else if frame[8]? ≠ some (BitVec.ofNat 8 (crc8 (frame.take 8))) then s.mspError.emit (.msp [0x5A])
    else s.mspWrites (mspAddr frame) (BitVec.ofNat 32 (ofBe ((frame.drop 4).take 4))))

/-- MSP_READ: CMD, ADDR, CRC, then the bytes in which the answer comes; the shortest frame has 12 bytes. A read that PARKED does not allow is
refused. -/
def execMspRead (frame : List Byte) (s : State) : Res :=
  .next (if frame.head? ≠ some 0x03 then s.mspOther frame
    else if ¬ mspAlive s ∨ frame.length < 12 then s
    else if frame[4]? ≠ some (BitVec.ofNat 8 (crc8 (frame.take 4))) then s.mspError
    else if ¬ answers s .msp (mspAddr frame) then s.emit (.msp [0x3C])
    else match waitingAt s .msp with
      | some k => s.hold k (.mspRead (mspAddr frame))
      | none => s.mspAnswer (mspAddr frame))

/-- MSP_STATUS: bits [7:0] of `FLT.PINS`. -/
def execMspStatus (frame : List Byte) (s : State) : Res :=
  .next (if frame.head? ≠ some 0x05 then s.mspOther frame
    else if ¬ mspAlive s ∨ frame.length < 2 then s
    else s.emit (.msp [BitVec.ofNat 8 (faultPins s)]))

/-! ### The debug access port (R513) -/

/-- Whether the core domain answers JTAG: initialised and not PARKED (R502, R509). -/
def dapPowered (s : State) : Bool := decide (6 ≤ s.pwr.up) && s.mode ≠ 7

/-- The result of an operation that has ended, held for the next capture. -/
def State.dapResult (s : State) (status n addr data : Nat) : State := { s with dbg := { s.dbg with ir := 0x10, result := (status, n, addr, data) } }

/-- Start an operation unless one runs: then it is not started, and the next capture reports BUSY. -/
def State.dapStart (s : State) (n addr : Nat) (f : State → State) : State := if s.dbg.busy.isSome then s.dapResult 1 n addr 0 else f s

/-- DAP_NOP. -/
def execDapNop (s : State) : Res := .next (s.dapStart 0 0 (fun s => s.dapResult 0 0 0 0))

/-- A read of BAR0 over JTAG ends with its result. -/
def State.dapReads (s : State) (o : Nat) : State :=
  let (w, t) := s.busRead .jtag o
  State.dapResult { t with dbg := { t.dbg with busy := none } } (if occupied o && !canRead s .jtag o then 3 else 0) 0 o w.toNat

/-- DAP_BAR0_READ: it waits behind an earlier access of the path that waits (R33). -/
def execDapBar0Read (off : BitVec 24) (s : State) : Res :=
  let o := off.toNat
  .next (s.dapStart 0 o (fun s =>
    if ¬ dapPowered s then s.dapResult 4 0 o 0
    else match waitingAt s .jtag with
      | some k => { s with dbg := { s.dbg with ir := 0x10, busy := some (1, 0, o) } }.hold k (.dapRead o)
      | none => s.dapReads o))

/-- DAP_BAR0_WRITE. -/
def execDapBar0Write (off : BitVec 24) (val : Word) (s : State) : Res :=
  let o := off.toNat
  .next (s.dapStart 0 o (fun s =>
    if ¬ dapPowered s then s.dapResult 4 0 o val.toNat
    else (s.busWrite .jtag o val).dapResult (if ignored o || writeAllowed s .jtag o then 0 else 3) 0 o val.toNat))

/-- A memory access of the debug port: class 0, but in BARE, where the guard alone decides (R241); the guard's unit 102 with colour 0xFFE, then the egress port with that port's Requester ID (R241, R513). -/
def State.dapMem (s : State) (kind : TlpKind) (n addr : Nat) (data : List Byte) : State :=
  if ¬ dapPowered s then s.dapResult 4 n addr 0
  else if s.mode ≠ 0 ∧ ¬ hasClass s .jtag 0 then s.dapResult 3 n addr 0
  else if 96 ≤ n ∨ 2 ≤ s.get (PORT.CFG_ROLE n) then s.dapResult 5 n addr 0
  else
    let t := memTlp kind addr 4 (portRid s n) 0 false none data
    match s.guardCheck 102 0xFFE (needOf t) (decide (tlpCls t = 1)) (rangeOf t).1 (rangeOf t).2 t.rid with
    | (none, s) => s.dapResult 2 n addr 0
    | (some lock, s) =>
      let (tag, s) := s.pickOwnTag n t.rid
      let s := { s with dbg := { s.dbg with ir := 0x10, busy := some (if kind = TlpKind.memRd then 3 else 4, n, addr) } }
      s.admitTo { enginePkt s { t with tag := tag.getD 0 } n .debug lock with colour := 0xFFE }

/-- DAP_MEM_READ. -/
def execDapMemRead (port : BitVec 7) (addr : BitVec 64) (s : State) : Res :=
  .next (s.dapStart port.toNat addr.toNat (fun s => s.dapMem .memRd port.toNat (addr.toNat / 4 * 4) []))

/-- DAP_MEM_WRITE. -/
def execDapMemWrite (port : BitVec 7) (addr : BitVec 64) (val : Word) (s : State) : Res :=
  .next (s.dapStart port.toNat addr.toNat (fun s => s.dapMem .memWr port.toNat (addr.toNat / 4 * 4) (leBytes 4 val.toNat)))

/-- DAP_COMPLETE: the memory access that runs ends, once it has left the core: OK, GUARD, or PCIE for an error completion or poison. -/
def execDapComplete (status : HostStatus) (data : Word) (s : State) : Res :=
  .next (if s.dbg.busy.isNone ∨ readQueued s .debug then s
    else (s.closeOut .debug).debugEnds (match status with | .ok => 0 | .guard => 2 | .ur | .ca | .poison => 5) data.toNat)

end Sys2Proof.Machine
end

