-- ==== Sys2Proof/Machine/Manage.lean ====
section
/-! DEFINITION. Management messages received (R480 to R482), discovery (R41), DevID assignment (R552), and the requests that wait at a full source
(R33). -/
namespace Sys2Proof.Machine
open Sys2Proof

/-! ### Answers -/

/-- The mode byte, SIDE, DEVID, STEPPING, the neighbours' LL_PEER and the image hash of an MG_IDENTITY body (R480; byte order little-endian). -/
def identityBody (s : State) : List Byte :=
  leBytes 1 s.mode ++ leBytes 1 (s.get TWIN.STATUS_SIDE) ++ leBytes 2 (s.get GLB.DEVID_DEVID + 2 ^ 15 * s.get GLB.DEVID_VALID) ++ leBytes 1 0xB0 ++
    leBytes 3 0 ++ (List.range 4).flatMap (fun b => leBytes 2 (s.rd (FBL.LL_PEER b)).toNat) ++ (activeHash s ++ List.replicate 16 0).take 16

/-- The path an answer takes: PATH′[i] = RETURN[PATH_LEN − 1 − i] (R481). -/
def answerPath (h : MgHdr) : Nat := (List.range h.pathLen).foldl (fun v i => setHop v i (hopAt h.ret (h.pathLen - 1 - i))) 0

/-- Answer a consumed message that came on bundle `b`: by its return path, on the bundle of arrival for a one-hop message, else routed to its sender
(R481). A refused answer is journaled (R482). -/
def State.mgReply (s : State) (b : Nat) (p : Tfp) (h : MgHdr) (kind status count : Nat) (body : List Byte) : State :=
  let a : MgHdr := { msgId := h.msgId, pathLen := h.pathLen, pathPos := if h.pathLen = 0 then 0 else 1, path := answerPath h, status := status, count := count }
  let q : Tfp := ⟨{ kind := kind, tc := p.hdr.tc, dstDev := p.hdr.srcDev, srcDev := ownDev s, dstPort := p.hdr.srcPort, srcPort := 120, colour := 0xFFF,
                    gen := genField (stamp s false false false true true) }, .msg (mgHdrBytes a ++ body)⟩
  let s := if status = 0 then s
    else s.post Src.mgmt { type := .mgmtMsg, inst := 112 + b, aux := ownDev s, payload := [status, count, kind, h.msgId] }
  if h.pathLen = 0 ∧ p.hdr.dstDev = 0x7FF then (if bundleUsable s b then s.mgSend b q 120 else s.addSat BRG.DROP_NO_ROUTE 1)
  else s.mgOriginate q (mgHdrBytes a ++ body)

/-- MG_RESULT: STATUS and the DW done minus 1 (R480, R482). -/
def State.mgResult (s : State) (b : Nat) (p : Tfp) (h : MgHdr) (status done : Nat) : State :=
  s.mgReply b p h 0x47 status (done - 1) (List.replicate 16 0)

/-! ### What a consumed message does (R482) -/

/-- A discovery: a MANAGER that hears another one reports the conflict and answers nothing (R41). -/
def State.mgDiscover (s : State) (b : Nat) (p : Tfp) (h : MgHdr) (body : List Byte) : State :=
  if s.mode = 4 ∧ ofLe (body.take 1) = 4 then
    ({ s with mdma := { s.mdma with conflicts := if s.mdma.conflicts.contains b then s.mdma.conflicts else s.mdma.conflicts ++ [b] } }).raiseFault 47 UC 0xFFFF
  else s.mgReply b p h 0x41 0 0 (identityBody s)

/-- The refusal of a DevID assignment, or 0. -/
def assignRefusal (s : State) (b d : Nat) : Nat :=
  if ¬ hasClass s (.bundle (Fin.ofNat 4 b)) 1 then 0x09
  else if ¬ (s.mode = 3 ∨ s.mode = 5) ∨ (s.flag GLB.DEVID_VALID ∧ s.get GLB.DEVID_DEVID ≠ d) then 0x16
  else if d = 0 ∨ d = 0x7FF then 0x02
  else 0

/-- A DevID assignment (R42, R482, R552): it passes the ledger as a mode-class event, and the DDT is rewritten (R473). -/
def State.mgAssign (s : State) (b : Nat) (p : Tfp) (h : MgHdr) (body : List Byte) : State :=
  let d := ofLe (body.take 2) % 2048
  let r := assignRefusal s b d
  if r ≠ 0 then s.mgResult b p h r 0
  else
    let s := (s.set GLB.DEVID_DEVID d).set GLB.DEVID_VALID 1
    let s := (s.post Src.glb { type := .modeChange, aux := s.mode, payload := [(s.rd GLB.MODE).toNat, (s.rd GLB.DEVID).toNat] }).bumpDdt
    s.mgResult b p h 0 0

/-- Read words in the privileged view, whatever the classes of the bundle (R482). -/
def State.privReads (s : State) (path : Path) (off : Nat) : Nat → List Word × State
  | 0 => ([], s)
  | n + 1 =>
    let (w, s) := if occupied off then s.readWord path off else (0, s)
    let (ws, s) := s.privReads path (off + 4) n
    (w :: ws, s)

/-- A read by message. -/
def State.mgRead (s : State) (b : Nat) (p : Tfp) (h : MgHdr) (body : List Byte) : State :=
  let path : Path := .bundle (Fin.ofNat 4 b)
  if ¬ hasClass s path 1 then s.mgResult b p h 0x09 0
  else
    let (ws, s) := s.privReads path (ofLe (body.take 4)) (h.count + 1)
    s.mgReply b p h 0x45 0 h.count (body.take 4 ++ ws.flatMap (fun w => leBytes 4 w.toNat))

/-- Write words in rising order until the first refusal: its reason and the words done. -/
def State.mgWords (s : State) (path : Path) (off done : Nat) : List Word → Nat × Nat × State
  | [] => (0, done, s)
  | w :: ws =>
    let (r, s) := s.tryWrite path off w
    if r = 0 then s.mgWords path (off + 4) (done + 1) ws else (r, done, s)

/-- A write by message. -/
def State.mgWrite (s : State) (b : Nat) (p : Tfp) (h : MgHdr) (body : List Byte) : State :=
  let path : Path := .bundle (Fin.ofNat 4 b)
  if ¬ hasClass s path 1 then s.mgResult b p h 0x09 0
  else
    let (r, done, s) := s.mgWords path (ofLe (body.take 4)) 0
      ((List.range (h.count + 1)).map (fun i => BitVec.ofNat 32 (ofLe ((body.drop (4 + 4 * i)).take 4))))
    s.mgResult b p h r done

/-- A message is consumed: it leaves the ingress buffer, passes the ledger as a received management message (R437, R482) and acts by its kind. -/
def State.mgConsume (s : State) (b : Nat) (p : Tfp) : State :=
  let s := s.takeRx b p
  match p.body with
  | .msg c =>
    let h0 := mgHdrOf c
    let h := if h0.pathLen = 0 then h0 else { h0 with ret := setHop h0.ret (h0.pathPos - 1) b }
    let body := c.drop 16
    let w := fun (i : Nat) => ofBe ((c.drop (4 * i)).take 4)
    let s := s.post Src.mgmt { type := .mgmtMsg, inst := 112 + b, aux := p.hdr.srcDev, payload := [w 0, w 1, w 2, w 3] }
    if p.hdr.kind = 0x40 then s.mgDiscover b p h body
    else if p.hdr.kind = 0x42 then s.mgAssign b p h body
    else if p.hdr.kind = 0x44 then s.mgRead b p h body
    else if p.hdr.kind = 0x46 then s.mgWrite b p h body
    else s.mgAnswer p c
  | _ => s.reservedKind b

/-! ### Arrival (R481) -/

/-- Whether a message by DevID is for this device: its own DevID while valid (R552), or the one it has taken over (R40, R409). -/
def mgtHere (s : State) (d : Nat) : Bool := (s.flag GLB.DEVID_VALID && d ≠ 0x7FF && d = ownDev s) || aliased s d

/-- The conflict on a bundle is over: the other manager is in another mode (R41). -/
def State.conflictEnds (s : State) (b : Nat) : State := { s with mdma := { s.mdma with conflicts := s.mdma.conflicts.filter (· ≠ b) } }

/-- Whether a message tells that its sender, once the other manager, is in another mode now: a discovery with another mode byte (R41, R480). -/
def concedes (p : Tfp) : Bool :=
  match p.body with
  | .msg c => p.hdr.kind = 0x40 && ofLe ((c.drop 16).take 1) ≠ 4
  | _ => false

/-- A message for this device: it waits in its ingress buffer while its source is full (R33). -/
def State.mgTake (s : State) (b : Nat) (p : Tfp) : State :=
  let q := s.srcQ Src.mgmt
  if q.full ∨ q.waiting ≠ [] then s.hold Src.mgmt (.msg (Fin.ofNat 4 b) p) else s.mgConsume b p

/-- A source-routed message that has further hops goes on, or ends without a route. -/
def State.mgForward (s : State) (b : Nat) (p : Tfp) (c : List Byte) : State :=
  let s := s.takeRx b p
  let h := mgHdrOf c
  let e := hopAt h.path h.pathPos
  if h.pathPos = 0 ∨ h.pathLen < h.pathPos ∨ e = b ∨ ¬ bundleUsable s e ∨ s.mdma.conflicts.contains e then s.endNoRoute (arrived s b p) (96 + b)
  else if 15 ≤ p.hdr.hops then ((s.addSat BRG.DROP_HOP_LIMIT 1).endPkt (arrived s b p) .hopLimit (96 + b)).dropEvent
  else
    let m := mgHdrBytes { h with pathPos := h.pathPos + 1, ret := setHop h.ret (h.pathPos - 1) b } ++ c.drop 16
    s.mgSend e ⟨{ (recolour s b p).hdr with hops := p.hdr.hops + 1 }, .msg m⟩ (112 + b)

/-- A management message arrives on bundle `b`: discarded at a shed bundle (R426), outside the modes with a fabric, and from a manager in conflict (R41);
else consumed here, forwarded on its path, or routed (R481). -/
def State.mgArrives (s : State) (b : Nat) (p : Tfp) : State :=
  let s := if concedes p then s.conflictEnds b else s
  match p.body with
  | .msg c =>
    let h := mgHdrOf c
    if s.flag (BRG.BUNDLE_DRAIN_STATUS_SHED b) then (s.takeRx b p).count (96 + b) 15 1
    else if s.mode < 3 ∨ s.mode = 7 ∨ s.mdma.conflicts.contains b then s.takeRx b p
    else if h.pathLen ≠ 0 then (if h.pathPos = h.pathLen then s.mgTake b p else s.mgForward b p c)
    else if p.hdr.dstDev = 0x7FF ∨ mgtHere s p.hdr.dstDev then s.mgTake b p
    else (s.takeRx b p).transit b p
  | _ => (s.takeRx b p).reservedKind b

/-- A row for messages of one kind: another management kind has its own row; what is none is of a reserved kind. -/
def State.mgReceive (s : State) (b : Nat) (p : Tfp) (kind : Nat) : State :=
  if p.hdr.kind = kind then s.mgArrives b p
  else if 0x40 ≤ p.hdr.kind ∧ p.hdr.kind ≤ 0x47 ∧ p.hdr.kind ≠ 0x43 then s
  else (s.takeRx b p).reservedKind b

/-- MG_DISCOVER_RECEIVE. -/
def execMgDiscoverReceive (b : Fin 4) (p : Tfp) (s : State) : Res := .next (s.mgReceive b p 0x40)

/-- MG_IDENTITY_RECEIVE. -/
def execMgIdentityReceive (b : Fin 4) (p : Tfp) (s : State) : Res := .next (s.mgReceive b p 0x41)

/-- MG_ASSIGN_RECEIVE. -/
def execMgAssignReceive (b : Fin 4) (p : Tfp) (s : State) : Res := .next (s.mgReceive b p 0x42)

/-- MG_READ_RECEIVE. -/
def execMgReadReceive (b : Fin 4) (p : Tfp) (s : State) : Res := .next (s.mgReceive b p 0x44)

/-- MG_READ_DATA_RECEIVE. -/
def execMgReadDataReceive (b : Fin 4) (p : Tfp) (s : State) : Res := .next (s.mgReceive b p 0x45)

/-- MG_WRITE_RECEIVE. -/
def execMgWriteReceive (b : Fin 4) (p : Tfp) (s : State) : Res := .next (s.mgReceive b p 0x46)

/-- MG_RESULT_RECEIVE. -/
def execMgResultReceive (b : Fin 4) (p : Tfp) (s : State) : Res := .next (s.mgReceive b p 0x47)

/-! ### Requests that waited (R33) -/

/-- A held request is carried out. -/
def State.carryOut (s : State) : Held → State
  | .regWrite path off val => s.writeNow path off val
  | .regRead path off =>
    let (w, s) := s.busRead path off
    s.emit (.readData path off w)
  | .mspWrite off val => State.mspWrote (s.tryBy .msp off (fun s => s.writeNow .msp off val))
  | .mspRead off => s.mspAnswer off
  | .dapRead off => s.dapReads off
  | .barRequest path p t o => s.barReached path p t o
  | .msg b p => s.mgConsume b p

/-- SOURCE_WAIT_RELEASE: a place has freed at source `src`, and the oldest request held there is carried out. -/
def execSourceWaitRelease (src : Nat) (s : State) : Res :=
  let q := s.srcQ src
  .next (match q.waiting with
    | h :: rest => if q.full then s else (s.setSrcQ src { q with waiting := rest }).carryOut h
    | [] => s)

end Sys2Proof.Machine
end

