-- ==== Sys2Proof/Machine/Check.lean ====
section
/-! DEFINITION. The checker finishes a request (R77 to R81): a commit, a partner's commit (R380), or a write that sets an enable bit (R140, R164,
R170); then the register interface goes on (R79). -/
namespace Sys2Proof.Machine
open Sys2Proof

/-! ### Enable bits -/

/-- What refuses a checked write of `PORT[n].CTRL` (R120, R143, R150, R77). -/
def portCheck (s : State) (n : Nat) (val : Word) : Option Fail :=
  if setsEnable s n val then firstSome [portEnableTests s n, shareTest s n, checkState s (liveRd s)] else checkState s (liveRd s)

/-- A write of `PORT[n].CTRL` has reached the head of the checker's queue (R140). -/
def State.servePort (s : State) (n : Nat) (val : Word) : State :=
  match ctrlRefusal s n val with
  | some (code, ty) => s.ctrlRefused n ⟨code, PORT.CTRL n⟩ ty
  | none =>
    if ctrlChecked s n val then
      (match portCheck s n val with
       | some f => s.ctrlRefused n f .enableResult
       | none => (s.applyPortCtrl n val).enableResult (Src.port n) n (PORT.STATUS n) none)
    else s.applyPortCtrl n val

/-- What refuses an enable bit outside the ports (R77, R554): a rule of its own, which names the register `off`, else the rules over the whole state. -/
def enableCheck (s : State) (off own : Nat) : Option Fail :=
  if own ≠ 0 then some ⟨own, offReg off⟩ else checkState s (liveRd s)

/-- A write of another control register has reached the head of the queue: `sets` when it sets the enable bit, which `own` may refuse and `on` carries
out (R77); any other write is carried out by `plain`. -/
def State.serveBit (s : State) (off src inst : Nat) (r : RF) (sets : Bool) (own : Nat) (on plain : State → State) : State :=
  if sets then s.enableServed src inst r (enableCheck s off own) on else plain s

/-- A write of the queue is served, by the register it names. -/
def State.serveEnable (s : State) (e : EnableReq) : State :=
  let v := e.val
  let sets := fun (f : RF) => bitOf v.toNat f.lo && !s.flag f
  if e.off = CORE.CTRL then
    s.serveBit e.off Src.core 0xFFFF CORE.STATUS_REASON (sets CORE.CTRL_MC_EN) (mcEnRefusal s) (fun s => s.plainWrite CORE.CTRL v)
      (fun s => (s.plainWrite CORE.CTRL v).set CORE.STATUS_REASON 0)
  else if 0x80000 ≤ e.off ∧ e.off < 0xE0000 then
    (if e.off % 0x1000 = 8 then s.servePort ((e.off - 0x80000) / 0x1000) v
     else s.portStored ((e.off - 0x80000) / 0x1000) (fun s => s.storeAt e.off v))
  else if 0x100000 ≤ e.off ∧ e.off < 0x110000 then
    let b := (e.off - 0x100000) / 0x4000
    s.serveBit e.off (Src.bundle b) (112 + b) (FBL.PHY_STATUS_REASON b) (sets (FBL.PHY_CTRL_ENABLE b)) (phyRefusal s b)
      (fun s => s.applyPhyCtrl b v) (fun s => s.applyPhyCtrl b v)
  else match inArray e.off (CORE.MIRROR_CTRL 0) 0x40 4 8, inArray e.off (MDMA.ENG_CTRL 0) 0x40 4 8, inArray e.off (RMA.RING_CTRL 0) 0x40 4 64,
      inArray e.off (TIME.ALARM_CTRL 0) 0x20 4 16 with
    | some m, _, _, _ =>
      s.serveBit e.off Src.core m (CORE.MIRROR_STATUS_REASON m) (sets (CORE.MIRROR_CTRL_ENABLE m)) (mirrorRefusal s m v)
        (fun s => s.mirrorEnabled m v) (fun s => s.mirrorWritten m v)
    | none, some g, _, _ =>
      s.serveBit e.off Src.mdma g (MDMA.ENG_STATUS_REASON g) (sets (MDMA.ENG_CTRL_ENABLE g)) (mdmaRefusal s g v)
        (fun s => s.applyMdmaCtrl g v) (fun s => s.mdmaWritten g v)
    | none, none, some r, _ =>
      s.serveBit e.off Src.rmaCmd r (RMA.RING_STATUS_REASON r) (sets (RMA.RING_CTRL_ENABLE r)) (ringRefusal s r v)
        (fun s => s.applyRingCtrl r v) (fun s => s.ringWritten r v)
    | none, none, none, some n =>
      s.serveBit e.off Src.time n (TIME.ALARM_STATUS_REASON n) (sets (TIME.ALARM_CTRL_ENABLE n)) (alarmRefusal s n)
        (fun s => s.applyAlarmCtrl n v) (fun s => s.applyAlarmCtrl n v)
    | none, none, none, none => s.actWrite e.path e.off v

/-! ### Commits -/

/-- The first failure of a commit of the snapshot, in the order of R78. -/
def commitCheck (s : State) (snap : SMap Word) (atEpoch : Bool) (epoch : Nat) : Option Fail :=
  firstSome [genBusy s snap, checkState s (appliedRd s snap), if atEpoch then epochTests s epoch (usFt 50) else none]

/-- The commit of a GO has been checked (R79 to R82): refused, CHECKED, STAGED, or applied at once; a pair commit waits for the partner (R380). -/
def State.serveCommit (s : State) (snap : SMap Word) (atEpoch strict only : Bool) (epoch : Nat) : State :=
  match commitCheck s snap atEpoch epoch with
  | some f =>
    let s := match s.twin.sent with
      | some (id, _) => s.pairDone.pairAnswer id 0x11 0
      | none => s
    s.commitResult (snap.map Prod.fst) 4 f.reason f.offender epoch atEpoch
  | none =>
    if s.twin.sent.isSome then ({ s with twin := { s.twin with waiting := some (snap, strict, only, epoch) } }).pairSettle
    else if only then s.commitResult (snap.map Prod.fst) 6 0 0 epoch atEpoch
    else if atEpoch then ({ s with img := { s.img with commit := some ⟨snap, strict, epoch, false⟩ } }).commitResult (snap.map Prod.fst) 2 0 0 epoch true
    else s.applyCommit ⟨snap, strict, epoch, false⟩ false

/-- The partner's commit has been checked here (R380): this side answers, and waits for the word that stages it. -/
def State.servePartner (s : State) (id epoch : Nat) (snap : SMap Word) : State :=
  match commitCheck s snap true epoch with
  | some f => (s.pairAnswer id f.reason f.offender).commitResult (snap.map Prod.fst) 4 f.reason f.offender epoch true
  | none => (({ s with twin := { s.twin with rcvd := some (id, epoch, snap) } }).pairAnswer id 0 0).postResult 1 0 0 0 epoch true

/-! ### The row -/

/-- The register interface accepts the writes that stood while 32 enable writes waited, as far as the queue has room again (R79). -/
def State.unstall (s : State) : State :=
  if s.img.stalled = [] ∨ 33 ≤ s.img.checks.length then s
  else
    let l := s.img.stalled
    l.foldl (fun (s : State) (e : EnableReq) => s.busWrite e.path e.off e.val) { s with img := { s.img with stalled := [] } }

/-- Whether a result must wait: that of a commit while the commit unit's source can take no event (R33). -/
def resultWaits (s : State) : CheckReq → Bool
  | .enable _ => false
  | .commit _ _ _ _ _ | .partner _ _ _ => (s.srcQ Src.commit).full

/-- CHECKER_RESULT: the request the checker serves is done. -/
def execCheckerResult (s : State) : Res :=
  .next (match s.img.checks with
    | [] => s
    | c :: rest => if resultWaits s c then s else
      let s := { s with img := { s.img with checks := rest } }
      (match c with
       | .enable e => s.serveEnable e
       | .commit snap atEpoch strict only epoch => s.serveCommit snap atEpoch strict only epoch
       | .partner id epoch snap => s.servePartner id epoch snap).unstall)

end Sys2Proof.Machine
end

