-- ==== Sys2Proof/Machine/SwitchCore.lean ====
section
/-! DEFINITION. The crossbar and the transmit stage (R153 to R157, R187 to R192): which packet a VOQ offers, which one the crossbar grants, and what
the transmit stage sends on a link. -/
namespace Sys2Proof.Machine
open Sys2Proof

/-- Whether the core forwards packets: after the loader's step 7, and not PARKED (R175). -/
def coreForwards (s : State) : Bool := s.pwr.up = 8 && s.mode ≠ 7

/-- The SCHED index of an egress PortID (R205). -/
def egressIdx (n : Nat) : Nat := if n < 96 then n else if 112 ≤ n ∧ n ≤ 115 then 96 + (n - 112) else 100

/-! ### What a VOQ offers (R153, R154, R237) -/

/-- Whether a packet waits in the VOQ of another. -/
def sameVoq (s : State) (p q : Pkt) : Bool :=
  (q.place = .voq || q.place = .tagWait) && inXbar s q = inXbar s p && q.dest = p.dest && q.tc = p.tc

/-- Whether a packet of a VOQ holds what it needs and may pass every older packet there. -/
def voqFree (s : State) (p : Pkt) : Bool :=
  p.place = .voq && p.need.isNone && (ahead s p).all (fun q => !sameVoq s p q || mayPass p q)

/-- Whether a packet is the one its VOQ offers: the oldest that may pass every older one. -/
def voqOffers (s : State) (p : Pkt) : Bool := voqFree s p && (ahead s p).all (fun q => !sameVoq s p q || !voqFree s q)

/-- Whether a packet is the first of its management queue (R154). -/
def mgmtFirst (s : State) (p : Pkt) : Bool :=
  p.place = .mgmtq && (ahead s p).all (fun q => q.place ≠ .mgmtq || inXbar s q ≠ inXbar s p || q.dest ≠ p.dest)

/-- Whether a running strict sweep keeps the crossbar from granting a packet (R237). -/
def sweptNow (s : State) (p : Pkt) : Bool :=
  match s.guard.sweep with
  | some (_, g) => sweeps g p
  | none => false

/-! ### Egress buffers and gates (R157, R188) -/

/-- The share of an egress port in its egress buffer (R157). -/
def egressShare (s : State) (n : Nat) : Nat :=
  if n < 96 then
    let k := s.get (PORT.CFG_OCTET n)
    max 256 (2048 * octetSpan s k / (octetPorts s k).length)
  else 4096

/-- The cells an egress port's share holds. -/
def egressUsed (s : State) (n : Nat) : Nat :=
  (s.core.pkts.filter (fun q => q.place = .egress ∧ q.egress = n)).foldl (fun a q => a + q.cells) 0

/-- Whether a packet's whole length fits in its egress share; crossbar port 40 takes what comes. -/
def egressFits (s : State) (p : Pkt) : Bool := p.dest = 40 || decide (egressUsed s p.egress + p.cells ≤ egressShare s p.egress)

/-- The class queue of a packet at egress: none for a management packet (R177). -/
def egressClass (p : Pkt) : Option Nat := if p.kind = 3 then none else some p.tc

/-- Whether the gate lets the crossbar grant class `t` toward an egress port (R188): open now, or no cell of it waits there and some entry opens it. -/
def gateGrants (s : State) (n t : Nat) : Bool :=
  gateOpen s (egressIdx n) t ||
    (everOpen s (egressIdx n) t && !s.core.pkts.any (fun q => q.place = .egress && q.egress = n && egressClass q = some t))

/-! ### The crossbar's choice (R156, R187) -/

/-- Whether the crossbar can take a management packet now. -/
def mgmtReady (s : State) (p : Pkt) : Bool := mgmtFirst s p && egressFits s p && !sweptNow s p

/-- Whether the crossbar can take a packet of a VOQ now: its ingress has no management packet to serve first. -/
def voqReady (s : State) (p : Pkt) : Bool :=
  voqOffers s p && egressFits s p && gateGrants s p.egress p.tc && !sweptNow s p &&
    !s.core.pkts.any (fun q => mgmtReady s q && inXbar s q = inXbar s p)

/-- The packet next in turn among some, by the input whose turn it is (R156); key 9·index + class, 8 for management packets. -/
def nextInput (s : State) (key : Nat) (ps : List Pkt) : Option Pkt :=
  let next := SMap.get (fun _ => 0) s.sched.xIn key
  minBy (fun p => (inXbar s p + 42 - next % 42) % 42) ps

/-- The packet of class `t` the crossbar would take toward egress port `n`. -/
def classOffer (s : State) (n t : Nat) : Option Pkt :=
  nextInput s (9 * egressIdx n + t) (s.core.pkts.filter (fun p => p.egress = n && p.tc = t && voqReady s p))

/-- The management packet it would take toward `n`. -/
def mgmtOffer (s : State) (n : Nat) : Option Pkt :=
  nextInput s (9 * egressIdx n + 8) (s.core.pkts.filter (fun p => p.egress = n && mgmtReady s p))

/-- The length a packet is charged at egress `n` (R179). -/
def chargedAt (s : State) (n : Nat) (p : Pkt) : Nat := pktLen p + overheadOf s n

/-- The egress port whose turn it is behind crossbar port `d`, among those with an eligible packet. -/
def portTurn (s : State) (d : Nat) : Option Nat :=
  let next := SMap.get (fun _ => 0) s.sched.xPort d
  (minBy (fun p => (p.egress + 128 - next % 128) % 128)
    (s.core.pkts.filter (fun p => p.dest = d && (mgmtReady s p || voqReady s p)))).map Pkt.egress

/-- The crossbar's next packet toward egress port `n`, with the deficits and the turn after it: management packets first, then the class the port's
arbiter chooses. -/
def crossbarPick (s : State) (n : Nat) : Option (Pkt × SMap Nat × Nat) :=
  let i := egressIdx n
  let d := SMap.get (fun _ => []) s.sched.xDef i
  let turn := SMap.get (fun _ => 0) s.sched.xTurn i
  let ready := fun (t : Nat) => (classOffer s n t).map (chargedAt s n)
  match mgmtOffer s n with
  | some p => some (p, dropIdle ready d, turn)
  | none =>
    match chooseClass s i d turn ready with
    | some (t, d, turn) => (classOffer s n t).map (fun p => (p, d, turn))
    | none => none

/-- The round robins go on after a grant: past the input for that class, and past the port. -/
def State.advanceTurns (s : State) (p : Pkt) (d : SMap Nat) (turn : Nat) : State :=
  let i := egressIdx p.egress
  let key := 9 * i + (if p.place = .mgmtq then 8 else p.tc)
  { s with sched := { s.sched with
      xDef := SMap.set (fun _ => []) s.sched.xDef i d, xTurn := SMap.set (fun _ => 0) s.sched.xTurn i turn,
      xIn := SMap.set (fun _ => 0) s.sched.xIn key (inXbar s p + 1), xPort := SMap.set (fun _ => 0) s.sched.xPort p.dest (p.egress + 1) } }

/-- The path on which a request reaches a management function (R474): its ingress PortID. -/
def arrivalPath (p : Pkt) : Path :=
  if 112 ≤ p.ingress ∧ p.ingress ≤ 115 then .bundle (Fin.ofNat 4 (p.ingress - 112)) else .pcie (Fin.ofNat 96 p.ingress) (Fin.ofNat 32 p.part)

/-- A granted packet crosses: into its egress buffer, or to crossbar port 40, where a request reaches the management function. -/
def State.cross (s : State) (p : Pkt) : State :=
  if p.dest = 40 then
    (match p.body with
     | .tlp t => (s.dropPkt p.id).barRequest (arrivalPath p) p.part t p.origin
     | .tfp _ _ _ => s.dropPkt p.id)
  else s.movePkt p .egress

/-- CROSSBAR_GRANT: packet `pkt` crosses when it is the one whose turn it is. -/
def execCrossbarGrant (pkt : Nat) (s : State) : Res :=
  .next (match s.pkt? pkt with
    | none => s
    | some p =>
      if ¬ coreForwards s ∨ portTurn s p.dest ≠ some p.egress then s
      else match crossbarPick s p.egress with
        | some (q, d, turn) => if q.id = p.id then ((s.advanceTurns p d turn).cross p).retryWaiting else s
        | none => s)

/-! ### The transmit stage (R187, R189, R192) -/

/-- The head of a class queue of egress `n`, or of its management packets. -/
def egressHead (s : State) (n : Nat) (c : Option Nat) : Option Pkt :=
  s.core.pkts.find? (fun p => p.place = .egress && p.egress = n && egressClass p = c)

/-- The egress rate in bytes/s, where the limiter acts: not 0 and not above the line rate (R189). -/
def egressRate (s : State) (i : Nat) : Option Nat :=
  let r := 1000 * s.get (SCHED.PORT_EGRESS_RATE_V i)
  if r = 0 ∨ lineRate s i < (r : Rat) then none else some r

/-- Whether the egress rate allows a packet now. -/
def rateAllows (s : State) (i : Nat) : Bool :=
  match egressRate s i with
  | some _ => decide (SMap.get (fun _ => 0) s.sched.limit i ≤ (s.time.ft : Rat))
  | none => true

/-- Charge the egress limiter for `l` bytes, with the arithmetic of R184. -/
def State.chargeEgress (s : State) (i l : Nat) : State :=
  match egressRate s i with
  | some r =>
    let e := max (SMap.get (fun _ => 0) s.sched.limit i) ((s.time.ft : Rat) - ((s.get (SCHED.PORT_EGRESS_BURST_V i) * 2 ^ 32 : Nat) : Rat) / r) +
      ((l * 2 ^ 32 : Nat) : Rat) / r
    { s with sched := { s.sched with limit := SMap.set (fun _ => 0) s.sched.limit i e } }
  | none => s

/-- Whether the link of SCHED index `i` takes a packet: a PCIe link that is up, but for a downstream one in SHADOW (R130); a bundle whose channel is not
paused and whose store has room (R189, R286, R292). Credits of the PCIe partner are the sender's of the command (log entry 53). -/
def linkAccepts (s : State) (i : Nat) (p : Pkt) : Bool :=
  if i < 96 then linkUp s i && !(s.mode = 5 && s.get (PORT.CFG_ROLE i) = 0)
  else
    let st := llState s (i - 96)
    (st = 2 || st = 3 || st = 4) && (match p.body with
      | .tfp q c np => linkTakes s (i - 96) q c np
      | .tlp _ => false)

/-- The charged length of class `t`'s head at SCHED index `i` when it is eligible (R189). -/
def classHead (s : State) (i t : Nat) : Option Nat :=
  match egressHead s (egressId i) (some t) with
  | some p =>
    let l := chargedAt s (egressId i) p
    if mayStart s i t l ∧ rateAllows s i ∧ linkAccepts s i p then some l else none
  | none => none

/-- The packet the transmit stage starts next, with the deficits and the turn after it. -/
def transmitPick (s : State) (i : Nat) : Option (Pkt × SMap Nat × Nat) :=
  let d := SMap.get (fun _ => []) s.sched.tDef i
  let turn := SMap.get (fun _ => 0) s.sched.tTurn i
  match (egressHead s (egressId i) none).bind (fun p => if linkAccepts s i p then some p else none) with
  | some p => some (p, dropIdle (classHead s i) d, turn)
  | none =>
    match chooseClass s i d turn (classHead s i) with
    | some (t, d, turn) => (egressHead s (egressId i) (some t)).map (fun p => (p, d, turn))
    | none => none

/-- Count a packet sent on a page (R490). -/
def State.countSent (s : State) (page : Nat) (p : Pkt) (cls : Nat) : State :=
  let s := (s.count page 2 1).count page 3 (pktLen p)
  let s := if cls < 3 then s.count page (7 + cls) 1 else s
  s.count page (40 + p.tc) 1

/-- The record the switch keeps of a non-posted request sent through a port (R18, R138). -/
def sentRecord (s : State) (n : Nat) (p : Pkt) (t : Tlp) : NpRec :=
  { port := n, rid := t.rid, tag := t.tag, serial := serialOf s n, origin := p.origin, kind := t.kind,
    addr := if t.kind = .cfgRd ∨ t.kind = .cfgWr then 4 * t.dword else t.addr, tc := t.tc, ingress := p.ingress }

/-- What follows when a packet's last byte has left a port: the acknowledgement of an ACKED write (R320), a placement or local write done (R348), a debug
write done (R513), a tag entry freed with its last answer (R324). -/
def State.hasLeft (s : State) (cls : Nat) (o : Origin) : State :=
  match cls, o with
  | 0, .bridged h true _ _ => s.sendTfp (answerTfp s 0x05 h { status := 0 } [] false) 120 .none_
  | 0, .rmaServe v => s.serveEnded v 0
  | 0, .rmaWrite (some w) => (s.localWriteEnded w).rmaPump
  | 0, .debug => s.debugEnds 0 0
  | 2, .tagged x => (s.freeTag x).retryWaiting
  | _, _ => s

/-- What ends a TLP at its egress: an insertion serial that has changed for posted traffic (R18), a payload above the port's Max Payload Size
(R125), a 14-bit tag on a link that is not in Flit Mode (R123; how it ends is the model's, log entry 112). -/
def egressEnd (s : State) (p : Pkt) : Option EndPath :=
  match p.body with
  | .tlp t =>
    if tlpCls t = 0 ∧ p.serial ≠ serialOf s p.egress then some .serial
    else if (s.paux p.egress).mps < t.data.length then some .egressMps
    else if 1024 ≤ t.tag ∧ ¬ s.flag (PORT.STATUS_FLIT p.egress) then some .tagWidth
    else none
  | .tfp _ _ _ => none

/-- A TLP leaves port `n`. -/
def State.sendOut (s : State) (n : Nat) (p : Pkt) (t : Tlp) : State :=
  let cls := tlpCls t
  let s := (((s.dropPkt p.id).emit (.tlp n t)).countSent n p cls)
  let s := if cls = 1 then { s with core := { s.core with out := s.core.out ++ [sentRecord s n p t] } } else s
  s.hasLeft cls p.origin

/-- A packet starts on the link of SCHED index `i`; management packets are not charged. -/
def State.start (s : State) (i : Nat) (p : Pkt) : State :=
  let s := if p.kind = 3 then s else s.chargeEgress i (chargedAt s (egressId i) p)
  match p.body with
  | .tlp t => s.sendOut (egressId i) p t
  | .tfp q c np => ((s.dropPkt p.id).linkSend (i - 96) q c np p.gens).countSent i p p.kind

/-- A packet that the transmit stage of SCHED index `i` is cutting through ends on the link as a nullified TLP (R159), which counter 32 counts: it stays in the
egress buffer, to be sent in full; or, when its LCRC failed, it is gone, and its replayed copy is a new arrival. -/
def State.nullify (s : State) (i : Nat) (p : Pkt) (t : Tlp) (again : Bool) : State :=
  let s := ((s.chargeEgress i (chargedAt s i p)).emit (.nullified i t)).count i 32 1
  if again then s.setPkt { p with cut := false }
  else match p.origin with
    | .tagged x => ((s.dropPkt p.id).freeTag x).retryWaiting
    | _ => s.dropPkt p.id

/-- The transmit stage serves packet `p`: a cut-through packet whose cells stop arriving is nullified, and so is one from a non-Flit port that fails its
LCRC (R158, R159); any other is sent. -/
def State.transmit (s : State) (i : Nat) (p : Pkt) (a : Arrival) : State :=
  match p.body, a with
  | .tlp t, .stopped => if p.cut then s.nullify i p t true else s.start i p
  | .tlp t, .lcrc => if p.cut ∧ ¬ s.flag (PORT.STATUS_FLIT p.ingress) then s.nullify i p t false else s.start i p
  | _, _ => s.start i p

/-- EGRESS_TRANSMIT: the transmit stage of a SCHED index starts the packet its arbiter chooses, or ends it there. -/
def execEgressTransmit (k : TransmitTurn) (s : State) : Res :=
  .next (if ¬ coreForwards s then s
    else match transmitPick s k.index with
      | some (p, d, turn) =>
        let s := { s with sched := { s.sched with tDef := SMap.set (fun _ => []) s.sched.tDef k.index d, tTurn := SMap.set (fun _ => 0) s.sched.tTurn k.index turn } }
        (match egressEnd s p with
         | some path => s.endPkt p path p.egress
         | none => s.transmit k.index p k.arrival)
      | none => s)

/-! ### STRICT_SWEEP_END (R237 to R239) -/

/-- The drains whose deadline falls in this cycle meet it: a packet that a deadline and a sweep reach in the same cycle ends by the deadline (R239). -/
def State.deadlinesFirst (s : State) : State :=
  let s := (List.range 96).foldl (fun (s : State) n => if s.get (PORT.STATUS_DRAIN_STATE n) = 1 ∧ s.due (s.paux n).drainDl then s.drainExpires n else s) s
  (List.range 4).foldl (fun (s : State) b =>
    if s.get (BRG.BUNDLE_DRAIN_STATUS_STATE b) = 1 ∧ s.due (SMap.get (fun _ => none) s.brg.drainDl b) then s.bundleDrainExpires b else s) s

/-- STRICT_SWEEP_END: the requests the sweep covers end, STRICT_STATS counts them, STRICT_BUSY clears and the end is journaled (R237,
R238). -/
def execStrictSweepEnd (s : State) : Res :=
  .next (match s.guard.sweep with
    | none => s
    | some (_, g) =>
      let s := s.deadlinesFirst
      let n := countNp s (sweeps g)
      let s := (s.core.pkts.filter (sweeps g)).foldl (fun s p => s.endPkt p .strict (pageOf p.ingress)) s
      let s := (s.addSat GUARD.STRICT_STATS_NP_ABORTED n.1).addSat GUARD.STRICT_STATS_P_DISCARDED n.2
      let s := { s with guard := { s.guard with sweep := none } }
      (s.set GUARD.STATUS_STRICT_BUSY 0).post Src.guard { type := .sweepEnd, aux := n.1 + n.2, payload := [n.1, n.2] })

end Sys2Proof.Machine
end

