-- ==== Sys2Proof/Machine/Ingress.lean ====
section
/-! DEFINITION. A TLP enters a PCIe port (R21): counting, the ingress refusals in the order of R553, colour, guard, translation and classification
(R304), messages (R166, R216), configuration requests, and completions (R18, R138, R216). -/
namespace Sys2Proof.Machine
open Sys2Proof

/-! ### Refusals (R553) -/

/-- A TLP that enters port `n`, as a packet for its end. -/
def ingressPkt (s : State) (n : Nat) (t : Tlp) : Pkt := rawPkt s t n (colourOf s n t.rid) (.port n)

/-- End a request at ingress, counted on the ingress port's page. -/
def State.refuseIn (s : State) (n : Nat) (t : Tlp) (path : EndPath) : State := s.endPkt (ingressPkt s n t) path n

/-- A TLP refused in SHADOW (R130): a downstream port sends no TLP, so a request from its link gets no completion there. -/
def State.refuseShadow (s : State) (n : Nat) (t : Tlp) : State :=
  if s.get (PORT.CFG_ROLE n) = 1 ∧ t.kind ≠ .cpl then s.refuseIn n t .shadow else s.count n 27 1

/-- An uncorrectable error of port `n` is logged in its AER capability; one of a shared port, which no host sees, is raised on the fault source of its octet
(R215; as UC, log entry 119). -/
def State.portError (s : State) (n bit : Nat) (t : Tlp) : State :=
  let s := s.aerLog (portFn s n) bit t
  if s.flag (PORT.CFG_SHARED n) ∧ s.get (PORT.CFG_ROLE n) = 0 then s.raiseFault (s.get (PORT.CFG_OCTET n)) UC n else s

/-- A TLP above the Max Payload Size of its ingress port: malformed, logged and discarded (R125). -/
def State.malformed (s : State) (n : Nat) (t : Tlp) : State := (s.count n 22 1).portError n aerMalformed t

/-- A guard refusal at a PCIe port (R235): logged in the port's AER, then ended. -/
def State.refuseGuard (s : State) (n : Nat) (t : Tlp) : State := (s.portError n aerUr t).refuseIn n t .guard

/-- An IDE TLP that meets a translation (R126): UC on the ingress octet's source. -/
def State.refuseIde (s : State) (n : Nat) (t : Tlp) : State := (s.refuseIn n t .ide).raiseFault (s.get (PORT.CFG_OCTET n)) UC n

/-- An IDE completion whose Requester ID would be translated: discarded and counted, UC on the ingress octet's source (R126). -/
def State.refuseIdeCpl (s : State) (n : Nat) : State := (s.count n 26 1).raiseFault (s.get (PORT.CFG_OCTET n)) UC n

/-! ### Who sends a request (R208, R215, R306) -/

/-- A requester as its partition sees it: the partition, the request with the Requester ID used there, and where its answers go. -/
structure Requester where
  part   : Nat
  tlp    : Tlp
  origin : Origin
  mapped : Bool
deriving DecidableEq, Repr

/-- Whether port `n` is a lent port (R306). -/
def lent (s : State) (n : Nat) : Bool := s.flag (PORT.CFG_SHARED n) && s.get (PORT.CFG_ROLE n) = 0 && s.flag (BRG.LEND_VALID n)

/-- The requester of a request at port `n`: on a member or upstream port itself; on a shared port the bound function its Requester ID names, with its
host-view Requester ID; none when no binding names it, or its partition is shed, whose bound functions are refused as if they were unbound (R215, R427). -/
def requesterAt (s : State) (n : Nat) (t : Tlp) : Option Requester :=
  if s.flag (PORT.CFG_SHARED n) ∧ s.get (PORT.CFG_ROLE n) = 0 then
    ((bindOfDev s n t.rid).filter (fun b => !bitOf (s.rd FLT.SHED_PART).toNat b.2.part)).map (fun b => ⟨b.2.part, { t with rid := hostRid s b.2 }, .func n t.rid, true⟩)
  else some ⟨s.get (PORT.CFG_PART n), t, .port n, false⟩

/-- Whether a request is routed by its address. -/
def byAddress (t : Tlp) : Bool :=
  match t.kind with
  | .msg => t.msgRoute = 1
  | .cfgRd | .cfgWr | .cpl => false
  | _ => true

/-- What a request meets in its partition; a multicast group takes its address before any of it (R161). -/
def hitFor (s : State) (n : Nat) (q : Requester) : Hit :=
  if ¬ byAddress q.tlp then .none_
  else match multicastAt s q.part n q.tlp.addr with
    | .group _ _ _ => .none_
    | .beyond => if q.tlp.kind = .memWr then .none_ else hitOf s q.part n q.tlp
    | .none_ => hitOf s q.part n q.tlp

/-- Whether a request meets a translation of its address or Requester ID (R126). -/
def translated (s : State) (n : Nat) (q : Requester) : Bool :=
  q.mapped || (q.tlp.kind = .msg && q.tlp.msgRoute = 2 && (bindOfHostRid s q.part q.tlp.dest).isSome) || (match hitFor s n q with
    | .bound _ _ | .window _ _ => true
    | _ => false)

/-- Whether a request goes to the management function of its partition, which no guard checks (R230). -/
def toManagement (s : State) (n : Nat) (q : Requester) : Bool := decide (hitFor s n q = .mgmt)

/-- Whether a request needs the bridge while it cannot carry it: no valid DevID (R308). -/
def bridgeClosed (s : State) (n : Nat) (q : Requester) : Bool :=
  !s.flag GLB.DEVID_VALID && (match hitFor s n q with
    | .window _ _ => true
    | .bound _ b => decide (112 ≤ b.target)
    | _ => false)

/-! ### Messages (R166, R216, R330) -/

/-- A PM_PME Message latches the port's WAKE (R330). -/
def State.notePme (s : State) (n : Nat) (t : Tlp) : State :=
  if t.kind = .msg ∧ t.msgCode = 0x18 ∧ s.get (PORT.CFG_ROLE n) = 0 ∧ ¬ s.brg.wakePorts.contains n then
    { s with brg := { s.brg with wakePorts := s.brg.wakePorts ++ [n] } }
  else s

/-- A message routed by implicit broadcast from upstream port `n`: to every downstream port of its partition (R166), after its subscriber and the order of its
ingress port and class (R155, R182). -/
def State.broadcast (s : State) (n colour : Nat) (t : Tlp) : State :=
  let ms := (partPorts s (s.get (PORT.CFG_PART n))).filter (fun m => s.get (PORT.CFG_ROLE m) = 0)
  if ms = [] then s
  else s.enter { rawPkt s t n colour (.port n) with members := ms, egress := 121, gens := reqStamp s false, sub := matchSub s n colour t.tc none }

/-- A message of a partition's requester (routing 0 to the Root Complex, 1 by address, 2 by ID, 3 broadcast, 4 local, 5 gathered to the Root Complex).
A local one ends at the port; gathered ones go on one by one (log entry 54). -/
def State.messageIn (s : State) (n colour : Nat) (q : Requester) (lock : Bool) : State :=
  let t := q.tlp
  let up := s.get (PORT.CFG_ROLE n) = 1
  match t.msgRoute with
  | 0 | 5 => if up then s.endPkt (rawPkt s t n colour q.origin) .noDest n else s.portOut t n (upstreamOf s q.part) colour q.origin lock none
  | 1 => s.functionOut t q.part n colour t.rid none none q.origin lock n
  | 2 => s.messageById t q.part n colour t.rid none q.origin lock n
  | 3 => if up then s.broadcast n colour t else s.endPkt (rawPkt s t n colour q.origin) .noDest n
  | 4 => s
  | _ => s.endPkt (rawPkt s t n colour q.origin) .noDest n

/-! ### Multicast (R161 to R163) -/

/-- The packet of a multicast write, with its members captured: every one but the ingress port. -/
def multicastPkt (s : State) (n colour : Nat) (q : Requester) (g : Nat) (members : List Nat) (pcie lock : Bool) : Pkt :=
  let ms := members.filter (· ≠ n)
  { rawPkt s q.tlp n colour q.origin with
    dest := 41, egress := 121, gens := reqStamp s false, sub := matchSub s n colour q.tlp.tc (some q.tlp.addr), members := ms, lockPass := lock,
    group := some (g, pcie), serials := ms.map (serialOf s) }

/-- Enter a multicast write; one whose group has no other member goes to none. -/
def State.multicastIn (s : State) (n colour : Nat) (q : Requester) (g : Nat) (members : List Nat) (pcie lock : Bool) : State :=
  let p := multicastPkt s n colour q g members pcie lock
  if p.members = [] then s else s.enter p

/-! ### Requests -/

/-- Classify a request that has passed its guard (R304), `rid` being its Requester ID as sent. -/
def State.classify (s : State) (n colour rid : Nat) (q : Requester) (lock : Bool) : State :=
  if bridgeClosed s n q then s.refuseIn n q.tlp .mode
  else if q.tlp.kind = .msg then s.messageIn n colour q lock
  else s.functionOut q.tlp q.part n colour rid none none q.origin lock n

/-- A request of a partition's requester: multicast first (R161), then the rest. -/
def State.requestPassed (s : State) (n colour rid : Nat) (q : Requester) (lock : Bool) : State :=
  match (if byAddress q.tlp then multicastAt s q.part n q.tlp.addr else .none_) with
  | .group g members pcie =>
    if q.tlp.kind = .memWr then s.multicastIn n colour q g members pcie lock
    else if tlpCls q.tlp = 1 then s.endPkt (rawPkt s q.tlp n colour q.origin) .mcRange n
    else s.classify n colour rid q lock
  | .beyond =>
    if q.tlp.kind = .memWr then s.endPkt (rawPkt s q.tlp n colour q.origin) .mcGroup n else s.classify n colour rid q lock
  | .none_ => s.classify n colour rid q lock

/-- A request of a partition's requester meets the guard at its own address (R227, R234). -/
def State.requestOf (s : State) (n colour : Nat) (t : Tlp) (q : Requester) : State :=
  if t.ide ∧ translated s n q then s.refuseIde n t
  else if toManagement s n q then s.mgmtOut q.tlp q.part n colour q.origin
  else
    let (v, s) := s.guardCheck n colour (needOf t) (decide (tlpCls t = 1)) (rangeOf t).1 (rangeOf t).2 t.rid
    match v with
    | none => s.refuseGuard n t
    | some lock => s.requestPassed n colour t.rid q lock

/-- A request of a lent port goes to its borrower, unchanged (R306). -/
def State.lentOut (s : State) (n colour : Nat) (t : Tlp) : State :=
  let (v, s) := s.guardCheck n colour (needOf t) (decide (tlpCls t = 1)) (rangeOf t).1 (rangeOf t).2 t.rid
  match v with
  | none => s.refuseGuard n t
  | some lock =>
    if s.mode < 3 ∨ ¬ s.flag GLB.DEVID_VALID then s.refuseIn n t .mode
    else s.bridgeOut t n colour t.rid t.addr (s.get (BRG.LEND_DEVID n)) (s.get (BRG.LEND_PORTID n)) t.tc 0x7FF false none 0 t.rid none (.port n) lock n

/-- A request that is no configuration request. -/
def State.requestIn (s : State) (n : Nat) (t : Tlp) : State :=
  let colour := colourOf s n t.rid
  let s := s.notePme n t
  if lent s n then s.lentOut n colour t
  else match requesterAt s n t with
    | none => s.refuseIn n t .unbound
    | some q => s.requestOf n colour t q

/-- A configuration request: a host's, at its upstream port; from below there is no destination for one. -/
def State.configIn (s : State) (n : Nat) (t : Tlp) : State :=
  let p := s.get (PORT.CFG_PART n)
  if s.get (PORT.CFG_ROLE n) ≠ 1 then s.refuseIn n t .noDest
  else
    let bound : Bool := match cfgHit s p t with
      | .bound _ _ => true
      | _ => false
    if t.ide ∧ bound then s.refuseIde n t else s.configAccess p n (colourOf s n t.rid) t (.port n)

/-- Whether a configuration request is served by a function of the switch, and on a DRAINED port by the port's own (R130, R139). -/
def servedHere (s : State) (n : Nat) (t : Tlp) (ownOnly : Bool) : Bool :=
  isConfig t && s.get (PORT.CFG_ROLE n) = 1 && (match cfgHit s (s.get (PORT.CFG_PART n)) t with
    | .own fn => !ownOnly || fn = upFn (s.get (PORT.CFG_PART n))
    | _ => false)

/-! ### Completions (R18, R138, R216) -/

/-- The record of a request that the switch itself ended (R138). -/
def endedFor (s : State) (n : Nat) (t : Tlp) : Option EndedRec := s.core.ended.find? (fun e => e.port = n ∧ e.rid = t.dest ∧ e.tag = t.tag)

/-- A completion that answers no request the switch sent or ended: routed by its Requester ID, a bound function's changed to device view. -/
def State.routeCpl (s : State) (n : Nat) (t : Tlp) : State :=
  if s.flag (PORT.CFG_SHARED n) then s.count n 39 1
  else
    let p := s.get (PORT.CFG_PART n)
    match bindOfHostRid s p t.dest with
    | some (_, b) =>
      if t.ide then s.refuseIdeCpl n else if b.target < 96 then (s.cplTo { t with dest := b.devRid } n b.target .none_).2 else s.count n 39 1
    | none => if idRoute s p t.dest = n then s.count n 39 1 else (s.cplTo t n (idRoute s p t.dest) .none_).2

/-- Whether the completion of a request goes on with another Requester ID or across the fabric (R126, R216). -/
def cplTranslated (o : Origin) : Bool :=
  match o with
  | .func _ _ | .tagged _ | .bridged _ _ _ _ => true
  | _ => false

/-- The data a completion carries on, with R217's substitute for a bound function's identity. -/
def cplData (s : State) (n : Nat) (r : NpRec) (t : Tlp) : List Byte :=
  match r.origin with
  | .tagged x => if r.kind = .cfgRd ∧ r.addr = 0 ∧ ((s.tag? x).bind TagEntry.bind).isSome then vfidData s n t.data else t.data
  | _ => t.data

/-- The record of a request is over, and with it the tag entry it took (R324). -/
def State.forgetOut (s : State) (r : NpRec) : State :=
  let s := { s with core := { s.core with out := s.core.out.filter (fun x => ¬ (x.port = r.port ∧ x.rid = r.rid ∧ x.tag = r.tag)) } }
  match r.origin with
  | .tagged x => (s.freeTag x).retryWaiting
  | .bridged _ _ (some x) _ => s.freeTag x
  | _ => s

/-- A completion enters port `n`: for a request sent through it, under its insertion serial; for one the switch has ended; or for neither. -/
def State.completionIn (s : State) (n : Nat) (t : Tlp) : State :=
  match npOf s n t with
  | some r =>
    if r.serial ≠ serialOf s n then (s.when (cplLast t) (fun s => s.forgetOut r)).count n 24 1
    else if t.ide ∧ cplTranslated r.origin then s.refuseIdeCpl n
    else
      let u := { t with data := cplData s n r t }
      let s := if cplLast t then { s with core := { s.core with out := s.core.out.filter (fun x => ¬ (x.port = n ∧ x.rid = r.rid ∧ x.tag = r.tag)) } } else s
      s.giveCpl r.origin n u
  | none => match endedFor s n t with
    | some e =>
      let s := if cplLast t then { s with core := { s.core with ended := s.core.ended.filter (fun x => x ≠ e) } } else s
      s.count n 21 1
    | none => s.routeCpl n t

/-! ### The row -/

/-- Count a received TLP (R490). -/
def State.countReceived (s : State) (n : Nat) (t : Tlp) : State := ((s.count n 0 1).count n 1 (tlpBytes t)).count n (4 + tlpCls t) 1

/-- A received TLP of a legal size, in the order of R553. -/
def State.received (s : State) (n : Nat) (t : Tlp) : State :=
  let st := s.get (PORT.STATUS_DRAIN_STATE n)
  if s.mode = 5 ∧ ¬ servedHere s n t false then s.refuseShadow n t
  else if t.kind = .cpl then s.completionIn n t
  else if st = 1 ∨ (st = 2 ∧ ¬ servedHere s n t true) then s.refuseIn n t .drainIngress
  else if isConfig t then s.configIn n t
  else s.requestIn n t

/-- A tag that a link which is not in Flit Mode cannot carry: one of 14 bits (R123). -/
def tagTooWide (s : State) (n : Nat) (t : Tlp) : Bool := decide (1024 ≤ t.tag) && !s.flag (PORT.STATUS_FLIT n)

/-- TLP_INGRESS: a TLP enters a port whose link is up; the partner sends none for which the port withholds credits (R152). -/
def execTlpIngress (port : Fin 96) (t : Tlp) (s : State) : Res :=
  .next (if linkUp s port ∧ coreForwards s ∧ creditFor s port t then
    let s := s.countReceived port t
    if (s.paux port).mps < t.data.length ∨ tagTooWide s port t then s.malformed port t else s.received port t
   else s)

/-- MGMT_CONFIG_ACCESS: a Configuration Request for the management function that an upstream port receives. -/
def execMgmtConfigAccess (port : Fin 96) (t : Tlp) (s : State) : Res :=
  let p := s.get (PORT.CFG_PART port)
  .next (if upAlive s port ∧ isConfig t ∧ cfgHit s p t = .own (33 * p) then s.received port t else s)

/-- BOUND_CONFIG_ACCESS: a Configuration Request for a bound function, or the placeholder below its vDSP, that an upstream port receives. -/
def execBoundConfigAccess (port : Fin 96) (t : Tlp) (s : State) : Res :=
  let p := s.get (PORT.CFG_PART port)
  .next (match cfgHit s p t with
    | .bound _ _ | .placeholder => if upAlive s port ∧ isConfig t then s.received port t else s
    | _ => s)

end Sys2Proof.Machine
end

