-- ==== Sys2Proof/Machine/Roles.lean ====
section
/-! DEFINITION. TW_ROLE received (R397, R405 to R407, R412, R413). -/
namespace Sys2Proof.Machine
open Sys2Proof

/-- A change of role of this side, announced by the partner, waits for its epoch. -/
def State.awaitRole (s : State) (action epoch mode : Nat) : State :=
  ({ s with twin := { s.twin with cmd := some (action, epoch, mode) } }).set GLB.MODE_CHANGING 1

/-- The mode that the image gives a side that carries traffic: its MODE when that is 3 or 4, else WORKER (R393). -/
def imageMode (s : State) : Nat :=
  match s.img.active with
  | some i => if i.tables.mode = 4 then 4 else 3
  | none => 3

/-- What each ACTION of a TW_ROLE does to the side that receives it: 1 YIELD, 2 TAKEOVER, 3 HANDOVER, 4 RESTORE, 5 HANDBACK. -/
def State.takeRole (s : State) (action epoch : Nat) : State :=
  match action with
  | 1 => State.judge { s with twin := { s.twin with yield := true } }
  | 2 =>
    if s.mode = 3 ∨ s.mode = 4 then s.toShadow
    else if s.mode = 6 ∧ side s = 1 then s.endAlias.toShadow
    else s
  | 3 =>
    let m := s.get TWIN.PEER_MODE
    if s.twin.arrange = 0 ∧ s.mode = 5 ∧ s.get TWIN.STATUS_PAIR = 4 ∧ (m = 3 ∨ m = 4) then s.awaitRole 4 epoch m else s
  | 4 => if s.twin.arrange = 1 then s.warmReset 2 else s
  | _ => if s.twin.arrange = 0 ∧ s.mode = 5 ∧ s.get TWIN.STATUS_PAIR = 4 then s.awaitRole 5 epoch (imageMode s) else s

/-- TW_ROLE_RECEIVE: a reserved action, or one but YIELD in REFUSED, is ignored and counted. -/
def execTwRoleReceive (b : Fin 4) (p : Tfp) (s : State) : Res :=
  .next (s.twinMsg b p 0x65 (fun s d =>
    let act := le d 0 1
    if d.length < 16 ∨ act = 0 ∨ 5 < act ∨ (2 ≤ act ∧ s.get TWIN.STATUS_PAIR = 7) then s.badMsg
    else (s.twinEvent .roleMsg ((List.range 4).map (fun k => le d (4 * k) 4))).takeRole act (le d 8 8)))

end Sys2Proof.Machine
end

