-- ==== Sys2Proof/Machine/Dispatch.lean ====
section
/-! DEFINITION. The meaning of every command: one arm per constructor of `Instr`. -/
namespace Sys2Proof.Machine
open Sys2Proof

/-- What a command does to the state, its queue of pending commands apart. -/
def exec (i : Instr) (s : State) : Host.Outcome State Fault Refusal :=
  match i with
  | .registerWrite path off val => Sys2Proof.Machine.execRegisterWrite path off val s
  | .loReadLatch path off => Sys2Proof.Machine.execLoReadLatch path off s
  | .rcRead path off => Sys2Proof.Machine.execRcRead path off s
  | .ledgerGrant src => Sys2Proof.Machine.execLedgerGrant src s
  | .eventsCoalesced src => Sys2Proof.Machine.execEventsCoalesced src s
  | .sourceWaitRelease src => Sys2Proof.Machine.execSourceWaitRelease src s
  | .genRetire t => Sys2Proof.Machine.execGenRetire t s
  | .tlpIngress port t => Sys2Proof.Machine.execTlpIngress port t s
  | .upstreamHotReset port dlDown => Sys2Proof.Machine.execUpstreamHotReset port dlDown s
  | .subscriberHeadRelease sub => Sys2Proof.Machine.execSubscriberHeadRelease sub s
  | .wheelSlotRelease => Sys2Proof.Machine.execWheelSlotRelease s
  | .orderedVoqRelease pkt => Sys2Proof.Machine.execOrderedVoqRelease pkt s
  | .crossbarGrant pkt => Sys2Proof.Machine.execCrossbarGrant pkt s
  | .egressTransmit turn => Sys2Proof.Machine.execEgressTransmit turn s
  | .multicastReplicate pkt slot => Sys2Proof.Machine.execMulticastReplicate pkt slot s
  | .mirrorRecordWrite sess => Sys2Proof.Machine.execMirrorRecordWrite sess s
  | .coreEccError buffer double pkt header => Sys2Proof.Machine.execCoreEccError buffer double pkt header s
  | .crossbarParityError => Sys2Proof.Machine.execCrossbarParityError s
  | .replicationStateError slot => Sys2Proof.Machine.execReplicationStateError slot s
  | .spillSramError share double => Sys2Proof.Machine.execSpillSramError share double s
  | .mirrorEnable path sess => Sys2Proof.Machine.execMirrorEnable path sess s
  | .mirrorDisable path sess => Sys2Proof.Machine.execMirrorDisable path sess s
  | .mcEnSet path => Sys2Proof.Machine.execMcEnSet path s
  | .loaderRun => Sys2Proof.Machine.execLoaderRun s
  | .modeRequest path mode => Sys2Proof.Machine.execModeRequest path mode s
  | .imgStage path => Sys2Proof.Machine.execImgStage path s
  | .imgStageDone => Sys2Proof.Machine.execImgStageDone s
  | .imgSwitch path => Sys2Proof.Machine.execImgSwitch path s
  | .imgCancel path => Sys2Proof.Machine.execImgCancel path s
  | .switchoverDrainStart port => Sys2Proof.Machine.execSwitchoverDrainStart port s
  | .switchoverApply => Sys2Proof.Machine.execSwitchoverApply s
  | .arvCommit path => Sys2Proof.Machine.execArvCommit path s
  | .fuseReadback ok => Sys2Proof.Machine.execFuseReadback ok s
  | .keyslotRevoke path => Sys2Proof.Machine.execKeyslotRevoke path s
  | .bootptrWrite path => Sys2Proof.Machine.execBootptrWrite path s
  | .flashWindowWrite path off val => Sys2Proof.Machine.execFlashWindowWrite path off val s
  | .flashErase path => Sys2Proof.Machine.execFlashErase path s
  | .flashOpDone => Sys2Proof.Machine.execFlashOpDone s
  | .commitGo path => Sys2Proof.Machine.execCommitGo path s
  | .checkerResult => Sys2Proof.Machine.execCheckerResult s
  | .enableBitWrite path off val => Sys2Proof.Machine.execEnableBitWrite path off val s
  | .commitCancel path => Sys2Proof.Machine.execCommitCancel path s
  | .commitApply => Sys2Proof.Machine.execCommitApply s
  | .strictSweepEnd => Sys2Proof.Machine.execStrictSweepEnd s
  | .ppsEdge => Sys2Proof.Machine.execPpsEdge s
  | .ppsEdgeMissed => Sys2Proof.Machine.execPpsEdgeMissed s
  | .todRecord bytes => Sys2Proof.Machine.execTodRecord bytes s
  | .todTimeout => Sys2Proof.Machine.execTodTimeout s
  | .syncSend => Sys2Proof.Machine.execSyncSend s
  | .syncReceive b f => Sys2Proof.Machine.execSyncReceive b f s
  | .delayReqReceive b f => Sys2Proof.Machine.execDelayReqReceive b f s
  | .delayRespReceive b f => Sys2Proof.Machine.execDelayRespReceive b f s
  | .syncLoss => Sys2Proof.Machine.execSyncLoss s
  | .timeHoldLong => Sys2Proof.Machine.execTimeHoldLong s
  | .aonTick => Sys2Proof.Machine.execAonTick s
  | .timeSnap path => Sys2Proof.Machine.execTimeSnap path s
  | .timeSet path => Sys2Proof.Machine.execTimeSet path s
  | .ptmRequest port => Sys2Proof.Machine.execPtmRequest port s
  | .ppsOutPulse => Sys2Proof.Machine.execPpsOutPulse s
  | .alarmFire n => Sys2Proof.Machine.execAlarmFire n s
  | .alarmEnableWrite path n val => Sys2Proof.Machine.execAlarmEnableWrite path n val s
  | .wakeAlarmFire => Sys2Proof.Machine.execWakeAlarmFire s
  | .portEnable path n => Sys2Proof.Machine.execPortEnable path n s
  | .portDisable path n => Sys2Proof.Machine.execPortDisable path n s
  | .portRetrain path n => Sys2Proof.Machine.execPortRetrain path n s
  | .portDrain path n => Sys2Proof.Machine.execPortDrain path n s
  | .portReopen path n => Sys2Proof.Machine.execPortReopen path n s
  | .portShed path n => Sys2Proof.Machine.execPortShed path n s
  | .portUnshed path n => Sys2Proof.Machine.execPortUnshed path n s
  | .portHotReset path n => Sys2Proof.Machine.execPortHotReset path n s
  | .perstHoldWrite path n hold => Sys2Proof.Machine.execPerstHoldWrite path n hold s
  | .perstRelease n => Sys2Proof.Machine.execPerstRelease n s
  | .refclkStable report => Sys2Proof.Machine.execRefclkStable report s
  | .portLinkUp n rate width flit news => Sys2Proof.Machine.execPortLinkUp n rate width flit news s
  | .portLinkDown n => Sys2Proof.Machine.execPortLinkDown n s
  | .drainComplete n => Sys2Proof.Machine.execDrainComplete n s
  | .drainDeadline n => Sys2Proof.Machine.execDrainDeadline n s
  | .dpcTrigger n => Sys2Proof.Machine.execDpcTrigger n s
  | .dpcClear n => Sys2Proof.Machine.execDpcClear n s
  | .slotPowerControlWrite n off => Sys2Proof.Machine.execSlotPowerControlWrite n off s
  | .hostBusNumberWrite part dev sec sub => Sys2Proof.Machine.execHostBusNumberWrite part dev sec sub s
  | .boundConfigAccess port t => Sys2Proof.Machine.execBoundConfigAccess port t s
  | .mailboxGo path => Sys2Proof.Machine.execMailboxGo path s
  | .mailboxCompletion status data => Sys2Proof.Machine.execMailboxCompletion status data s
  | .mailboxTimeout => Sys2Proof.Machine.execMailboxTimeout s
  | .guardEccError hit double => Sys2Proof.Machine.execGuardEccError hit double s
  | .schedEccError what double => Sys2Proof.Machine.execSchedEccError what double s
  | .gateEntryChange k => Sys2Proof.Machine.execGateEntryChange k s
  | .gateListStart k => Sys2Proof.Machine.execGateListStart k s
  | .samplerPeriod => Sys2Proof.Machine.execSamplerPeriod s
  | .sampSelWrite path val => Sys2Proof.Machine.execSampSelWrite path val s
  | .sampleClear path => Sys2Proof.Machine.execSampleClear path s
  | .phyEnable path b => Sys2Proof.Machine.execPhyEnable path b s
  | .phyDisable path b => Sys2Proof.Machine.execPhyDisable path b s
  | .bundleRetrain path b => Sys2Proof.Machine.execBundleRetrain path b s
  | .bundlePllLock b => Sys2Proof.Machine.execBundlePllLock b s
  | .partnerClockStable b => Sys2Proof.Machine.execPartnerClockStable b s
  | .partnerClockLoss b => Sys2Proof.Machine.execPartnerClockLoss b s
  | .trainingFrameReceive b lane f => Sys2Proof.Machine.execTrainingFrameReceive b lane f s
  | .coefRoundEnd b errs => Sys2Proof.Machine.execCoefRoundEnd b errs s
  | .trainAttemptTimeout b => Sys2Proof.Machine.execTrainAttemptTimeout b s
  | .superblockTransmit b => Sys2Proof.Machine.execSuperblockTransmit b s
  | .superblockReceive b lanes => Sys2Proof.Machine.execSuperblockReceive b lanes s
  | .narrowComplete b => Sys2Proof.Machine.execNarrowComplete b s
  | .linkPeriodTransmit b => Sys2Proof.Machine.execLinkPeriodTransmit b s
  | .linkPacketReceive b p => Sys2Proof.Machine.execLinkPacketReceive b p s
  | .idleReceive b crcOk => Sys2Proof.Machine.execIdleReceive b crcOk s
  | .ackReceive b seq pause crcOk => Sys2Proof.Machine.execAckReceive b seq pause crcOk s
  | .nakReceive b seq pause resync crcOk => Sys2Proof.Machine.execNakReceive b seq pause resync crcOk s
  | .pauseReceive b pause crcOk => Sys2Proof.Machine.execPauseReceive b pause crcOk s
  | .replayReceive b first count periodStart crcOk => Sys2Proof.Machine.execReplayReceive b first count periodStart crcOk s
  | .trainReceive b f crcOk => Sys2Proof.Machine.execTrainReceive b f crcOk s
  | .trainSend b => Sys2Proof.Machine.execTrainSend b s
  | .replayTimerExpire b => Sys2Proof.Machine.execReplayTimerExpire b s
  | .resyncNakTimer b => Sys2Proof.Machine.execResyncNakTimer b s
  | .resyncTimeout b => Sys2Proof.Machine.execResyncTimeout b s
  | .linkInitTimeout b => Sys2Proof.Machine.execLinkInitTimeout b s
  | .linkRetrainTimeout b => Sys2Proof.Machine.execLinkRetrainTimeout b s
  | .autoRestartExpire b => Sys2Proof.Machine.execAutoRestartExpire b s
  | .autoRestartReenable b => Sys2Proof.Machine.execAutoRestartReenable b s
  | .linkRestart path b => Sys2Proof.Machine.execLinkRestart path b s
  | .llPauseWrite path b v val => Sys2Proof.Machine.execLlPauseWrite path b v val s
  | .llLimitWrite path b val => Sys2Proof.Machine.execLlLimitWrite path b val s
  | .brPostedReceive b p => Sys2Proof.Machine.execBrPostedReceive b p s
  | .brAckedReceive b p => Sys2Proof.Machine.execBrAckedReceive b p s
  | .brNpReceive b p => Sys2Proof.Machine.execBrNpReceive b p s
  | .inCompletionReceive port t => Sys2Proof.Machine.execInCompletionReceive port t s
  | .brCplReceive b p => Sys2Proof.Machine.execBrCplReceive b p s
  | .brWackReceive b p => Sys2Proof.Machine.execBrWackReceive b p s
  | .brRwfReceive b p => Sys2Proof.Machine.execBrRwfReceive b p s
  | .brEndReceive b p => Sys2Proof.Machine.execBrEndReceive b p s
  | .tagWaitRelease pkt => Sys2Proof.Machine.execTagWaitRelease pkt s
  | .rwfNoticeSend dev window => Sys2Proof.Machine.execRwfNoticeSend dev window s
  | .fenceRead path w => Sys2Proof.Machine.execFenceRead path w s
  | .tagReclaim path => Sys2Proof.Machine.execTagReclaim path s
  | .tagReclaimDone => Sys2Proof.Machine.execTagReclaimDone s
  | .sbPollSend => Sys2Proof.Machine.execSbPollSend s
  | .sbPollReceive b p => Sys2Proof.Machine.execSbPollReceive b p s
  | .sbStateReceive b p => Sys2Proof.Machine.execSbStateReceive b p s
  | .bridgeEccError what double => Sys2Proof.Machine.execBridgeEccError what double s
  | .bundleDrain path b => Sys2Proof.Machine.execBundleDrain path b s
  | .bundleReopen path b => Sys2Proof.Machine.execBundleReopen path b s
  | .bundleDrainComplete b => Sys2Proof.Machine.execBundleDrainComplete b s
  | .bundleDrainDeadline b => Sys2Proof.Machine.execBundleDrainDeadline b s
  | .ringEnable path r => Sys2Proof.Machine.execRingEnable path r s
  | .ringDisable path r => Sys2Proof.Machine.execRingDisable path r s
  | .ringDoorbell path r tail => Sys2Proof.Machine.execRingDoorbell path r tail s
  | .rmaDescriptorFetched r bytes => Sys2Proof.Machine.execRmaDescriptorFetched r bytes s
  | .rmaHostReadComplete tag status data => Sys2Proof.Machine.execRmaHostReadComplete tag status data s
  | .rmaSegmentSend c => Sys2Proof.Machine.execRmaSegmentSend c s
  | .completionRecordWrite r => Sys2Proof.Machine.execCompletionRecordWrite r s
  | .keyRegister path p => Sys2Proof.Machine.execKeyRegister path p s
  | .keyRevoke path p => Sys2Proof.Machine.execKeyRevoke path p s
  | .keyFree path p => Sys2Proof.Machine.execKeyFree path p s
  | .keyPoolWrite path p val => Sys2Proof.Machine.execKeyPoolWrite path p val s
  | .connDataWrite path k val => Sys2Proof.Machine.execConnDataWrite path k val s
  | .connOpen path => Sys2Proof.Machine.execConnOpen path s
  | .connClose path => Sys2Proof.Machine.execConnClose path s
  | .connCloseComplete c => Sys2Proof.Machine.execConnCloseComplete c s
  | .connSwitchKey path => Sys2Proof.Machine.execConnSwitchKey path s
  | .cryptoLoad path => Sys2Proof.Machine.execCryptoLoad path s
  | .cryptoZero path => Sys2Proof.Machine.execCryptoZero path s
  | .rmaPacketReceive b p => Sys2Proof.Machine.execRmaPacketReceive b p s
  | .rmaStagingTake => Sys2Proof.Machine.execRmaStagingTake s
  | .readRespReceive b p => Sys2Proof.Machine.execReadRespReceive b p s
  | .rmaAckReceive b p => Sys2Proof.Machine.execRmaAckReceive b p s
  | .rmaNakReceive b p => Sys2Proof.Machine.execRmaNakReceive b p s
  | .resumeReceive b p => Sys2Proof.Machine.execResumeReceive b p s
  | .resumeAckReceive b p => Sys2Proof.Machine.execResumeAckReceive b p s
  | .rmaRetransmitTimer c => Sys2Proof.Machine.execRmaRetransmitTimer c s
  | .connOpenAckTimer c => Sys2Proof.Machine.execConnOpenAckTimer c s
  | .resumeSendTimer c => Sys2Proof.Machine.execResumeSendTimer c s
  | .rmaAckTimer c => Sys2Proof.Machine.execRmaAckTimer c s
  | .rmaEccError what double => Sys2Proof.Machine.execRmaEccError what double s
  | .cryptoEccError c rx phase double => Sys2Proof.Machine.execCryptoEccError c rx phase double s
  | .twHelloSend => Sys2Proof.Machine.execTwHelloSend s
  | .twHelloReceive b p => Sys2Proof.Machine.execTwHelloReceive b p s
  | .checkpointSend => Sys2Proof.Machine.execCheckpointSend s
  | .twCkptReceive b p => Sys2Proof.Machine.execTwCkptReceive b p s
  | .twCkptAckReceive b p => Sys2Proof.Machine.execTwCkptAckReceive b p s
  | .twCommitReceive b p => Sys2Proof.Machine.execTwCommitReceive b p s
  | .twCommitResultReceive b p => Sys2Proof.Machine.execTwCommitResultReceive b p s
  | .pairCommitTimeout => Sys2Proof.Machine.execPairCommitTimeout s
  | .twRoleReceive b p => Sys2Proof.Machine.execTwRoleReceive b p s
  | .twSyncReceive b p => Sys2Proof.Machine.execTwSyncReceive b p s
  | .twSyncDoneReceive b p => Sys2Proof.Machine.execTwSyncDoneReceive b p s
  | .stateHashMismatch => Sys2Proof.Machine.execStateHashMismatch s
  | .croakToggle out => Sys2Proof.Machine.execCroakToggle out s
  | .croakEdge => Sys2Proof.Machine.execCroakEdge s
  | .croakSlotEnd => Sys2Proof.Machine.execCroakSlotEnd s
  | .twinLinkSilent => Sys2Proof.Machine.execTwinLinkSilent s
  | .twinTakeOver path => Sys2Proof.Machine.execTwinTakeOver path s
  | .twinStandDown path => Sys2Proof.Machine.execTwinStandDown path s
  | .twinDemote path => Sys2Proof.Machine.execTwinDemote path s
  | .twinRestore path => Sys2Proof.Machine.execTwinRestore path s
  | .twinHandback path => Sys2Proof.Machine.execTwinHandback path s
  | .twinResync path => Sys2Proof.Machine.execTwinResync path s
  | .twinRoleEpoch => Sys2Proof.Machine.execTwinRoleEpoch s
  | .pairKeyLoad path => Sys2Proof.Machine.execPairKeyLoad path s
  | .twinMirrorEcc double => Sys2Proof.Machine.execTwinMirrorEcc double s
  | .faultEvent src cls inst => Sys2Proof.Machine.execFaultEvent src cls inst s
  | .faultStatusClear path mask => Sys2Proof.Machine.execFaultStatusClear path mask s
  | .firstRearm path => Sys2Proof.Machine.execFirstRearm path s
  | .faultInject path => Sys2Proof.Machine.execFaultInject path s
  | .shedCmdShed path => Sys2Proof.Machine.execShedCmdShed path s
  | .shedCmdUnshed path => Sys2Proof.Machine.execShedCmdUnshed path s
  | .journalWrite => Sys2Proof.Machine.execJournalWrite s
  | .journalDrainWrite => Sys2Proof.Machine.execJournalDrainWrite s
  | .journalGapAck path => Sys2Proof.Machine.execJournalGapAck path s
  | .journalRdIndexWrite path val => Sys2Proof.Machine.execJournalRdIndexWrite path val s
  | .journalEccError entry double => Sys2Proof.Machine.execJournalEccError entry double s
  | .slotOn path n => Sys2Proof.Machine.execSlotOn path n s
  | .slotOff path n => Sys2Proof.Machine.execSlotOff path n s
  | .slotClear path n => Sys2Proof.Machine.execSlotClear path n s
  | .slotKillClear path n => Sys2Proof.Machine.execSlotKillClear path n s
  | .slotPresenceChange n present => Sys2Proof.Machine.execSlotPresenceChange n present s
  | .slotPresenceDebounced n => Sys2Proof.Machine.execSlotPresenceDebounced n s
  | .slotRemovalWindow n => Sys2Proof.Machine.execSlotRemovalWindow n s
  | .slotInsertDelayEnd n => Sys2Proof.Machine.execSlotInsertDelayEnd n s
  | .slotOffTimeEnd n => Sys2Proof.Machine.execSlotOffTimeEnd n s
  | .slotRampEnd n => Sys2Proof.Machine.execSlotRampEnd n s
  | .slotGateEnhanced n => Sys2Proof.Machine.execSlotGateEnhanced n s
  | .slotGateStuck n => Sys2Proof.Machine.execSlotGateStuck n s
  | .slotLimitEnter n => Sys2Proof.Machine.execSlotLimitEnter n s
  | .slotFaultTimer n => Sys2Proof.Machine.execSlotFaultTimer n s
  | .slotFastTrip n => Sys2Proof.Machine.execSlotFastTrip n s
  | .slotRampStall n => Sys2Proof.Machine.execSlotRampStall n s
  | .slotVinOv => Sys2Proof.Machine.execSlotVinOv s
  | .slotOutputCheck n mv => Sys2Proof.Machine.execSlotOutputCheck n mv s
  | .slotFaultsAgeOut n => Sys2Proof.Machine.execSlotFaultsAgeOut n s
  | .slotAttention n level => Sys2Proof.Machine.execSlotAttention n level s
  | .slotMeasUpdate n iout vout vgate vin => Sys2Proof.Machine.execSlotMeasUpdate n iout vout vgate vin s
  | .dieLinkLost => Sys2Proof.Machine.execDieLinkLost s
  | .dieLinkRestored => Sys2Proof.Machine.execDieLinkRestored s
  | .mgDiscoverReceive b p => Sys2Proof.Machine.execMgDiscoverReceive b p s
  | .mgIdentityReceive b p => Sys2Proof.Machine.execMgIdentityReceive b p s
  | .mgAssignReceive b p => Sys2Proof.Machine.execMgAssignReceive b p s
  | .mgReadReceive b p => Sys2Proof.Machine.execMgReadReceive b p s
  | .mgReadDataReceive b p => Sys2Proof.Machine.execMgReadDataReceive b p s
  | .mgWriteReceive b p => Sys2Proof.Machine.execMgWriteReceive b p s
  | .mgResultReceive b p => Sys2Proof.Machine.execMgResultReceive b p s
  | .mgmtConfigAccess port t => Sys2Proof.Machine.execMgmtConfigAccess port t s
  | .mgmtBarRequestRefused port t => Sys2Proof.Machine.execMgmtBarRequestRefused port t s
  | .mspWrite frame => Sys2Proof.Machine.execMspWrite frame s
  | .mspRead frame => Sys2Proof.Machine.execMspRead frame s
  | .mspStatus frame => Sys2Proof.Machine.execMspStatus frame s
  | .mdmaEnable path e => Sys2Proof.Machine.execMdmaEnable path e s
  | .mdmaDisable path e => Sys2Proof.Machine.execMdmaDisable path e s
  | .mdmaOwnerWrite path e val => Sys2Proof.Machine.execMdmaOwnerWrite path e val s
  | .mdmaDoorbell path e tail => Sys2Proof.Machine.execMdmaDoorbell path e tail s
  | .mdmaSnapshot e => Sys2Proof.Machine.execMdmaSnapshot e s
  | .mdmaMsgSend e => Sys2Proof.Machine.execMdmaMsgSend e s
  | .mdmaNop e => Sys2Proof.Machine.execMdmaNop e s
  | .mdmaMsgTimeout e => Sys2Proof.Machine.execMdmaMsgTimeout e s
  | .mdmaEccError e double => Sys2Proof.Machine.execMdmaEccError e double s
  | .parkRequest path => Sys2Proof.Machine.execParkRequest path s
  | .parkSequenceStep => Sys2Proof.Machine.execParkSequenceStep s
  | .wakePin k => Sys2Proof.Machine.execWakePin k s
  | .mspWake => Sys2Proof.Machine.execMspWake s
  | .resetNWake => Sys2Proof.Machine.execResetNWake s
  | .wakeRetryTimer => Sys2Proof.Machine.execWakeRetryTimer s
  | .pmbusPoll word => Sys2Proof.Machine.execPmbusPoll word s
  | .pmbusTimeout => Sys2Proof.Machine.execPmbusTimeout s
  | .pmbusAlertPoll words => Sys2Proof.Machine.execPmbusAlertPoll words s
  | .railClear path r => Sys2Proof.Machine.execRailClear path r s
  | .avsStep marginMv => Sys2Proof.Machine.execAvsStep marginMv s
  | .avsEnWrite path en => Sys2Proof.Machine.execAvsEnWrite path en s
  | .fuseProgKey path => Sys2Proof.Machine.execFuseProgKey path s
  | .fuseSetProd path => Sys2Proof.Machine.execFuseSetProd path s
  | .fuseSetReturn path => Sys2Proof.Machine.execFuseSetReturn path s
  | .unlockChallenge => Sys2Proof.Machine.execUnlockChallenge s
  | .unlockResponse bytes => Sys2Proof.Machine.execUnlockResponse bytes s
  | .jtagIdcode => Sys2Proof.Machine.execJtagIdcode s
  | .jtagBypass => Sys2Proof.Machine.execJtagBypass s
  | .jtagSamplePreload pins drive => Sys2Proof.Machine.execJtagSamplePreload pins drive s
  | .jtagExtest => Sys2Proof.Machine.execJtagExtest s
  | .extestExit => Sys2Proof.Machine.execExtestExit s
  | .dapNop => Sys2Proof.Machine.execDapNop s
  | .dapBar0Read off => Sys2Proof.Machine.execDapBar0Read off s
  | .dapBar0Write off val => Sys2Proof.Machine.execDapBar0Write off val s
  | .dapMemRead port addr => Sys2Proof.Machine.execDapMemRead port addr s
  | .dapMemWrite port addr val => Sys2Proof.Machine.execDapMemWrite port addr val s
  | .dapComplete status data => Sys2Proof.Machine.execDapComplete status data s
  | .coldReset => Sys2Proof.Machine.execColdReset s
  | .pwrokRise side => Sys2Proof.Machine.execPwrokRise side s
  | .fuseSenseDone => Sys2Proof.Machine.execFuseSenseDone s
  | .warmReset => Sys2Proof.Machine.execWarmReset s
  | .softWarmReset path => Sys2Proof.Machine.execSoftWarmReset path s
  | .brownOut => Sys2Proof.Machine.execBrownOut s
  | .supplyExcursion r => Sys2Proof.Machine.execSupplyExcursion r s
  | .coreRelease => Sys2Proof.Machine.execCoreRelease s
  | .corePllLock => Sys2Proof.Machine.execCorePllLock s
  | .sramInitDone => Sys2Proof.Machine.execSramInitDone s
  | .xtalDetect => Sys2Proof.Machine.execXtalDetect s
  | .xtalStop => Sys2Proof.Machine.execXtalStop s
  | .corePllLoss refclk => Sys2Proof.Machine.execCorePllLoss refclk s
  | .thermalThreshold sensor level => Sys2Proof.Machine.execThermalThreshold sensor level s
  | .mdmaHostReadComplete tag status data => Sys2Proof.Machine.execMdmaHostReadComplete tag status data s
  | .vinSlotStartThreshold => Sys2Proof.Machine.execVinSlotStartThreshold s
  | .demoteDrainStart port => Sys2Proof.Machine.execDemoteDrainStart port s

end Sys2Proof.Machine
end

