-- ==== Sys2Proof/Safety.lean ====
section
/-! DEFINITION. What counts as a safe run of the block, in the terms the statements use: the canonical form of its stores, and the
one-time-programmable rows. -/
namespace Sys2Proof.Machine
open Sys2Proof

/-- Every sparse store of the block is in its one canonical form: keys rising, nothing listed at its default. -/
def Canonical (s : State) : Prop :=
  SMap.wf resetWord s.regs ∧ SMap.wf (fun _ => 0) s.counters ∧ SMap.wf (fun _ => 0) s.msix ∧ SMap.wf (fun _ => 0) s.cfg ∧
  SMap.wf (fun _ => 0xFF) s.img.flash

/-- The shape the block's lists keep: every packet in the core has an identity given out before the next one, and every sampler has its 16
depth bins and 16 sojourn bins. -/
def Shaped (s : State) : Prop :=
  (∀ p ∈ s.core.pkts, p.id < s.core.nextId) ∧ (∀ e ∈ s.sched.samplers, e.2.depth.length = 16 ∧ e.2.soj.length = 16)

/-- Nothing that is blown comes back: the anti-rollback count does not fall, a revoked key slot stays revoked, and PROD and
RETURN stay blown (R70, R75, R510). -/
def FusesKept (s t : State) : Prop :=
  s.fuses.arv ≤ t.fuses.arv ∧ (∀ k, k ∈ s.fuses.revoked → k ∈ t.fuses.revoked) ∧ (s.fuses.prod = true → t.fuses.prod = true) ∧
  (s.fuses.ret = true → t.fuses.ret = true)

/-- What every command leaves to the machine: the queue as it was, and what has left the part still on record. -/
def QueueKept (s t : State) : Prop := t.pending = s.pending ∧ s.out <+: t.out

/-- A write on a path finds nothing in its way (R33, R79, R476, R502): the register interface accepts writes, nothing of the path waits at a
full source, the core runs, and the path may write there. -/
def reaches (s : State) (path : Path) (off : Nat) : Bool :=
  !stalls s && (waitsAt s path off).isNone && decide (6 ≤ s.pwr.up) && (s.mode ≠ 7 || (path = .msp && parkedOk off)) && writeAllowed s path off

/-- The registers outside the BAR0 range from `lo` up to `hi` stay as they are. -/
def RegsOutside (s t : State) (lo hi : Nat) : Prop := ∀ o, o < lo ∨ hi ≤ o → t.rd o = s.rd o

/-- The blocks that hold no registers of their own kind, or are not concerned by a local command: their state stays as it is. -/
def FabricKept (s t : State) : Prop :=
  t.links = s.links ∧ t.phys = s.phys ∧ t.rma = s.rma ∧ t.twin = s.twin ∧ t.sched = s.sched ∧ t.guard = s.guard ∧ t.mdma = s.mdma ∧
  t.img = s.img ∧ t.fuses = s.fuses ∧ t.dbg = s.dbg ∧ t.time = s.time ∧ t.part = s.part ∧ t.views = s.views ∧ t.shadow = s.shadow

end Sys2Proof.Machine
end

