-- ==== Sys2Proof/WellFormed.lean ====
section
/-! DEFINITION. Which commands can be sent: every field of the data a command carries lies within its width in the manual, and the
payload has the length its header says. The meanings are total: they do not need it. -/
namespace Sys2Proof

/-- How many data bytes a TLP of this kind and length carries, where its kind fixes it. -/
def Tlp.payloadOk (t : Tlp) : Bool :=
  match t.kind with
  | .memRd | .memRdLk | .ioRd | .cfgRd => t.data.isEmpty
  | .memWr | .dmWr | .ioWr | .cfgWr | .fetchAdd | .swap | .cas => t.data.length == 4 * t.lenDw
  | .msg | .cpl => t.data.isEmpty || t.data.length == 4 * t.lenDw

/-- A TLP within the widths of its fields: address 64 bits, length 1 to 1,024 dwords, Routing IDs 16 bits, tag 14 bits (R311, R325). -/
def Tlp.wf (t : Tlp) : Bool :=
  decide (t.addr < 2 ^ 64) && decide (1 ≤ t.lenDw ∧ t.lenDw ≤ 1024) && decide (t.firstBe < 16 ∧ t.lastBe < 16) &&
  decide (t.rid < 2 ^ 16 ∧ t.dest < 2 ^ 16 ∧ t.cplRid < 2 ^ 16) && decide (t.tag < 2 ^ 14) && decide (t.tc < 8 ∧ t.at_ < 4) &&
  decide (t.dword < 1024 ∧ t.status < 8 ∧ t.byteCount ≤ 4096 ∧ t.lowerAddr < 128) && decide (t.msgCode < 256 ∧ t.msgRoute < 8) &&
  (match t.pasid with | some p => decide (p.val < 2 ^ 20) | none => true) && t.payloadOk

/-- A common header within its widths (R309). -/
def TfpHdr.wf (h : TfpHdr) : Bool :=
  decide (h.kind < 256 ∧ h.tc < 8 ∧ h.hops < 16) && decide (h.dstDev < 2048 ∧ h.srcDev < 2048) && decide (h.dstPort < 128 ∧ h.srcPort < 128) &&
  decide (h.colour < 4096 ∧ h.gen < 2 ^ 25) && decide (h.xid < 16384 ∧ h.xidGen < 16 ∧ h.window < 2048)

/-- A request body within its widths (R311). -/
def ReqBody.wf (r : ReqBody) : Bool :=
  decide (r.op < 16 ∧ r.tlpTc < 8 ∧ r.at_ < 4) && decide (r.lenDw < 1024 ∧ r.firstBe < 16 ∧ r.lastBe < 16) &&
  decide (r.msgCode < 256 ∧ r.msgRoute < 8 ∧ r.addr < 2 ^ 64 ∧ r.rid < 2 ^ 16 ∧ r.tag < 2 ^ 14) &&
  (match r.pasid with | some p => decide (p.val < 2 ^ 20) | none => true)

/-- An answer body within its widths (R312). -/
def AnsBody.wf (a : AnsBody) : Bool :=
  decide (a.status < 8 ∧ a.byteCount < 2 ^ 13 ∧ a.lowerAddr < 128 ∧ a.lenDw < 1024 ∧ a.cplRid < 2 ^ 16 ∧ a.cause < 16)

/-- What follows the header of a TFP packet, within its widths (R311 to R313, R330, R364). -/
def TfpBody.wf : TfpBody → Bool
  | .req r d => r.wf && decide (d.length ≤ 4096)
  | .ans a d => a.wf && decide (d.length ≤ 4096)
  | .notice n => decide (n.window < 2048 ∧ n.cause < 16 ∧ n.count < 2 ^ 16 ∧ n.addr < 2 ^ 64)
  | .sideband b => decide (b.port < 128 ∧ b.seq < 2 ^ 16 ∧ b.state < 2 ^ 29)
  | .rma h _ t => decide (h.dstConn < 1024 ∧ h.srcConn < 1024 ∧ h.phase < 2 ∧ h.psn < 2 ^ 24 ∧ h.counter < 2 ^ 64 ∧ t.length = 16)
  | .msg _ => true

/-- A TFP packet within its widths. -/
def Tfp.wf (p : Tfp) : Bool := p.hdr.wf && p.body.wf

/-- A TIME flit within its widths (R278). -/
def TimeFlit.wf (f : TimeFlit) : Bool :=
  decide (f.kind < 4 ∧ f.seq < 2 ^ 16 ∧ f.state < 4 ∧ f.hops < 16 ∧ f.errBound < 2 ^ 16) &&
  decide (f.tTx < 2 ^ 64 ∧ f.tRx < 2 ^ 64 ∧ f.srcDev < 2048)

/-- Whether a command can be sent: the checks of the data it carries. A constructor with bounded operands only has none. -/
def Instr.wf : Instr → Bool
  | .registerWrite _ off _ | .loReadLatch _ off | .rcRead _ off | .enableBitWrite _ off _ | .dapBar0Read off | .dapBar0Write off _ => off.toNat % 4 == 0
  | .tlpIngress _ t | .boundConfigAccess _ t | .inCompletionReceive _ t | .mgmtConfigAccess _ t | .mgmtBarRequestRefused _ t => t.wf
  | .brPostedReceive _ p | .brAckedReceive _ p | .brNpReceive _ p | .brCplReceive _ p | .brWackReceive _ p | .brRwfReceive _ p | .brEndReceive _ p
  | .sbPollReceive _ p | .sbStateReceive _ p | .rmaPacketReceive _ p | .readRespReceive _ p | .rmaAckReceive _ p | .rmaNakReceive _ p
  | .resumeReceive _ p | .resumeAckReceive _ p | .twHelloReceive _ p | .twCkptReceive _ p | .twCkptAckReceive _ p | .twCommitReceive _ p
  | .twCommitResultReceive _ p | .twRoleReceive _ p | .twSyncReceive _ p | .twSyncDoneReceive _ p | .mgDiscoverReceive _ p
  | .mgIdentityReceive _ p | .mgAssignReceive _ p | .mgReadReceive _ p | .mgReadDataReceive _ p | .mgWriteReceive _ p | .mgResultReceive _ p => p.wf
  | .linkPacketReceive _ p => p.p.wf && decide (p.seq < 2 ^ 16 ∧ 1 ≤ p.flits)
  | .syncReceive _ f | .delayReqReceive _ f | .delayRespReceive _ f => f.wf
  | .trainReceive _ f _ => decide (f.proto < 16 ∧ f.state < 4 ∧ f.side < 2 ∧ f.role < 2 ∧ f.devid < 2048 ∧ f.mode < 8 ∧ f.nextRx < 2 ^ 16)
  | .superblockReceive _ l => l.all (fun e => decide (e.lane < 16) && decide (e.phase < 64))
  | .mspWrite f | .mspRead f | .mspStatus f => !f.isEmpty
  | .dapMemRead _ a => a.toNat % 4 == 0
  | .dapMemWrite _ a _ => a.toNat % 4 == 0
  | .pmbusAlertPoll w => decide (w.length ≤ 4)
  | _ => true

end Sys2Proof
end

