-- ==== Sys2Proof/Certificates/Slice0/Obligations.lean ====
section
/-! DEFINITION. The statements about this block, in the order of the spec's files: what each command does to the state, what it leaves, and
the properties every step keeps. -/
open Sys2Proof Sys2Proof.Machine

/-! ### The queue and the whole machine -/

/-- For every command c and state s, a step of s with c put at the front of its queue is exec of c on s, whose queue is the rest. -/
def Obligations.StepRunsTheFrontCommand : Prop :=
  ∀ (c : Instr) (s : State), step { s with pending := c :: s.pending } = exec c s

/-- With an empty queue a step answers a next state; while core clocks run, the cycle count rises by one, elapsed time does not fall, and registers, packets and queue are unchanged. That an idle step is a core cycle is the model's choice (log entry 1). -/
def Obligations.IdleStepIsOneCycle : Prop :=
  ∀ s : State, s.pending = [] → ∃ t, step s = .next t ∧ t.regs = s.regs ∧ t.core = s.core ∧ t.pending = [] ∧ s.adv ≤ t.adv ∧
    t.cycle = (if coreClock s then s.cycle + 1 else s.cycle)

/-- In every state whose register space, counters, MSI-X tables, configuration space and flash are in canonical form (keys rising, nothing listed at its default), whatever command is in front, a step that answers a next state answers one in which they are too. -/
def Obligations.StepKeepsCanonicalStores : Prop :=
  ∀ s t : State, Canonical s → step s = .next t → Canonical t

/-- In every state in which each packet of the core has an identity below the next one to be given and each sampler has 16 depth and 16 sojourn bins, a step that answers a next state answers one of the same kind. Statements that follow one packet or one sampler assume this invariant. -/
def Obligations.StepKeepsShape : Prop :=
  ∀ s t : State, Shaped s → step s = .next t → Shaped t

/-- The invariants of StepKeepsCanonicalStores and StepKeepsShape hold at State.reset. -/
def Obligations.ResetMeetsTheInvariants : Prop := Canonical State.reset ∧ Shaped State.reset

/-- Whatever command is in front, in every state, a step never lowers the anti-rollback count, never makes a revoked key slot unrevoked, and never clears PROD or RETURN. -/
def Obligations.StepNeverUndoesFuses : Prop :=
  ∀ s t : State, step s = .next t → FusesKept s t

/-- Every command, in every state, answers a next state; its queue is the one it was given, and everything the part had sent out before is still on record in the same order. That each of the 300 commands answers a next state in every state, and neither a fault nor a refusal, is part of the claim. -/
def Obligations.EveryCommandCompletesAndKeepsTheQueue : Prop :=
  ∀ (c : Instr) (s : State), ∃ t, exec c s = .next t ∧ QueueKept s t

/-- Writing a word of the register space changes that word alone; a field written reads back its value within its width; fields beside it in the word and every field of another word stay. -/
def Obligations.RegisterWordsAndFields : Prop :=
  (∀ (s : State) (o p : Nat) (w : Word), (s.wr o w).rd p = if o = p then w else s.rd p) ∧
  (∀ (s : State) (f : RF) (v : Nat), f.lo + f.n ≤ 32 → (s.set f v).get f = v % 2 ^ f.n) ∧
  (∀ (s : State) (f g : RF) (v : Nat), g.lo + g.n ≤ 32 → (f.off ≠ g.off ∨ g.lo + g.n ≤ f.lo ∨ f.lo + f.n ≤ g.lo) → (s.set f v).get g = s.get g)

/-- Right after a cold reset: the mode reads BARE, GLB.ID reads 0x2568_FA5E, the ledger has issued no number, the journal and the packet store are empty, FT is 0 in state FREE, every port is disabled and every link layer is OFF. -/
def Obligations.ResetLeaves : Prop :=
  State.reset.mode = 0 ∧ State.reset.rd 0 = 0x2568FA5E ∧ State.reset.ledger.last = 0 ∧ State.reset.jrnl.ring = [] ∧ State.reset.core.pkts = [] ∧
  State.reset.time.ft = 0 ∧ ftState State.reset = 0 ∧
  (∀ n : Fin 96, State.reset.flag (PORT.CTRL_ENABLE n) = false) ∧ (∀ b : Fin 4, State.reset.get (FBL.LL_STATUS_STATE b) = 0)

/-! ### Fabric time (03_fabric_time.md) -/

/-- From PWROK on, AON_TICK answers a next state whose AON copy is 131,072 units later (mod 2^64); registers, FT, packets and every block are unchanged. -/
def Obligations.AonTickAdvancesTheCopy : Prop :=
  ∀ s : State, 2 ≤ s.pwr.up → ∃ t, exec .aonTick s = .next t ∧ t.time.aon = (s.time.aon + 131072) % 2 ^ 64 ∧ t.time.ft = s.time.ft ∧
    t.regs = s.regs ∧ t.core = s.core ∧ t.pwr = s.pwr ∧ t.out = s.out ∧ t.ledger = s.ledger

/-- TIME_SNAP that reaches TIME.CTRL leaves FT in SNAP_FT and changes no other register. The first PTM Request of a dialog, on a linked port of role 0 or 1 with PTM_EN, is answered without time; a later one with FT in whole nanoseconds and a time this statement leaves open; neither changes a register. With PPS_OUT 1, outside BARE and PARKED and with the pin low, the pulse of a second FT has just crossed leaves the part, and the same command again sends nothing; a pin that rose 1 ms ago falls. The wake alarm, armed, due and not yet done, outside PARKED and a park, sets FIRED and changes no register but WAKE_CTRL. -/
def Obligations.SnapshotPtmPulseAndWakeAlarm : Prop :=
  (∀ (s : State) (path : Path), reaches s path TIME.CTRL = true →
    ∃ t, exec (.timeSnap path) s = .next t ∧ t.rd64 TIME.SNAP_FT_LO = s.time.ft % 2 ^ 64 ∧ RegsOutside s t TIME.SNAP_FT_LO (TIME.SNAP_FT_LO + 8) ∧
      t.time = s.time ∧ t.core = s.core ∧ t.ledger = s.ledger) ∧
  (∀ (s : State) (n : Fin 96), s.flag TIME.CTRL_PTM_EN = true → s.get (PORT.CFG_ROLE n) < 2 → linkUp s n = true →
    s.time.ptm.contains n.val = false →
    ∃ t, exec (.ptmRequest n) s = .next t ∧ t.out = s.out ++ [.ptm n none] ∧ t.time = { s.time with ptm := s.time.ptm ++ [n.val] } ∧ t.regs = s.regs) ∧
  (∀ (s : State) (n : Fin 96), s.flag TIME.CTRL_PTM_EN = true → s.get (PORT.CFG_ROLE n) < 2 → linkUp s n = true → s.time.ptm.contains n.val = true →
    ∃ t took, exec (.ptmRequest n) s = .next t ∧ t.out = s.out ++ [.ptm n (some (s.time.ft * 1000000000 / 2 ^ 32, took))] ∧ t.time = s.time ∧
      t.regs = s.regs) ∧
  (∀ (s : State) (r : Nat), s.time.ppsRise = some r → r + usFt 1000 ≤ s.time.ft → 3 ≤ s.time.ft % 2 ^ 32 →
    ∃ t, exec .ppsOutPulse s = .next t ∧ t.out = s.out ++ [.ppsLow s.time.ft] ∧ t.time = { s.time with ppsRise := none } ∧ t.regs = s.regs) ∧
  (∀ s : State, s.time.ft % 2 ^ 32 < 3 → s.time.ppsRise = none → s.time.lastPps < s.time.ft / 2 ^ 32 → s.time.src.ppsOut = true → s.mode ≠ 0 →
    s.mode ≠ 7 →
    ∃ t, exec .ppsOutPulse s = .next t ∧ t.out = s.out ++ [.ppsOut (s.time.ft / 2 ^ 32 * 2 ^ 32)] ∧ t.time.lastPps = s.time.ft / 2 ^ 32 ∧
      t.regs = s.regs ∧ t.core = s.core ∧ t.ledger = s.ledger ∧ exec .ppsOutPulse t = .next t) ∧
  (∀ s : State, 2 ≤ s.pwr.up → s.flag TIME.WAKE_CTRL_ARM = true → s.time.wakeDone = false → s.rd64 TIME.WAKE_AT_LO ≤ wakeFt s →
    s.mode ≠ 7 → s.get PWR.STATUS_PARK_STEP = 0 →
    ∃ t, exec .wakeAlarmFire s = .next t ∧ t.flag TIME.WAKE_CTRL_FIRED = true ∧ t.time.wakeDone = true ∧ RegsOutside s t TIME.WAKE_CTRL (TIME.WAKE_CTRL + 4))

/-- A TIME.CTRL.SET that reaches its register: with SOURCE 2 FT becomes TIME.SET; with any other SOURCE the event TIME_SET_REFUSED is entered at the time unit's source and nothing else changes: FT, the registers and the packets stay. -/
def Obligations.TimeSetNeedsSourceTwo : Prop :=
  (∀ (s : State) (path : Path), reaches s path TIME.CTRL = true → s.time.src.source = 2 →
    ∃ t, exec (.timeSet path) s = .next t ∧ t.time.ft = s.rd64 TIME.SET_LO % 2 ^ 64) ∧
  (∀ (s : State) (path : Path), reaches s path TIME.CTRL = true → s.time.src.source ≠ 2 →
    ∃ t, exec (.timeSet path) s = .next t ∧ t.regs = s.regs ∧ t.time = s.time ∧ t.core = s.core ∧
      t.srcQ Src.time = (s.srcQ Src.time).push { type := .timeSetRefused, payload := [(s.rd TIME.STATUS).toNat, 0x16] } s.time.ft)

/-- A general alarm that is due fires: FIRED is set, a one-shot is marked as fired, and a periodic one's AT passes FT. With no write of its CTRL waiting for the checker, a write of ALARM.CTRL from the owning partition that newly sets ENABLE joins the checker's queue and changes no register, and any other is taken (its defined bits), with REASON 0 and no other register changed. ENABLE written to an alarm that nothing owns sets REASON RESOURCE_OWNED (0x03) and changes no register but that STATUS. -/
def Obligations.AlarmsFireAndObeyTheirOwner : Prop :=
  (∀ (s : State) (n : Fin 16), alarmDue s n = true → s.flag (TIME.ALARM_CTRL_PERIODIC n) = false →
    ∃ t, exec (.alarmFire n) s = .next t ∧ t.flag (TIME.ALARM_STATUS_FIRED n) = true ∧ n.val ∈ t.time.firedOnce) ∧
  (∀ (s : State) (n : Fin 16), alarmDue s n = true → s.flag (TIME.ALARM_CTRL_PERIODIC n) = true → s.time.ft + alarmPeriod s n < 2 ^ 64 →
    ∃ t, exec (.alarmFire n) s = .next t ∧ t.flag (TIME.ALARM_STATUS_FIRED n) = true ∧ s.time.ft < t.rd64 (TIME.ALARM_AT_LO n)) ∧
  (∀ (s : State) (p : Fin 32) (q : Fin 96) (n : Fin 16) (val : Word), reaches s (.pcie q p) (TIME.ALARM_CTRL n) = true → alarmOwner s n = some (0xA, p.val) →
    checkPending s (TIME.ALARM_CTRL n) = false → val.toNat.testBit 0 = true → s.flag (TIME.ALARM_CTRL_ENABLE n) = false →
    ∃ t, exec (.alarmEnableWrite (.pcie q p) n val) s = .next t ∧ t.img.checks = s.img.checks ++ [.enable ⟨.pcie q p, TIME.ALARM_CTRL n, val⟩] ∧
      t.regs = s.regs ∧ t.time = s.time ∧ t.core = s.core ∧ t.ledger = s.ledger) ∧
  (∀ (s : State) (p : Fin 32) (q : Fin 96) (n : Fin 16) (val : Word), reaches s (.pcie q p) (TIME.ALARM_CTRL n) = true → alarmOwner s n = some (0xA, p.val) →
    checkPending s (TIME.ALARM_CTRL n) = false → (val.toNat.testBit 0 = false ∨ s.flag (TIME.ALARM_CTRL_ENABLE n) = true) →
    ∃ t, exec (.alarmEnableWrite (.pcie q p) n val) s = .next t ∧ t.rd (TIME.ALARM_CTRL n) = val &&& 0x3F03 ∧ t.get (TIME.ALARM_STATUS_REASON n) = 0 ∧
      RegsOutside s t (TIME.ALARM_CTRL n) (TIME.ALARM_STATUS n + 4) ∧ t.core = s.core ∧ t.ledger = s.ledger) ∧
  (∀ (s : State) (path : Path) (n : Fin 16) (val : Word), s.mode ≠ 7 → alarmOwner s n = none → val.toNat.testBit 0 = true →
    ∃ t, exec (.alarmEnableWrite path n val) s = .next t ∧ t.get (TIME.ALARM_STATUS_REASON n) = 3 ∧
      RegsOutside s t (TIME.ALARM_STATUS n) (TIME.ALARM_STATUS n + 4))

/-- With SOURCE 0 outside PARKED: an edge more than 100 µs from every expected second sets PPS_MISS and moves neither the second counted nor FT; an accepted edge, n seconds after the last one, is taken as that second, with none missing; a valid record is kept in TOD_LAST with its stamp, an invalid one of this device's format clears the run of records and sets TOD_BAD; a window that passes without its edge sets PPS_MISS and counts; three seconds without a record put the device back into acquisition. -/
def Obligations.PinsOfTheReference : Prop :=
  (∀ (s : State) (sec at_ : Nat), s.time.src.source = 0 → s.mode ≠ 7 → s.time.edgeSec = some sec → s.time.edgeAt = some at_ →
    usFt 100 < ((s.adv - at_ : Nat) - (roundDiv (s.adv - at_) (2 ^ 32) * 2 ^ 32 : Nat) : Int).natAbs →
    ∃ t, exec .ppsEdge s = .next t ∧ t.flag TIME.STATUS_PPS_MISS = true ∧ t.time.ft = s.time.ft ∧ t.time.edgeSec = s.time.edgeSec ∧
      t.time.anyEdge = some s.adv) ∧
  (∀ (s : State) (sec at_ : Nat), s.time.src.source = 0 → s.mode ≠ 7 → s.time.acq = false → s.time.edgeSec = some sec → s.time.edgeAt = some at_ →
    1 ≤ roundDiv (s.adv - at_) (2 ^ 32) →
    ((s.adv - at_ : Nat) - (roundDiv (s.adv - at_) (2 ^ 32) * 2 ^ 32 : Nat) : Int).natAbs ≤ usFt 100 →
    ∃ t, exec .ppsEdge s = .next t ∧ t.time.edgeSec = some (sec + roundDiv (s.adv - at_) (2 ^ 32)) ∧ t.time.missed = 0) ∧
  (∀ (s : State) (bytes : List Byte), s.time.src.source = 0 → s.mode ≠ 7 → recordValid s bytes = true →
    ∃ t, exec (.todRecord bytes) s = .next t ∧ t.rd TIME.TOD_LAST = BitVec.ofNat 32 (ofLe ((bytes.drop 4).take 4)) ∧ t.time.recAt = some s.adv ∧
      t.time.ft = s.time.ft) ∧
  (∀ (s : State) (bytes : List Byte), s.time.src.source = 0 → s.mode ≠ 7 → recordValid s bytes = false → ofLe ((bytes.drop 2).take 1) = 1 →
    ∃ t, exec (.todRecord bytes) s = .next t ∧ t.flag TIME.STATUS_TOD_BAD = true ∧ t.time.recs = [] ∧ t.rd TIME.TOD_LAST = s.rd TIME.TOD_LAST) ∧
  (∀ (s : State) (at_ : Nat), s.time.src.source = 0 → s.time.edgeAt = some at_ → at_ + (s.time.missed + 1) * 2 ^ 32 + usFt 100 < s.adv →
    ∃ t, exec .ppsEdgeMissed s = .next t ∧ t.flag TIME.STATUS_PPS_MISS = true ∧ t.time.missed = s.time.missed + 1 ∧
      (s.time.missed = 1 → t.time.acq = true)) ∧
  (∀ (s : State) (r : Nat), s.time.src.source = 0 → s.time.acq = false → s.time.recAt = some r → r + 3 * 2 ^ 32 ≤ s.adv →
    ∃ t, exec .todTimeout s = .next t ∧ t.time.acq = true ∧ t.time.recs = [])

/-- A due SYNC_SEND takes the next SYNC number and queues SYNC with it on every active bundle of role fabric data or twin link that is not the upstream one. A SYNC on the upstream bundle opens an exchange and is answered there with DELAY_REQ of the same SEQ; on another bundle it is only counted. A DELAY_REQ is answered on its bundle with DELAY_RESP carrying the FT of its arrival. A matching DELAY_RESP ends the exchange. Loss of SYNC sets MSG_MISS and ends the exchange. Ten seconds of holdover set HOLD_PHASE, with a frequency adjustment of at most 50,000 ppb. -/
def Obligations.TimeOverTheFabric : Prop :=
  (∀ (s : State) (b : Fin 4), ftState s ≠ 0 → s.time.syncAt = none → s.mode ≠ 7 → bundleRole s b [3, 4] = true → upstreamBundle s ≠ some b.val →
    linkActive s b = true →
    ∃ t, exec .syncSend s = .next t ∧ t.time.syncSeq = (s.time.syncSeq + 1) % 2 ^ 16 ∧ t.time.syncAt = some s.adv ∧
      (∃ f, f ∈ (SMap.get (fun _ => {}) t.links b).timeDue ∧ f.kind = 0 ∧ f.seq = t.time.syncSeq) ∧ t.regs = s.regs) ∧
  (∀ (s : State) (b : Fin 4) (f : TimeFlit), f.kind = 0 → s.time.src.source = 1 → upstreamBundle s = some b.val →
    ∃ t, exec (.syncReceive b f) s = .next t ∧ t.time.heardAt = some s.adv ∧
      (∃ g, g ∈ (SMap.get (fun _ => {}) t.links b).timeDue ∧ g.kind = 1 ∧ g.seq = f.seq)) ∧
  (∀ (s : State) (b : Fin 4) (f : TimeFlit), f.kind = 0 → s.time.src.source = 1 → upstreamBundle s ≠ some b.val →
    ∃ t, exec (.syncReceive b f) s = .next t ∧ t = s.count 137 0 1) ∧
  (∀ (s : State) (b : Fin 4) (f : TimeFlit), f.kind = 1 →
    ∃ t, exec (.delayReqReceive b f) s = .next t ∧ t.regs = s.regs ∧ t.time = s.time ∧ t.core = s.core ∧
      (∃ g, (SMap.get (fun _ => {}) t.links b).timeDue = (SMap.get (fun _ => {}) s.links b).timeDue ++ [g] ∧ g.kind = 2 ∧ g.seq = f.seq ∧
        g.tRx = s.time.ft)) ∧
  (∀ (s : State) (b : Fin 4) (f : TimeFlit) (tx eb arr t1 : Nat), f.kind = 2 → s.time.src.source = 1 →
    s.time.sync = some (b.val, f.seq, tx, eb, arr) → s.time.reqTx = some t1 →
    ∃ t, exec (.delayRespReceive b f) s = .next t ∧ t.time.sync = none ∧ t.time.reqTx = none) ∧
  (∀ s : State, s.time.src.source = 1 → upstreamBundle s = none →
    ∃ t, exec .syncLoss s = .next t ∧ t.flag TIME.STATUS_MSG_MISS = true ∧ t.time.sync = none ∧ t.time.good = 0) ∧
  (∀ s : State, ftState s = 1 → s.flag TIME.STATUS_HOLD_PHASE = false → usFt 10000000 ≤ heldFt s →
    ∃ t, exec .timeHoldLong s = .next t ∧ t.flag TIME.STATUS_HOLD_PHASE = true ∧ -50000 ≤ t.time.ppb ∧ t.time.ppb ≤ 50000 ∧ t.time.ft = s.time.ft)

/-! ### PCIe ports (04_pcie_ports.md) -/

/-- A write of PORT[n].CTRL that reaches its register while no write to that port waits for the checker, and that no rule of R140, R142 and R143 refuses: ENABLE on a disabled port joins the checker's queue and changes no register and no packet; clearing ENABLE on a DRAINED port disables it and takes its link down; DRAIN on an ACTIVE port starts a drain with its deadline sampled between 1 µs and 1,000,000 µs; REOPEN on a DRAINING port makes it ACTIVE; RETRAIN of a link that is up puts the link in Recovery and counts it; SHED sets the shed and the collector cause; UNSHED clears the collector cause, and the shed when DPC does not hold it; HOT_RESET on a downstream port sends Hot Reset and takes the link down; PERST_HOLD drives PE_PERST_N low, and its clearing clears the hold. -/
def Obligations.PortCommands : Prop :=
  (∀ (s : State) (path : Path) (n : Fin 96), reaches s path (PORT.CTRL n) = true → portPending s n = false →
    s.flag (PORT.CTRL_ENABLE n) = false → ctrlRefusal s n (strobe s (PORT.CTRL_ENABLE n) 0xC0F) = none →
    ∃ t, exec (.portEnable path n) s = .next t ∧
      t.img.checks = s.img.checks ++ [.enable ⟨path, PORT.CTRL n, strobe s (PORT.CTRL_ENABLE n) 0xC0F⟩] ∧ t.regs = s.regs ∧ t.core = s.core) ∧
  (∀ (s : State) (path : Path) (n : Fin 96), reaches s path (PORT.CTRL n) = true → portPending s n = false →
    s.flag (PORT.CTRL_ENABLE n) = true → s.get (PORT.STATUS_DRAIN_STATE n) = 2 → ctrlRefusal s n (unset s (PORT.CTRL_ENABLE n) 0xC0F) = none →
    ∃ t, exec (.portDisable path n) s = .next t ∧ t.get (PORT.STATUS_DRAIN_STATE n) = 3 ∧ linkUp t n = false ∧ t.flag (PORT.CTRL_ENABLE n) = false) ∧
  (∀ (s : State) (path : Path) (n : Fin 96), reaches s path (PORT.CTRL n) = true → portPending s n = false →
    s.get (PORT.STATUS_DRAIN_STATE n) = 0 → ctrlRefusal s n (strobe s (PORT.CTRL_DRAIN n) 0xC0F) = none →
    ∃ t, exec (.portDrain path n) s = .next t ∧ t.get (PORT.STATUS_DRAIN_STATE n) = 1 ∧
      (t.paux n).drainDl = some (s.adv + usFt (min 1000000 (max 1 (s.get (PORT.DRAIN_DEADLINE_DEADLINE_US n))))) ∧ t.core = s.core ∧
      RegsOutside s t (PORT.CTRL n) (PORT.STATUS n + 4)) ∧
  (∀ (s : State) (path : Path) (n : Fin 96), reaches s path (PORT.CTRL n) = true → portPending s n = false →
    s.get (PORT.STATUS_DRAIN_STATE n) = 1 → ctrlRefusal s n (strobe s (PORT.CTRL_REOPEN n) 0xC0F) = none →
    ∃ t, exec (.portReopen path n) s = .next t ∧ t.get (PORT.STATUS_DRAIN_STATE n) = 0 ∧ (t.paux n).drainDl = none ∧ t.core = s.core ∧
      RegsOutside s t (PORT.CTRL n) (PORT.STATUS n + 4)) ∧
  (∀ (s : State) (path : Path) (n : Fin 96), reaches s path (PORT.CTRL n) = true → portPending s n = false →
    linkUp s n = true → ctrlRefusal s n (strobe s (PORT.CTRL_RETRAIN n) 0xC0F) = none →
    ∃ t, exec (.portRetrain path n) s = .next t ∧ t.get (PORT.STATUS_LTSSM n) = 3 ∧ t.counter n 36 = (s.counter n 36 + 1) % 2 ^ 48 ∧ t.core = s.core ∧
      RegsOutside s t (PORT.CTRL n) (PORT.STATUS n + 4)) ∧
  (∀ (s : State) (path : Path) (n : Fin 96), reaches s path (PORT.CTRL n) = true → portPending s n = false →
    ctrlRefusal s n (strobe s (PORT.CTRL_SHED n) 0xC0F) = none →
    ∃ t, exec (.portShed path n) s = .next t ∧ t.flag (PORT.STATUS_SHED n) = true ∧ (t.paux n).collector = true) ∧
  (∀ (s : State) (path : Path) (n : Fin 96), reaches s path (PORT.CTRL n) = true → portPending s n = false →
    (s.paux n).collector = true → ctrlRefusal s n (strobe s (PORT.CTRL_UNSHED n) 0xC0F) = none →
    ∃ t, exec (.portUnshed path n) s = .next t ∧ (t.paux n).collector = false ∧ (s.flag (PORT.STATUS_DPC n) = false → t.flag (PORT.STATUS_SHED n) = false) ∧
      t.core = s.core ∧ RegsOutside s t (PORT.CTRL n) (PORT.STATUS n + 4)) ∧
  (∀ (s : State) (path : Path) (n : Fin 96), reaches s path (PORT.CTRL n) = true → portPending s n = false →
    s.get (PORT.CFG_ROLE n) = 0 → ctrlRefusal s n (strobe s (PORT.CTRL_HOT_RESET n) 0xC0F) = none →
    ∃ t, exec (.portHotReset path n) s = .next t ∧ Output.hotReset n ∈ t.out ∧ linkUp t n = false) ∧
  (∀ (s : State) (path : Path) (n : Fin 96), reaches s path (PORT.CTRL n) = true → portPending s n = false →
    s.flag (PORT.CTRL_PERST_HOLD n) = false → ctrlRefusal s n (strobe s (PORT.CTRL_PERST_HOLD n) 0xC0F) = none →
    ∃ t, exec (.perstHoldWrite path n true) s = .next t ∧ (t.paux n).perstLow = true) ∧
  (∀ (s : State) (path : Path) (n : Fin 96), reaches s path (PORT.CTRL n) = true → portPending s n = false →
    s.flag (PORT.CTRL_PERST_HOLD n) = true → ctrlRefusal s n (unset s (PORT.CTRL_PERST_HOLD n) 0xC0F) = none →
    ∃ t, exec (.perstHoldWrite path n false) s = .next t ∧ t.flag (PORT.CTRL_PERST_HOLD n) = false ∧ t.core = s.core ∧
      RegsOutside s t (PORT.CTRL n) (PORT.STATUS n + 4))

/-- A write of PORT[n].CTRL that has reached the port, waits behind no other and is refused with a code puts that code in STATUS.REASON; every register but that STATUS and COMMIT_OFFENDER, and so CTRL, the packets and the port's link and drain state stay. -/
def Obligations.RefusedPortWriteChangesNothing : Prop :=
  ∀ (s : State) (path : Path) (n : Fin 96) (val : Word) (code : Nat) (ty : EvType), portPending s n = false →
    ctrlRefusal s n val = some (code, ty) →
    (s.actPortCtrl path n val).get (PORT.STATUS_REASON n) = code % 256 ∧ 
      (∀ o, (o < PORT.STATUS n ∨ PORT.STATUS n + 4 ≤ o) → o ≠ GLB.COMMIT_OFFENDER → (s.actPortCtrl path n val).rd o = s.rd o) ∧
      (s.actPortCtrl path n val).get (PORT.STATUS_DRAIN_STATE n) = s.get (PORT.STATUS_DRAIN_STATE n) ∧
      linkUp (s.actPortCtrl path n val) n = linkUp s n ∧ (s.actPortCtrl path n val).core = s.core

/-- PE_PERST_N is released once every condition of R133 holds. News of a quadrant's REFCLK shows in REFCLK_OK of each of its eight octets. Training that ends at the highest rate and the configured width brings the link up so. Narrower, or slower with lanes that failed equalisation, it sets DEGRADED with the link up and then raises CE of the port's octet. A partner's change of rate and width shows and leaves DEGRADED. L0p shows in STATUS.L0P, and a state of a link that is up in LTSSM. A downstream link lost goes down with SURPRISE_DOWN, then raises UC of its octet; an upstream link lost goes down. Hot Reset on an upstream port takes its link down. A drain with nothing left, or at its deadline, ends DRAINED with no deadline running. DPC, enabled by the host, sheds a downstream port; its clearing lifts the shed when the collector does not hold it. -/
def Obligations.PortEvents : Prop :=
  (∀ (s : State) (n : Fin 96), s.mode ≠ 0 → s.mode ≠ 7 → s.get (PORT.CFG_ROLE n) = 0 → s.get (PORT.CFG2_PERST n) ≠ 0xFF → perstWaited s n = true →
    refclkWaited s (s.get (PORT.CFG_OCTET n)) = true → s.flag (PORT.CTRL_ENABLE n) = true → s.flag (PORT.CTRL_PERST_HOLD n) = false →
    ∃ t, exec (.perstRelease n) s = .next t ∧ t = s.setPaux n { s.paux n with perstLow := false }) ∧
  (∀ (s : State) (q : Fin 4) (ok : Bool), ∃ t, exec (.refclkStable ⟨q, ok⟩) s = .next t ∧ (∀ j : Fin 8, t.flag (LANE.STATUS_REFCLK_OK (8 * q + j)) = ok) ∧
    t.core = s.core ∧ t.ports = s.ports ∧ t.ledger = s.ledger) ∧
  (∀ (s : State) (n : Fin 96) (rate width : Fin 8) (flit : Bool) (eq pol det : BitVec 16) (rev : Bool), linkPermits s n rate width flit = true →
    rate.val = rateCap s n → width.val = s.get (PORT.CFG_WIDTH n) →
    ∃ t, exec (.portLinkUp n rate width flit (.trained eq pol det rev)) s = .next t ∧ linkUp t n = true ∧ t.get (PORT.STATUS_CUR_RATE n) = rate ∧
      t.get (PORT.STATUS_CUR_WIDTH n) = width) ∧
  (∀ (s : State) (n : Fin 96) (rate width : Fin 8) (flit : Bool) (eq pol det : BitVec 16) (rev : Bool), linkPermits s n rate width flit = true →
    ((eq ≠ 0 ∧ rate.val < rateCap s n) ∨ width.val < s.get (PORT.CFG_WIDTH n)) →
    ∃ t u v, exec (.portLinkUp n rate width flit (.trained eq pol det rev)) s = .next t ∧ u.flag (PORT.STATUS_DEGRADED n) = true ∧ linkUp u n = true ∧
      v = ((u.raiseFault (u.get (PORT.CFG_OCTET n)) CE n).portLinkEvent n (linkCode s n) 1 0).presenceOf n ∧
      t = (if v.get (PORT.CFG_ROLE n) = 1 then v.presenceIn (v.get (PORT.CFG_PART n)) else v)) ∧
  (∀ (s : State) (n : Fin 96) (rate width : Fin 8) (flit : Bool), linkUp s n = true → linkPermits s n rate width flit = true →
    s.get (PORT.STATUS_FLIT n) = bit flit →
    ∃ t, exec (.portLinkUp n rate width flit .adapted) s = .next t ∧ linkUp t n = true ∧ t.get (PORT.STATUS_CUR_RATE n) = rate ∧
      t.get (PORT.STATUS_CUR_WIDTH n) = width ∧ t.flag (PORT.STATUS_DEGRADED n) = s.flag (PORT.STATUS_DEGRADED n) ∧ t.core = s.core) ∧
  (∀ (s : State) (n : Fin 96) (rate width : Fin 8) (flit : Bool), linkUp s n = true → s.flag (PORT.STATUS_FLIT n) = true →
    width.val ≤ s.get (PORT.STATUS_CUR_WIDTH n) →
    ∃ t, exec (.portLinkUp n rate width flit .l0p) s = .next t ∧ t.flag (PORT.STATUS_L0P n) = decide (width.val ≠ s.get (PORT.STATUS_CUR_WIDTH n)) ∧
      t.get (PORT.STATUS_CUR_WIDTH n) = s.get (PORT.STATUS_CUR_WIDTH n) ∧ RegsOutside s t (PORT.STATUS n) (PORT.STATUS n + 4) ∧ t.core = s.core) ∧
  (∀ (s : State) (n : Fin 96) (rate width : Fin 8) (flit : Bool) (st : Fin 10), linkUp s n = true → 3 ≤ st.val → st.val ≤ 5 →
    ∃ t, exec (.portLinkUp n rate width flit (.ltssm st)) s = .next t ∧ t.get (PORT.STATUS_LTSSM n) = st ∧ linkUp t n = true ∧
      RegsOutside s t (PORT.STATUS n) (PORT.STATUS n + 4) ∧ t.core = s.core) ∧
  (∀ (s : State) (n : Fin 96), linkUp s n = true → s.get (PORT.CFG_ROLE n) = 0 →
    ∃ t u, exec (.portLinkDown n) s = .next t ∧ linkUp u n = false ∧ u.flag (PORT.STATUS_SURPRISE_DOWN n) = true ∧
      t = u.raiseFault (u.get (PORT.CFG_OCTET n)) UC n) ∧
  (∀ (s : State) (n : Fin 96), linkUp s n = true → s.get (PORT.CFG_ROLE n) ≠ 0 →
    ∃ t, exec (.portLinkDown n) s = .next t ∧ linkUp t n = false) ∧
  (∀ (s : State) (n : Fin 96) (dl : Bool), s.get (PORT.CFG_ROLE n) = 1 → s.mode ≠ 7 →
    ∃ t, exec (.upstreamHotReset n dl) s = .next t ∧ linkUp t n = false) ∧
  (∀ (s : State) (n : Fin 96), s.get (PORT.STATUS_DRAIN_STATE n) = 1 → drained s n = true →
    ∃ t, exec (.drainComplete n) s = .next t ∧ t.get (PORT.STATUS_DRAIN_STATE n) = 2 ∧ (t.paux n).drainDl = none ∧ t.core = s.core ∧
      RegsOutside s t (PORT.STATUS n) (PORT.STATUS n + 4)) ∧
  (∀ (s : State) (n : Fin 96), s.get (PORT.STATUS_DRAIN_STATE n) = 1 → s.due (s.paux n).drainDl = true →
    ∃ t, exec (.drainDeadline n) s = .next t ∧ t.get (PORT.STATUS_DRAIN_STATE n) = 2 ∧ (t.paux n).drainDl = none) ∧
  (∀ (s : State) (n : Fin 96), s.get (PORT.CFG_ROLE n) = 0 → s.mode ≠ 7 → dpcEnabled s n = true →
    ∃ t, exec (.dpcTrigger n) s = .next t ∧ t.flag (PORT.STATUS_DPC n) = true ∧ t.flag (PORT.STATUS_SHED n) = true) ∧
  (∀ (s : State) (n : Fin 96), s.flag (PORT.STATUS_DPC n) = true →
    ∃ t, exec (.dpcClear n) s = .next t ∧ t.flag (PORT.STATUS_DPC n) = false ∧ ((s.paux n).collector = false → t.flag (PORT.STATUS_SHED n) = false) ∧
      t.core = s.core ∧ RegsOutside s t (PORT.STATUS n) (PORT.STATUS n + 4))

/-! ### Slot power channels (16_slot_power.md) -/

/-- On a channel with a SLOT entry, a command that reaches SLOT[n].CTRL: ON sets WANT; OFF clears WANT and, from RAMP, ENHANCE, ON or another of states 3 to 7, ends in OFF with cause COMMAND; CLEAR sets FAULTS to 0 and takes TRIPPED and GATE_FAULT to OFF, or to RAMP where WANT and nothing hold it; KILL_CLEAR on a KILLED, present channel whose output is below 1.0 V ends in OFF with KILL and WANT 0, and at 1.0 V or more only sets REASON OUTPUT_STILL_LIVE (0xA1). On a channel without an entry ON only sets REASON 0xA0. A host write of Power Controller Control sets WANT for On and clears it for Off. -/
def Obligations.SlotCommands : Prop :=
  (∀ (s : State) (path : Path) (n : Fin 16), reaches s path (SLOT.CTRL n) = true → hasChannel s n = true →
    ∃ t, exec (.slotOn path n) s = .next t ∧ t.flag (SLOT.STATUS_WANT n) = true ∧ t.core = s.core ∧ RegsOutside s t (SLOT.STATUS n) (SLOT.STATUS n + 4)) ∧
  (∀ (s : State) (path : Path) (n : Fin 16), reaches s path (SLOT.CTRL n) = true → hasChannel s n = false →
    ∃ t, exec (.slotOn path n) s = .next t ∧ t = s.set (SLOT.STATUS_REASON n) 0xA0) ∧
  (∀ (s : State) (path : Path) (n : Fin 16), reaches s path (SLOT.CTRL n) = true → hasChannel s n = true →
    3 ≤ slotState s n → slotState s n ≤ 7 →
    ∃ t, exec (.slotOff path n) s = .next t ∧ slotState t n = 2 ∧ t.get (SLOT.STATUS_CAUSE n) = 7 ∧ t.flag (SLOT.STATUS_WANT n) = false) ∧
  (∀ (s : State) (path : Path) (n : Fin 16), reaches s path (SLOT.CTRL n) = true → hasChannel s n = true →
    ∃ t, exec (.slotClear path n) s = .next t ∧ t.get (SLOT.STATUS_FAULTS n) = 0 ∧ (t.saux n).faults = 0 ∧
      (slotState s n = 8 ∨ slotState s n = 9 → slotState t n = 2 ∨ slotState t n = 4) ∧ t.core = s.core ∧
      RegsOutside s t (SLOT.STATUS n) (SLOT.STATUS n + 4)) ∧
  (∀ (s : State) (path : Path) (n : Fin 16), reaches s path (SLOT.CTRL n) = true → hasChannel s n = true → slotState s n = 10 →
    s.get (SLOT.MEAS_VOUT n) < 20 → s.flag (SLOT.STATUS_PRESENT n) = true →
    ∃ t, exec (.slotKillClear path n) s = .next t ∧ slotState t n = 2 ∧ t.flag (SLOT.STATUS_KILL n) = false ∧ t.flag (SLOT.STATUS_WANT n) = false ∧
      t.core = s.core ∧ RegsOutside s t (SLOT.STATUS n) (SLOT.STATUS n + 4)) ∧
  (∀ (s : State) (path : Path) (n : Fin 16), reaches s path (SLOT.CTRL n) = true → hasChannel s n = true → slotState s n = 10 →
    20 ≤ s.get (SLOT.MEAS_VOUT n) →
    ∃ t, exec (.slotKillClear path n) s = .next t ∧ t = s.set (SLOT.STATUS_REASON n) 0xA1) ∧
  (∀ (s : State) (n : Fin 96) (c : Nat), s.mode ≠ 0 → s.mode ≠ 7 → channelOf s n = some c →
    ∃ t, exec (.slotPowerControlWrite n false) s = .next t ∧ t.flag (SLOT.STATUS_WANT c) = true) ∧
  (∀ (s : State) (n : Fin 96) (c : Nat), s.mode ≠ 0 → s.mode ≠ 7 → channelOf s n = some c →
    ∃ t, exec (.slotPowerControlWrite n true) s = .next t ∧ t.flag (SLOT.STATUS_WANT c) = false)

/-- A change of the presence pin starts the debounce; a level held 20 ms becomes the debounced one; 500 ms of absence from ABSENT end in EMPTY; the insertion delay and the off time end; a ramp that ends waits for the gate for at most 2 ms, a gate that enhances makes the channel ON with power good, and one that has not 2 ms later ends in GATE_FAULT with the gate off and a UC event of source 45. The output check of a dark output clears CHECKING; a live one KILLS the channel, with a FATAL or UC event of source 45 as LIVE_FATAL says. Sixty seconds ON without limit set FAULTS to 0. A debounced attention latches the port's ATTENTION and Attention Button Pressed, and with Hot-Plug Interrupt Enable clear changes no register and no packet. Measurements show the current and the output voltage measured. VIN_SLOT at its start threshold is recorded. -/
def Obligations.SlotPresenceRampAndChecks : Prop :=
  (∀ (s : State) (n : Fin 16) (present : Bool), (s.saux n).raw ≠ present →
    ∃ t, exec (.slotPresenceChange n present) s = .next t ∧ (t.saux n).raw = present ∧ (t.saux n).rawAt = s.adv ∧ t.core = s.core ∧
      RegsOutside s t (SLOT.STATUS n) (SLOT.STATUS n + 4)) ∧
  (∀ (s : State) (n : Fin 16), hasChannel s n = true → s.mode ≠ 7 → s.pwr.dieLost = false → s.flag (SLOT.STATUS_PRESENT n) ≠ (s.saux n).raw →
    (s.saux n).rawAt + usFt 20000 ≤ s.adv →
    ∃ t, exec (.slotPresenceDebounced n) s = .next t ∧ t.flag (SLOT.STATUS_PRESENT n) = (s.saux n).raw) ∧
  (∀ (s : State) (n : Fin 16) (a : Nat), slotState s n = 11 → (s.saux n).raw = false → (s.saux n).absentAt = some a → a + usFt 500000 ≤ s.adv →
    ∃ t, exec (.slotRemovalWindow n) s = .next t ∧ slotState t n = 0 ∧ t.core = s.core ∧ RegsOutside s t (SLOT.STATUS n) (SLOT.STATUS n + 4)) ∧
  (∀ (s : State) (n : Fin 16), s.due (s.saux n).insertDl = true →
    ∃ t, exec (.slotInsertDelayEnd n) s = .next t ∧ (t.saux n).insertDl = none ∧ t.core = s.core ∧ RegsOutside s t (SLOT.STATUS n) (SLOT.STATUS n + 4)) ∧
  (∀ (s : State) (n : Fin 16), s.due (s.saux n).offDl = true →
    ∃ t, exec (.slotOffTimeEnd n) s = .next t ∧ (t.saux n).offDl = none ∧ t.core = s.core ∧ RegsOutside s t (SLOT.STATUS n) (SLOT.STATUS n + 4)) ∧
  (∀ (s : State) (n : Fin 16), slotState s n = 4 →
    ∃ t, exec (.slotRampEnd n) s = .next t ∧ slotState t n = 5 ∧ (t.saux n).stuckDl = some (s.adv + usFt 2000) ∧ t.core = s.core ∧
      RegsOutside s t (SLOT.STATUS n) (SLOT.STATUS n + 4)) ∧
  (∀ (s : State) (n : Fin 16), slotState s n = 5 →
    ∃ t, exec (.slotGateEnhanced n) s = .next t ∧ slotState t n = 6 ∧ t.flag (SLOT.STATUS_PG n) = true ∧ (t.saux n).onAt = some s.adv ∧ t.core = s.core ∧
      RegsOutside s t (SLOT.STATUS n) (SLOT.STATUS n + 4)) ∧
  (∀ (s : State) (n : Fin 16), slotState s n = 5 → s.due (s.saux n).stuckDl = true →
    ∃ t u, exec (.slotGateStuck n) s = .next t ∧ slotState u n = 9 ∧ u.get (SLOT.STATUS_CAUSE n) = 4 ∧ (u.saux n).gate = false ∧
      t = u.raiseFault 45 UC n) ∧
  (∀ (s : State) (n : Fin 16) (mv : Nat), s.flag (SLOT.STATUS_CHECKING n) = true → s.due (s.saux n).checkDl = true → slotState s n ≠ 12 → mv ≤ 1000 →
    ∃ t, exec (.slotOutputCheck n mv) s = .next t ∧ t.flag (SLOT.STATUS_CHECKING n) = false ∧ (t.saux n).checkDl = none ∧ t.core = s.core ∧
      RegsOutside s t (SLOT.STATUS n) (SLOT.STATUS n + 4)) ∧
  (∀ (s : State) (n : Fin 16) (mv : Nat), s.flag (SLOT.STATUS_CHECKING n) = true → s.due (s.saux n).checkDl = true → slotState s n ≠ 12 → 1000 < mv →
    ∃ t u, exec (.slotOutputCheck n mv) s = .next t ∧ slotState u n = 10 ∧ u.flag (SLOT.STATUS_KILL n) = true ∧
      t = u.raiseFault 45 (if s.flag (SLOT.CFG2_LIVE_FATAL n) then FATAL else UC) n) ∧
  (∀ (s : State) (n : Fin 16) (a : Nat), slotState s n = 6 → s.flag (SLOT.STATUS_IN_LIMIT n) = false → (s.saux n).onAt = some a →
    a + usFt 60000000 ≤ s.adv →
    ∃ t, exec (.slotFaultsAgeOut n) s = .next t ∧ t.get (SLOT.STATUS_FAULTS n) = 0 ∧ (t.saux n).faults = 0 ∧ t.core = s.core ∧
      RegsOutside s t (SLOT.STATUS n) (SLOT.STATUS n + 4)) ∧
  (∀ (s : State) (n : Fin 16) (i : Nat) (level : Bool), attnPin s n = some i → hasChannel s n = true → s.flag (SLOT.CFG2_ATTN n) = true →
    s.get (SLOT.CFG2_PORTID n) < 96 → level = bitOf (s.get PWR.WAKE_CFG_POL) i → s.mode ≠ 7 →
    ∃ t, exec (.slotAttention n level) s = .next t ∧ s.get (SLOT.CFG2_PORTID n) ∈ t.brg.attnPorts ∧
      fieldOf (t.cfgRd (portFn s (s.get (SLOT.CFG2_PORTID n))) (pcieCap 6)) 16 1 = 1 ∧
      ((s.cfgRd (portFn s (s.get (SLOT.CFG2_PORTID n))) (pcieCap 6)).toNat.testBit 5 = false → t.regs = s.regs ∧ t.core = s.core)) ∧
  (∀ (s : State) (n : Fin 16) (iout vout vgate vin : Nat), s.mode ≠ 7 → s.pwr.dieLost = false →
    ∃ t, exec (.slotMeasUpdate n iout vout vgate vin) s = .next t ∧ t.get (SLOT.MEAS_IOUT n) = iout % 2 ^ 14 ∧ t.get (SLOT.MEAS_VOUT n) = vout % 2 ^ 10 ∧
      t.core = s.core ∧ t.ledger = s.ledger) ∧
  (∀ s : State, ∃ t, exec .vinSlotStartThreshold s = .next t ∧ t.pwr.vinOk = true ∧ t.core = s.core)

/-- Entering the limit from RAMP, ENHANCE or ON sets IN_LIMIT. The fault timer at TIMER, a fast trip and a ramp past its deadline each turn the gate off, count FAULTS, leave the channel COOLING while retries are left and TRIPPED otherwise, with the cause of the trip, and raise UC on source 45. VIN_SLOT too high trips the powered channel in the same way with cause VIN_OV (here where one channel is powered). The die link lost takes every channel with an entry to DIE_LOST and raises UC on source 45; restored, no channel is left in DIE_LOST. -/
def Obligations.SlotTripsAndDieLink : Prop :=
  (∀ (s : State) (n : Fin 16), canTrip s n = true → s.flag (SLOT.STATUS_IN_LIMIT n) = false →
    ∃ t, exec (.slotLimitEnter n) s = .next t ∧ t.flag (SLOT.STATUS_IN_LIMIT n) = true ∧ (t.saux n).limitAt = some s.adv ∧ t.core = s.core ∧
      t.ledger = s.ledger) ∧
  (∀ (s : State) (n : Fin 16), canTrip s n = true → s.flag (SLOT.STATUS_IN_LIMIT n) = true → slotTimer s n ≤ faultCount s n →
    ∃ t u, exec (.slotFaultTimer n) s = .next t ∧ slotState u n = (if retriesLeft u n then 7 else 8) ∧ u.get (SLOT.STATUS_CAUSE n) = 1 ∧
      (u.saux n).gate = false ∧ t = u.raiseFault 45 UC n) ∧
  (∀ (s : State) (n : Fin 16), canTrip s n = true →
    ∃ t u, exec (.slotFastTrip n) s = .next t ∧ slotState u n = (if retriesLeft u n then 7 else 8) ∧ u.get (SLOT.STATUS_CAUSE n) = 2 ∧
      (u.saux n).gate = false ∧ t = u.raiseFault 45 UC n) ∧
  (∀ (s : State) (n : Fin 16), slotState s n = 4 → s.due (s.saux n).rampDl = true →
    ∃ t u, exec (.slotRampStall n) s = .next t ∧ slotState u n = (if retriesLeft u n then 7 else 8) ∧ u.get (SLOT.STATUS_CAUSE n) = 3 ∧
      (u.saux n).gate = false ∧ t = u.raiseFault 45 UC n) ∧
  (∀ (s : State) (n : Fin 16), canTrip s n = true → (∀ m : Fin 16, m ≠ n → canTrip s m = false) →
    ∃ t u, exec .slotVinOv s = .next t ∧ slotState u n = (if retriesLeft u n then 7 else 8) ∧ u.get (SLOT.STATUS_CAUSE n) = 8 ∧
      (u.saux n).gate = false ∧ t = u.raiseFault 45 UC n) ∧
  (∀ s : State, s.pwr.dieLost = false → s.mode ≠ 7 →
    ∃ t u, exec .dieLinkLost s = .next t ∧ u.pwr.dieLost = true ∧ (∀ n : Fin 16, hasChannel s n = true → slotState u n = 12) ∧
      t = u.raiseFault 45 UC 0xFFFF) ∧
  (∀ s : State, s.pwr.dieLost = true →
    ∃ t, exec .dieLinkRestored s = .next t ∧ t.pwr.dieLost = false ∧ (∀ n : Fin 16, slotState t n ≠ 12))

/-! ### Power, clocks, reset, fuses and debug (18_power_clocks_reset.md, 20_electrical_package.md) -/

/-- A fault event of a source and class has been latched: its status bit is set and LATCHED has reached the class (R421). -/
def Sys2Proof.latchedAs (t : State) (src cls : Nat) : Prop := t.flag (statusBit src) = true ∧ cls + 1 ≤ t.get (FLT.SRC_STAT_LATCHED src)

/-- COLD_RESET leaves every register word at its reset value, no event, journal entry, packet or image, FT 0, and start-up at its first step; the anti-rollback count and revocations stay. PWROK samples TWIN_SIDE and starts FT at 0. Fuses sensed show the lifecycle. Core release, PLL lock (FT reloads from AON) and SRAM initialisation each take start-up one step on; the last enters COLD_START, WAKE or WARM_RESET at the ledger's GLB source, after a warm reset followed by a TIME_SOURCE event. WARM_RESET, GLB.RESET.WARM with classes 0 and 3, and a brown-out put the core back at step 5 with causes 1, 2 and 6, and leave the fuses; a brown-out loses the events that wait. -/
def Obligations.ResetsAndStartUp : Prop :=
  (∀ s : State, ∃ t, exec .coldReset s = .next t ∧ t.regs = [] ∧ t.ledger = {} ∧ t.jrnl = {} ∧ t.core = {} ∧ t.time = {} ∧ t.img.active = none ∧
    t.pwr.up = 1 ∧ t.fuses.arv = s.fuses.arv ∧ t.fuses.revoked = s.fuses.revoked) ∧
  (∀ (s : State) (side : Bool), s.pwr.up = 1 →
    ∃ t, exec (.pwrokRise side) s = .next t ∧ t.pwr.up = 2 ∧ t.time.ft = 0 ∧ t.time.aon = 0 ∧ t.get TWIN.STATUS_SIDE = bit side ∧
      RegsOutside s t TWIN.STATUS (TWIN.STATUS + 4) ∧ t.core = s.core) ∧
  (∀ s : State, s.pwr.up = 2 →
    ∃ t, exec .fuseSenseDone s = .next t ∧ t.pwr.up = 3 ∧ t.get GUARD.DEBUG_LIFECYCLE = lifecycle s ∧ t.fuses = s.fuses ∧ t.core = s.core) ∧
  (∀ s : State, s.pwr.up = 3 → s.mode ≠ 7 → s.get PWR.STATUS_PARK_STEP = 0 → s.pwr.attempts = 0 →
    ∃ t, exec .coreRelease s = .next t ∧ t.pwr.up = 4 ∧ t.time = s.time ∧ t.core = s.core) ∧
  (∀ s : State, s.pwr.up = 4 →
    ∃ t, exec .corePllLock s = .next t ∧ t.pwr.up = 5 ∧ t.time.ft = s.time.aon ∧ t.regs = s.regs ∧ t.core = s.core) ∧
  (∀ s : State, s.pwr.up = 5 → s.pwr.timedOut = [] → (s.pwr.cold = true ∨ s.pwr.wakeRun = true) →
    ∃ t e, exec .sramInitDone s = .next t ∧ t.pwr.up = 6 ∧ t.srcQ Src.glb = (s.srcQ Src.glb).push e s.time.ft ∧
      e.type = (if s.pwr.cold then EvType.coldStart else EvType.wake) ∧ t.regs = s.regs ∧ t.core = s.core) ∧
  (∀ s : State, s.pwr.up = 5 → s.pwr.timedOut = [] → s.pwr.cold = false → s.pwr.wakeRun = false →
    ∃ t, ∃ u v : State, ∃ e, exec .sramInitDone s = .next t ∧ u.pwr.up = 6 ∧ u.srcQ Src.glb = (s.srcQ Src.glb).push e s.time.ft ∧ e.type = .warmReset ∧
      u.regs = s.regs ∧ u.core = s.core ∧ v = u.timeEvent .timeSource 0 u.time.ft u.time.ft ∧ t = { v with pwr := { v.pwr with timedOut := [] } }) ∧
  (∀ s : State, s.mode ≠ 7 → 3 < s.pwr.up →
    ∃ t, exec .warmReset s = .next t ∧ t.pwr.up = 4 ∧ t.get GLB.RESET_CAUSE = 1 ∧ t.core.pkts = [] ∧ t.fuses = s.fuses ∧ t.rma = {} ∧ t.links = []) ∧
  (∀ (s : State) (path : Path), reaches s path GLB.RESET = true → hasClass s path 0 = true → hasClass s path 3 = true →
    ∃ t, exec (.softWarmReset path) s = .next t ∧ t.pwr.up = 4 ∧ t.get GLB.RESET_CAUSE = 2 ∧ t.core.pkts = [] ∧ t.fuses = s.fuses) ∧
  (∀ s : State, s.mode ≠ 7 → 4 ≤ s.pwr.up →
    ∃ t, exec .brownOut s = .next t ∧ t.pwr.up = 4 ∧ t.get GLB.RESET_CAUSE = 6 ∧ t.ledger.srcs = [] ∧ t.core.pkts = [] ∧ t.fuses = s.fuses)

/-- While the core runs: a supply excursion latches UC on source 44; a stopped crystal latches UC on source 43 and takes the AON back to the RC oscillator; loss of the core PLL latches FATAL on source 52; a thermal threshold latches its class (CE, UC, FATAL by level) on source 53. A crystal detected takes over. -/
def Obligations.SuppliesClocksTemperature : Prop :=
  (∀ (s : State) (r : Fin 4), coreRuns s = true → ∃ t, exec (.supplyExcursion r) s = .next t ∧ latchedAs t 44 UC) ∧
  (∀ s : State, ∃ t, exec .xtalDetect s = .next t ∧ t = { s with pwr := { s.pwr with xtal := true } }) ∧
  (∀ s : State, coreRuns s = true → ∃ t, exec .xtalStop s = .next t ∧ t.pwr.xtal = false ∧ latchedAs t 43 UC) ∧
  (∀ (s : State) (refclk : Bool), coreRuns s = true → ∃ t, exec (.corePllLoss refclk) s = .next t ∧ latchedAs t 52 FATAL) ∧
  (∀ (s : State) (sensor : Fin 8) (level : Fin 3), coreRuns s = true → ∃ t, exec (.thermalThreshold sensor level) s = .next t ∧ latchedAs t 53 level)

/-- A poll 100 µs after the command: a NACK ends the request with REASON 0xC3 and an event of source 44; the word that shows an on request's result ends it with the rail ON. After 5 ms without it the request ends with REASON RAIL_TIMEOUT (0xC2) and the rail in state 3. An alert poll stores the word of each rail served. RAIL.CLEAR, with none pending, asks CLEAR_FAULTS of a rail served and is otherwise refused with PMBUS_CONFIG (0xC4). AVS steps 5 mV toward the target within its limits and waits for the request; AVS_EN set starts AVS where rail 0 is served and the limits lie in 650 to 850 mV; cleared, 750 mV is requested. -/
def Obligations.PmbusAndAvs : Prop :=
  (∀ (s : State) (q : PmReq) (rest : List PmReq) (a : Nat), s.pwr.reqs = q :: rest → s.pwr.sentAt = some a → a + usFt 100 ≤ s.adv → q.why = 0 → q.kind = 1 →
    coreRuns s = true →
    ∃ t, exec (.pmbusPoll none) s = .next t ∧ t.pwr.reqs = rest ∧ t.get PWR.STATUS_REASON = 0xC3 ∧ latchedAs t 44 UC) ∧
  (∀ (s : State) (q : PmReq) (rest : List PmReq) (a : Nat) (w : BitVec 16), s.pwr.reqs = q :: rest → s.pwr.sentAt = some a → a + usFt 100 ≤ s.adv →
    q.why = 0 → q.kind = 1 → q.rail < 4 → pmResult 1 w = true →
    ∃ t, exec (.pmbusPoll (some w)) s = .next t ∧ t.pwr.reqs = rest ∧ t.get (PWR.RAIL_STATUS_STATE q.rail) = 1 ∧
      t.get (PWR.RAIL_STATUS_STATUS_WORD q.rail) = w.toNat ∧ t.core = s.core) ∧
  (∀ (s : State) (q : PmReq) (rest : List PmReq) (a : Nat), s.pwr.reqs = q :: rest → s.pwr.sentAt = some a → a + usFt 5000 ≤ s.adv → q.why = 0 → q.kind = 1 →
    q.rail < 4 →
    ∃ t, exec .pmbusTimeout s = .next t ∧ t.pwr.reqs = rest ∧ t.get (PWR.RAIL_STATUS_STATE q.rail) = 3 ∧ t.get PWR.STATUS_REASON = 0xC2) ∧
  (∀ (s : State) (r : Fin 4) (words : List (Option (BitVec 16))) (w : BitVec 16), 2 ≤ s.pwr.up → s.pwr.alertAt = none → s.flag (PWR.RAIL_CFG_EN r) = true →
    words[r.val]? = some (some w) →
    ∃ t, exec (.pmbusAlertPoll words) s = .next t ∧ t.pwr.alertAt = some s.adv ∧ t.get (PWR.RAIL_STATUS_STATUS_WORD r) = w.toNat) ∧
  (∀ (s : State) (path : Path) (r : Fin 4), reaches s path (PWR.RAIL_STATUS r) = true → clearPending s r = false → s.flag (PWR.RAIL_CFG_EN r) = true →
    ∃ t, exec (.railClear path r) s = .next t ∧ t.pwr.reqs = s.pwr.reqs ++ [{ rail := r, kind := 3 }] ∧ t.core = s.core ∧ t.ledger = s.ledger) ∧
  (∀ (s : State) (path : Path) (r : Fin 4), reaches s path (PWR.RAIL_STATUS r) = true → clearPending s r = false → s.flag (PWR.RAIL_CFG_EN r) = false →
    ∃ t, exec (.railClear path r) s = .next t ∧ t = s.set PWR.STATUS_REASON 0xC4) ∧
  (∀ (s : State) (m : Int), coreRuns s = true → s.flag PWR.CTRL_AVS_EN = true → s.get PWR.STATUS_AVS_STATE = 1 → avsOk s = true → s.pwr.avsAt = none →
    0 < m → s.get PWR.AVS_CFG_MIN_MV + 5 ≤ s.get PWR.AVS_STATUS_MV →
    ∃ t, exec (.avsStep m) s = .next t ∧ t.get PWR.STATUS_AVS_STATE = 2 ∧
      t.pwr.reqs = s.pwr.reqs ++ [{ rail := 0, kind := 2, mv := s.get PWR.AVS_STATUS_MV - 5 }] ∧ t.core = s.core) ∧
  (∀ (s : State) (path : Path), reaches s path PWR.CTRL = true → hasClass s path 0 = true → s.mode ≠ 7 → avsOk s = true → s.flag PWR.CTRL_AVS_EN = false →
    ∃ t, exec (.avsEnWrite path true) s = .next t ∧ t.flag PWR.CTRL_AVS_EN = true ∧ t.get PWR.STATUS_AVS_STATE = 1 ∧ t.core = s.core ∧ t.pwr = s.pwr) ∧
  (∀ (s : State) (path : Path), reaches s path PWR.CTRL = true → hasClass s path 0 = true → s.mode ≠ 7 → s.flag PWR.CTRL_AVS_EN = true →
    s.flag (PWR.RAIL_CFG_EN 0) = true →
    ∃ t, exec (.avsEnWrite path false) s = .next t ∧ t.flag PWR.CTRL_AVS_EN = false ∧ t.pwr.reqs = s.pwr.reqs ++ [{ rail := 0, kind := 2, mv := 750 }] ∧
      t.core = s.core)

/-- A park that nothing refuses starts: step 1, MODE.CHANGING, the mode recorded; one that is refused leaves the step and sets REASON. Step 1 goes to 2, step 2 to 3 once the journal is drained, step 3 to 4 with no drain left, step 5 to 6 once its time is over, and step 6 ends in PARKED once no rail request of the park is left. In PARKED with no rail switched off and no wake under way, a wake pin that is enabled, PWR.CTRL.WAKE over the MSP and RESET_N each bring the core back to step 5 in BARE with LAST 1, 3 and 4; a pin that is not enabled is only latched. The retry timer asks the rails on again. -/
def Obligations.ParkAndWake : Prop :=
  (∀ (s : State) (path : Path), reaches s path PWR.CTRL = true → s.mode ≠ 7 → parkRefusal s path = none →
    ∃ t, exec (.parkRequest path) s = .next t ∧ t.get PWR.STATUS_PARK_STEP = 1 ∧ t.flag GLB.MODE_CHANGING = true ∧ t.pwr.parkMode = s.mode) ∧
  (∀ (s : State) (path : Path) (c : Nat), reaches s path PWR.CTRL = true → s.mode ≠ 7 → parkRefusal s path = some c →
    ∃ t, exec (.parkRequest path) s = .next t ∧ t.get PWR.STATUS_REASON = c % 256 ∧ t.get PWR.STATUS_PARK_STEP = s.get PWR.STATUS_PARK_STEP ∧ t.mode = s.mode) ∧
  (∀ s : State, s.get PWR.STATUS_PARK_STEP = 1 →
    ∃ t, exec .parkSequenceStep s = .next t ∧ t.get PWR.STATUS_PARK_STEP = 2 ∧ RegsOutside s t PWR.STATUS (PWR.STATUS + 4) ∧ t.core = s.core) ∧
  (∀ s : State, s.get PWR.STATUS_PARK_STEP = 2 → journalDrained s = true → ∃ t, exec .parkSequenceStep s = .next t ∧ t.get PWR.STATUS_PARK_STEP = 3) ∧
  (∀ s : State, s.get PWR.STATUS_PARK_STEP = 3 → draining s = false → ∃ t, exec .parkSequenceStep s = .next t ∧ t.get PWR.STATUS_PARK_STEP = 4) ∧
  (∀ s : State, s.get PWR.STATUS_PARK_STEP = 5 → s.due s.pwr.parkDl = true → ∃ t, exec .parkSequenceStep s = .next t ∧ t.get PWR.STATUS_PARK_STEP = 6) ∧
  (∀ s : State, s.get PWR.STATUS_PARK_STEP = 6 → s.pwr.reqs = [] → s.pwr.wakeReq = false →
    ∃ t, exec .parkSequenceStep s = .next t ∧ t.mode = 7 ∧ t.get GLB.MODE_PREVIOUS = s.pwr.parkMode % 8 ∧ t.get PWR.STATUS_PARK_STEP = 0 ∧ t.core = s.core) ∧
  (∀ (s : State) (i : Fin 4), 2 ≤ s.pwr.up → bitOf (s.get PWR.WAKE_CFG_EN) i = false →
    ∃ t, exec (.wakePin i) s = .next t ∧ (t.get PWR.WAKE_STATUS_PIN).testBit i = true ∧ RegsOutside s t PWR.WAKE_STATUS (PWR.WAKE_STATUS + 4) ∧
      t.pwr = s.pwr ∧ t.core = s.core) ∧
  (∀ (s : State) (i : Fin 4), 2 ≤ s.pwr.up → bitOf (s.get PWR.WAKE_CFG_EN) i = true → s.mode = 7 → waking s = false → parkRails s [3, 0, 1, 2] = [] →
    ∃ t, exec (.wakePin i) s = .next t ∧ t.pwr.up = 4 ∧ t.mode = 0 ∧ t.get GLB.RESET_CAUSE = 5 ∧ t.get PWR.WAKE_STATUS_LAST = 1) ∧
  (∀ s : State, s.mode = 7 → waking s = false → parkRails s [3, 0, 1, 2] = [] →
    ∃ t, exec .mspWake s = .next t ∧ t.pwr.up = 4 ∧ t.mode = 0 ∧ t.get GLB.RESET_CAUSE = 5 ∧ t.get PWR.WAKE_STATUS_LAST = 3 ∧ t.flag PWR.WAKE_STATUS_MSP = true) ∧
  (∀ s : State, s.mode = 7 → waking s = false → parkRails s [3, 0, 1, 2] = [] →
    ∃ t, exec .resetNWake s = .next t ∧ t.pwr.up = 4 ∧ t.mode = 0 ∧ t.get GLB.RESET_CAUSE = 5 ∧ t.get PWR.WAKE_STATUS_LAST = 4 ∧ t.flag PWR.WAKE_STATUS_RESET = true) ∧
  (∀ s : State, s.due s.pwr.retryDl = true → parkRails s [3, 0, 1, 2] ≠ [] →
    ∃ t, exec .wakeRetryTimer s = .next t ∧ t.pwr.retryDl = none ∧ t.pwr.reqs.length = s.pwr.reqs.length + (parkRails s [3, 0, 1, 2]).length ∧ t.core = s.core)

/-- A fuse command that reaches PWR.FUSE_CMD and that lifecycle and fuses permit starts (kind 1 PROG_KEY with its slot, 2 SET_PROD, 3 SET_RETURN); one that is not permitted sets REASON FUSE_STATE (0xC5) and starts nothing; FUSE_DATA reads 0 after either. A fuse that reads back blown is blown: PROD and RETURN wait for the next cold reset, the anti-rollback count rises by one, a revoked slot is revoked; one that does not changes no fuse. In RETURN the challenge leaves the part as 48 bytes and is awaited; a response after three failures is locked out with REASON 0xC7, and one without a challenge fails. IDCODE answers 0x1256_8E3D; BYPASS selects the bypass register; SAMPLE/PRELOAD holds the values driven; EXTEST takes the pins, and its exit performs a warm reset with cause 4. -/
def Obligations.FusesUnlockAndTap : Prop :=
  (∀ (s : State) (path : Path), reaches s path PWR.FUSE_CMD = true → fusePermitted s 1 (s.get PWR.FUSE_CMD_SLOT) = true →
    ∃ t, exec (.fuseProgKey path) s = .next t ∧ t.img.fuseOp = some (1, s.get PWR.FUSE_CMD_SLOT) ∧ t.fuses.keyData = fuseData s ∧
      (∀ k : Fin 12, t.rd (PWR.FUSE_DATA k) = 0) ∧ t.core = s.core ∧ t.ledger = s.ledger) ∧
  (∀ (s : State) (path : Path), reaches s path PWR.FUSE_CMD = true → fusePermitted s 1 (s.get PWR.FUSE_CMD_SLOT) = false →
    ∃ t, exec (.fuseProgKey path) s = .next t ∧ t.get PWR.FUSE_STATUS_REASON = 0xC5 ∧ t.img = s.img ∧ t.fuses = s.fuses ∧
      (∀ k : Fin 12, t.rd (PWR.FUSE_DATA k) = 0)) ∧
  (∀ (s : State) (path : Path), reaches s path PWR.FUSE_CMD = true → fusePermitted s 2 (s.get PWR.FUSE_CMD_SLOT) = true →
    ∃ t, exec (.fuseSetProd path) s = .next t ∧ t.img.fuseOp = some (2, s.get PWR.FUSE_CMD_SLOT) ∧ t.core = s.core) ∧
  (∀ (s : State) (path : Path), reaches s path PWR.FUSE_CMD = true → fusePermitted s 3 (s.get PWR.FUSE_CMD_SLOT) = true →
    ∃ t, exec (.fuseSetReturn path) s = .next t ∧ t.img.fuseOp = some (3, s.get PWR.FUSE_CMD_SLOT) ∧ t.core = s.core) ∧
  (∀ (s : State) (a : Nat), s.img.fuseOp = some (2, a) → ∃ t, exec (.fuseReadback true) s = .next t ∧ t.fuses.pendProd = true ∧ t.img.fuseOp = none) ∧
  (∀ (s : State) (a : Nat), s.img.fuseOp = some (3, a) → ∃ t, exec (.fuseReadback true) s = .next t ∧ t.fuses.pendRet = true ∧ t.img.fuseOp = none) ∧
  (∀ (s : State) (a : Nat), s.img.fuseOp = some (4, a) → ∃ t, exec (.fuseReadback true) s = .next t ∧ t.fuses.arv = s.fuses.arv + 1) ∧
  (∀ (s : State) (a : Nat), s.img.fuseOp = some (5, a) → ∃ t, exec (.fuseReadback true) s = .next t ∧ a ∈ t.fuses.revoked ∧ t.img.fuseOp = none) ∧
  (∀ (s : State) (k a : Nat), s.img.fuseOp = some (k, a) → coreRuns s = true →
    ∃ t, exec (.fuseReadback false) s = .next t ∧ t.fuses.arv = s.fuses.arv ∧ t.fuses.revoked = s.fuses.revoked ∧ t.fuses.pendProd = s.fuses.pendProd ∧
      t.fuses.pendRet = s.fuses.pendRet ∧ t.img.fuseOp = none ∧ latchedAs t 51 UC) ∧
  (∀ s : State, lifecycle s = 2 → coreRuns s = true →
    ∃ t n, exec .unlockChallenge s = .next t ∧ t.dbg.nonce = some n ∧ n.length = 32 ∧
      t.out = s.out ++ [.jtag (n ++ (List.range 16).map Config.dieIdentity)] ∧ t.regs = s.regs ∧ t.core = s.core) ∧
  (∀ (s : State) (bytes : List Byte), lifecycle s = 2 → coreRuns s = true → 3 ≤ s.dbg.fails →
    ∃ t, exec (.unlockResponse bytes) s = .next t ∧ t.get PWR.FUSE_STATUS_REASON = 0xC7 ∧ t.flag GUARD.DEBUG_UNLOCKED = s.flag GUARD.DEBUG_UNLOCKED ∧
      t.dbg.fails = s.dbg.fails) ∧
  (∀ (s : State) (bytes : List Byte), lifecycle s = 2 → coreRuns s = true → s.dbg.fails < 3 → s.dbg.nonce = none →
    ∃ t, exec (.unlockResponse bytes) s = .next t ∧ t.dbg.fails = s.dbg.fails + 1 ∧ latchedAs t 51 CE) ∧
  (∀ s : State, ∃ t, exec .jtagIdcode s = .next t ∧ t.out = s.out ++ [.jtag [0x3D, 0x8E, 0x56, 0x12]] ∧ t.regs = s.regs ∧ t.core = s.core ∧ t.dbg.ir = 1) ∧
  (∀ s : State, ∃ t, exec .jtagBypass s = .next t ∧ t = { s with dbg := { s.dbg with ir := 0xFF } }) ∧
  (∀ (s : State) (pins drive : List Bool), ∃ t, exec (.jtagSamplePreload pins drive) s = .next t ∧ t.dbg.drive = drive ∧ t.out.length = s.out.length + 1 ∧
    t.regs = s.regs ∧ t.core = s.core) ∧
  (∀ s : State, ∃ t, exec .jtagExtest s = .next t ∧ t.dbg.extest = true ∧ t.regs = s.regs ∧ t.core = s.core ∧ t.out = s.out) ∧
  (∀ s : State, s.dbg.extest = true → 4 ≤ s.pwr.up → s.mode ≠ 7 →
    ∃ t, exec .extestExit s = .next t ∧ t.dbg.extest = false ∧ t.pwr.up = 4 ∧ t.get GLB.RESET_CAUSE = 4)

/-! ### Image, loader, flash and boot pointer (02_spawn_image.md, 13_live_reconfiguration.md) -/

/-- A write into the flash window that reaches it while no flash operation runs and no page is buffered, at an address not protected, buffers its four bytes with their 256-byte page and programs nothing yet; one for another page than that buffered starts programming the buffered page, with BUSY. A protected one sets REASON SEALED (0x17), counts, and leaves flash, buffer and operations. ERASE, with nothing running, waiting or buffered, starts erasing the 64 KiB half selected. When an erase ends with none waiting, BUSY clears and its block, and it alone, reads 0xFF. The loader after step 6 with no candidate to try enters BARE: mode 0, no active slot, start-up finished; else it tries the first: the image of one that loads starts, after one that fails the rest are tried. -/
def Obligations.FlashAndEmptyLoader : Prop :=
  (∀ (s : State) (path : Path) (o : Fin 32768) (val : Word), reaches s path (0x60000 + 4 * o) = true → s.img.flashOp = none →
    s.img.page = none → flashProtected s (windowAddr s o) = false →
    ∃ t, exec (.flashWindowWrite path o val) s = .next t ∧ t.img.flashOp = none ∧ t.img.flash = s.img.flash ∧ t.core = s.core ∧ t.ledger = s.ledger ∧
      t.img.page = some (windowAddr s o / 256 * 256, (List.range 4).map (fun j => (windowAddr s o % 256 + j, BitVec.ofNat 8 (val.toNat / 256 ^ j))))) ∧
  (∀ (s : State) (path : Path) (o : Fin 32768) (val : Word) (b : Nat) (m : SMap Byte), reaches s path (0x60000 + 4 * o) = true → s.img.flashOp = none →
    s.img.page = some (b, m) → b ≠ windowAddr s o / 256 * 256 → flashProtected s (windowAddr s o) = false →
    ∃ t, exec (.flashWindowWrite path o val) s = .next t ∧ t.img.flashOp = some (.program b m) ∧ t.flag IMG.FLASH_CTRL_BUSY = true ∧
      t.img.flash = s.img.flash ∧ t.core = s.core ∧ t.ledger = s.ledger ∧
      t.img.page = some (windowAddr s o / 256 * 256, (List.range 4).map (fun j => (windowAddr s o % 256 + j, BitVec.ofNat 8 (val.toNat / 256 ^ j))))) ∧
  (∀ (s : State) (path : Path) (o : Fin 32768) (val : Word), reaches s path (0x60000 + 4 * o) = true →
    flashProtected s (windowAddr s o) = true →
    ∃ t, exec (.flashWindowWrite path o val) s = .next t ∧ t.get IMG.STATUS_REASON = 0x17 ∧ t.img = s.img ∧ t.counter 138 1 = (s.counter 138 1 + 1) % 2 ^ 48 ∧
      t.core = s.core) ∧
  (∀ (s : State) (path : Path), reaches s path IMG.FLASH_CTRL = true → s.img.flashOp = none → s.img.flashWait = [] →
    s.img.page = none → flashProtected s (windowAddr s 0 + 0x10000 * s.get IMG.FLASH_CTRL_ERASE_HALF) = false →
    ∃ t, exec (.flashErase path) s = .next t ∧ t.img.flashOp = some (.erase (windowAddr s 0 + 0x10000 * s.get IMG.FLASH_CTRL_ERASE_HALF)) ∧
      t.flag IMG.FLASH_CTRL_BUSY = true ∧ t.core = s.core) ∧
  (∀ (s : State) (a k : Nat), s.img.flashOp = some (.erase a) → s.img.flashWait = [] → k < 0x10000 →
    ∃ t, exec .flashOpDone s = .next t ∧ flashByte t (a + k) = 0xFF ∧ t.img.flashOp = none ∧ t.flag IMG.FLASH_CTRL_BUSY = false ∧ t.core = s.core ∧
      t.ledger = s.ledger ∧ (∀ x, x < a ∨ a + 0x10000 ≤ x → flashByte t x = flashByte s x)) ∧
  (∀ s : State, s.pwr.up = 6 → candidates s = [] →
    ∃ t, exec .loaderRun s = .next t ∧ t.mode = 0 ∧ t.get IMG.STATUS_ACTIVE_SLOT = 3 ∧ t.pwr.up = 8 ∧ t.pwr.wakeRun = false) ∧
  (∀ (s : State) (k : Nat) (ks : List Nat), s.pwr.up = 6 → candidates s = k :: ks →
    ∃ t u v, exec .loaderRun s = .next t ∧ (∀ o, o ≠ IMG.STATUS → u.rd o = s.rd o) ∧ u.get IMG.STATUS_FUSED_ARV = s.fuses.arv % 2 ^ (IMG.STATUS_FUSED_ARV).n ∧
      u.img = s.img ∧ u.fuses = s.fuses ∧ u.core = s.core ∧ t = { v with pwr := { v.pwr with wakeRun := false } } ∧
      v = (match loadOne u k with
        | .ok (i, x) => x.startImage i (u.get GLB.MODE_CURRENT)
        | .error x => x.loadFrom ks))

/-- With a write that reaches IMG.CTRL: STAGE with an EMPTY stage starts VERIFYING; SWITCH of a verified image that nothing refuses is pending at SWITCH_EPOCH; CANCEL of a pending switch-over returns the stage to VERIFIED; ARV_COMMIT starts blowing fuses up to the active image's ARV; REVOKE_OTHER starts revoking the other key slot; BOOTPTR_WRITE leaves the boot pointer region of flash as writing the copy not in use does. With no flash operation running, a verification ends in VERIFIED with the image's class, or in REFUSED with the first failure's reason. At its epoch less its deadline, a reserved port's drain starts and the stage is SWITCHING. A RESET-class switch-over at its epoch, with no commit staged, performs a warm reset with cause 3. -/
def Obligations.ImageCommands : Prop :=
  (∀ (s : State) (path : Path), reaches s path IMG.CTRL = true → s.get IMG.STATUS_STAGE_STATE = 0 →
    ∃ t, exec (.imgStage path) s = .next t ∧ t.get IMG.STATUS_STAGE_STATE = 1 ∧ t.get IMG.STATUS_CLASS = 3 ∧ t.img.staged = none ∧
      (s.img.page = none → RegsOutside s t IMG.STATUS (IMG.STATUS + 4)) ∧ t.core = s.core) ∧
  (∀ s : State, s.get IMG.STATUS_STAGE_STATE = 1 → s.img.flashOp = none →
    ∃ t, exec .imgStageDone s = .next t ∧ t.core = s.core ∧ (match verifySlot s (inactiveSlot s) with
      | .error (_, _, f) => t.get IMG.STATUS_STAGE_STATE = 3 ∧ t.get IMG.STATUS_REASON = f.reason % 256 ∧ t.img.staged = s.img.staged
      | .ok i => t.get IMG.STATUS_STAGE_STATE = 2 ∧ t.get IMG.STATUS_REASON = 0 ∧ t.get IMG.STATUS_CLASS = (classify s i).1 % 4 ∧
          t.img.staged = some (i, classify s i))) ∧
  (∀ (s : State) (path : Path) (i : Image) (cls : Nat) (ports : List Nat), reaches s path IMG.CTRL = true → s.img.staged = some (i, cls, ports) →
    s.get IMG.STATUS_STAGE_STATE = 2 → switchRefusal s i cls ports = none →
    ∃ t, exec (.imgSwitch path) s = .next t ∧ t.get IMG.STATUS_STAGE_STATE = 4 ∧ t.img.switchAt = some (s.rd64 IMG.SWITCH_EPOCH_LO) ∧ t.core = s.core) ∧
  (∀ (s : State) (path : Path), reaches s path IMG.CTRL = true → s.get IMG.STATUS_STAGE_STATE = 4 →
    ∃ t, exec (.imgCancel path) s = .next t ∧ t.get IMG.STATUS_STAGE_STATE = 2 ∧ t.img.switchAt = none) ∧
  (∀ (s : State) (path : Path) (i : Image), reaches s path IMG.CTRL = true → s.img.active = some i → s.fuses.arv < i.arv → s.img.fuseOp = none →
    ∃ t, exec (.arvCommit path) s = .next t ∧ t.img.fuseOp = some (4, i.arv) ∧ t.fuses = s.fuses ∧ t.core = s.core) ∧
  (∀ (s : State) (path : Path) (k : Nat), reaches s path IMG.CTRL = true → revokeTarget s = some k →
    ∃ t, exec (.keyslotRevoke path) s = .next t ∧ t.img.fuseOp = some (5, k) ∧ t.fuses = s.fuses ∧ t.core = s.core) ∧
  (∀ (s : State) (path : Path), reaches s path IMG.CTRL = true →
    ∃ t, exec (.bootptrWrite path) s = .next t ∧ t.img.flash = (s.writeBootPtr (s.get IMG.CTRL_BOOTPTR_SLOT)).img.flash ∧ t.regs = s.regs ∧ t.core = s.core) ∧
  (∀ (s : State) (n : Fin 96) (a e : Nat), s.img.switchAt = some e → (s.paux n).drainAt = some a → a ≤ s.time.ft → s.flag (PORT.CTRL_ENABLE n) = true →
    s.get (PORT.STATUS_DRAIN_STATE n) = 0 → s.flag (PORT.STATUS_SHED n) = false →
    ∃ t, exec (.switchoverDrainStart n) s = .next t ∧ t.get (PORT.STATUS_DRAIN_STATE n) = 1 ∧ t.get IMG.STATUS_STAGE_STATE = 5) ∧
  (∀ (s : State) (i : Image) (e : Nat) (ports : List Nat), s.img.switchAt = some e → s.img.staged = some (i, 2, ports) → e ≤ s.time.ft →
    s.img.switchAfter = none → s.img.commit = none →
    ∃ t, exec .switchoverApply s = .next t ∧ t.pwr.up = 4 ∧ t.get GLB.RESET_CAUSE = 3 ∧ t.core.pkts = [])

/-- MODE_REQUEST while the core runs: one that is refused leaves the mode and the packets and enters MODE_REFUSED with its code at the GLB source; one for PARKED that nothing refuses starts the park: step 1, MODE.CHANGING, the mode recorded. -/
def Obligations.ModeRequests : Prop :=
  (∀ (s : State) (path : Path) (m : Fin 8) (c : Nat), 6 ≤ s.pwr.up → s.mode ≠ 7 → modeRefusal s path m = some c →
    ∃ t, exec (.modeRequest path m) s = .next t ∧ t.mode = s.mode ∧ t.core = s.core ∧
      t.srcQ Src.glb = (s.srcQ Src.glb).push { type := .modeRefused, aux := s.mode, payload := [m.val, c, 0] } s.time.ft) ∧
  (∀ (s : State) (path : Path), 6 ≤ s.pwr.up → s.mode ≠ 7 → modeRefusal s path 7 = none →
    ∃ t, exec (.modeRequest path 7) s = .next t ∧ t.get PWR.STATUS_PARK_STEP = 1 ∧ t.flag GLB.MODE_CHANGING = true ∧ t.pwr.parkMode = s.mode)

/-! ### Registers, the ledger and the journal (01, 15, 16, 19) -/

/-- For every path and every BAR0 offset that holds no register, table, window or counter word, and in every state: a write answers the state it was given; a read that finds nothing of its path waiting answers 0 and changes nothing else. -/
def Obligations.UnlistedOffsetsReadZero : Prop :=
  ∀ (s : State) (path : Path) (off : BitVec 24) (val : Word), occupied off.toNat = false →
    exec (.registerWrite path off val) s = .next s ∧
    (waitingAt s path = none → exec (.rcRead path off) s = .next (s.emit (.readData path off.toNat 0)))

/-- On a path on which no access waits and which the register interface answers: a read, allowed by the view, of a _LO register of the map (fences and windows apart) answers what it shows and latches what its _HI shows, so that a later read of that _HI on the path answers the latched half whatever the register then holds; every other latch stays. Such a read of a one-word register (fences, windows and indirect data words apart) answers what it shows, clears its RC fields and leaves every other register, the latches and the counters. A read that the view does not allow answers 0, counts in counter 35 of the path's page and changes no register. -/
def Obligations.RegisterReads : Prop :=
  (∀ (s : State) (path : Path) (off : BitVec 24) (r q : RegDef) (k j : List Nat), waitingAt s path = none → answers s path off.toNat = true →
    canRead s path off.toNat = true → occupied off.toNat = true → pmcAt off.toNat = none → windowWord s path off.toNat = none →
    regAt off.toNat = some (r, k) → r.half = .lo → inArray off.toNat (BRG.FENCE 0) 0x10 4 2048 = none → pmcAt (off.toNat + 4) = none →
    msixWindow (off.toNat + 4) = false → jrnlWindow (off.toNat + 4) = false → (off.toNat + 4 < 0x60000 ∨ 0x80000 ≤ off.toNat + 4) →
    regAt (off.toNat + 4) = some (q, j) → q.half = .hi →
    ∃ t, exec (.loReadLatch path off) s = .next t ∧ t.out = s.out ++ [.readData path off.toNat (viewWord s path off.toNat)] ∧
      (∀ u : State, u.hiLatch = t.hiLatch → (u.readWord path (off.toNat + 4)).1 = viewWord s path (off.toNat + 4)) ∧
      (∀ p o, latchKey p o ≠ latchKey path off.toNat → latched t p o = latched s p o) ∧ t.core = s.core ∧ t.pending = s.pending) ∧
  (∀ (s : State) (path : Path) (off : BitVec 24) (r : RegDef) (k : List Nat), waitingAt s path = none → answers s path off.toNat = true →
    canRead s path off.toNat = true → occupied off.toNat = true → pmcAt off.toNat = none → windowWord s path off.toNat = none →
    regAt off.toNat = some (r, k) → r.half = .whole → inArray off.toNat (BRG.FENCE 0) 0x10 4 2048 = none → realOff s off.toNat = some off.toNat →
    ∃ t, exec (.rcRead path off) s = .next t ∧ t.out = s.out ++ [.readData path off.toNat (viewWord s path off.toNat)] ∧
      t.rd off.toNat = afterRead r.fields (s.rd off.toNat) ∧ RegsOutside s t off.toNat (off.toNat + 1) ∧ t.core = s.core ∧ t.hiLatch = s.hiLatch ∧
      t.counters = s.counters ∧ t.ledger = s.ledger) ∧
  (∀ (s : State) (path : Path) (off : BitVec 24), waitingAt s path = none → answers s path off.toNat = true → canRead s path off.toNat = false →
    occupied off.toNat = true →
    ∃ t, exec (.rcRead path off) s = .next t ∧ t.out = s.out ++ [.readData path off.toNat 0] ∧ t.regs = s.regs ∧ t.core = s.core ∧
      t.counter (pathPage path) 35 = (s.counter (pathPage path) 35 + 1) % 2 ^ 48)

/-- A write that reaches a register of the LANE blocks that holds no SH field takes effect field by field by the access types of R9, and no other register changes. One that the path may not make is discarded: no register changes, counter 34 of the path's page counts it and PRIV_REFUSED is entered at GLB. One that waitsAt makes wait at a request-driven source joins what waits there. A write that sets the ENABLE of a port, and that no rule of CTRL refuses, joins the checker's queue, changing no register. While 33 requests stand at the checker, the one it serves among them, a write stands in the register interface. The last three leave out TWIN.DECIDE and the ALARM registers, whose commands are others, or say so. -/
def Obligations.RegisterWrites : Prop :=
  (∀ (s : State) (path : Path) (off : BitVec 24) (val : Word) (r : RegDef) (k : List Nat), reaches s path off.toNat = true → 0xE0000 ≤ off.toNat →
    off.toNat < 0xF0000 → ignored off.toNat = false → regAt off.toNat = some (r, k) → shBits r.fields = 0 →
    ∃ t, exec (.registerWrite path off val) s = .next t ∧ t.rd off.toNat = takeWrite s.img.sealed r.fields (s.rd off.toNat) val ∧
      RegsOutside s t off.toNat (off.toNat + 1) ∧ t.core = s.core ∧ t.ledger = s.ledger ∧ t.counters = s.counters ∧ t.out = s.out ∧ FabricKept s t) ∧
  (∀ (s : State) (path : Path) (off : BitVec 24) (val : Word), stalls s = false → waitsAt s path off.toNat = none → 6 ≤ s.pwr.up → s.mode ≠ 7 →
    writeAllowed s path off.toNat = false → ignored off.toNat = false → off.toNat ≠ TWIN.DECIDE → alarmAt off.toNat = none →
    ∃ t, exec (.registerWrite path off val) s = .next t ∧ t.regs = s.regs ∧ t.core = s.core ∧ t.shadow = s.shadow ∧
      t.counter (pathPage path) 34 = (s.counter (pathPage path) 34 + 1) % 2 ^ 48 ∧
      t.srcQ Src.glb = (s.srcQ Src.glb).push { type := .privRefused, aux := off.toNat, payload := [pathCode path, val.toNat] } s.time.ft) ∧
  (∀ (s : State) (path : Path) (off : BitVec 24) (val : Word) (k : Nat), stalls s = false → waitsAt s path off.toNat = some k → ignored off.toNat = false →
    off.toNat ≠ TWIN.DECIDE → alarmAt off.toNat = none →
    ∃ t, exec (.registerWrite path off val) s = .next t ∧ t.regs = s.regs ∧ t.core = s.core ∧
      (t.srcQ k).waiting = (s.srcQ k).waiting ++ [.regWrite path off.toNat val]) ∧
  (∀ (s : State) (path : Path) (n : Fin 96) (val : Word), reaches s path (PORT.CTRL n) = true → s.flag (PORT.CTRL_ENABLE n) = false →
    val.toNat.testBit 0 = true → ctrlRefusal s n val = none →
    ∃ t, exec (.enableBitWrite path (BitVec.ofNat 24 (PORT.CTRL n)) val) s = .next t ∧
      t.img.checks = s.img.checks ++ [.enable ⟨path, PORT.CTRL n, val⟩] ∧ t.regs = s.regs ∧ t.core = s.core) ∧
  (∀ (s : State) (path : Path) (off : BitVec 24) (val : Word), 33 ≤ s.img.checks.length → ignored off.toNat = false → off.toNat ≠ TWIN.DECIDE →
    alarmAt off.toNat = none →
    ∃ t, exec (.enableBitWrite path off val) s = .next t ∧ t.img.stalled = s.img.stalled ++ [⟨path, off.toNat, val⟩] ∧ t.regs = s.regs ∧
      t.core = s.core ∧ t.ledger = s.ledger)

/-- A grant takes the head of the source's queue, gives it the next 48-bit number (never 0), moves the head of the store up, and hands the event to the journal unless it is masked; a second grant in the same core cycle, of any source, does nothing, and neither does one while the journal's input queue holds 256. A coalescing record enters as one EVENTS_COALESCED event once the store has room. The oldest held write, which its path may make, is carried out once its source has a place; with none held, or the source full, nothing happens. A draining generation that no packet of the core and no unsent packet of a replay store holds retires: its DRAINING bit alone clears and the event is entered at GLB. -/
def Obligations.LedgerGrantsAndSources : Prop :=
  (∀ (s : State) (src : Nat) (e : Ev) (es : List Ev), s.ledger.grantedAt ≠ some s.cycle → s.jrnl.queue.length < 256 → (s.srcQ src).queue = e :: es →
    e.first = false →
    ∃ t, exec (.ledgerGrant src) s = .next t ∧ t.ledger.last = nextLedger s.ledger.last ∧ t.ledger.last ≠ 0 ∧
      (t.srcQ src).queue = es ++ (s.srcQ src).store.take 1 ∧ (t.srcQ src).store = (s.srcQ src).store.drop 1 ∧ t.regs = s.regs ∧ t.core = s.core ∧
      t.jrnl.queue = (if masked s e then s.jrnl.queue else s.jrnl.queue ++ [⟨nextLedger s.ledger.last, s.time.ft, s.mode, e⟩]) ∧
      (∀ k, exec (.ledgerGrant k) t = .next t)) ∧
  (∀ (s : State) (src : Nat), 256 ≤ s.jrnl.queue.length → exec (.ledgerGrant src) s = .next s) ∧
  (∀ (s : State) (src : Nat) (c : Coal), (s.srcQ src).store.length < 64 → (s.srcQ src).coal = some c →
    ∃ t, exec (.eventsCoalesced src) s = .next t ∧ (t.srcQ src).coal = none ∧ t.regs = s.regs ∧ t.core = s.core ∧
      ∃ e, e.type = .eventsCoalesced ∧ e.aux = c.count ∧ (t.srcQ src).queue ++ (t.srcQ src).store = (s.srcQ src).queue ++ (s.srcQ src).store ++ [e]) ∧
  (∀ (s : State) (src : Nat) (path : Path) (off : Nat) (val : Word) (rest : List Held), (s.srcQ src).waiting = .regWrite path off val :: rest →
    (s.srcQ src).full = false → 6 ≤ s.pwr.up → s.mode ≠ 7 → writeAllowed s path off = true →
    ∃ t, exec (.sourceWaitRelease src) s = .next t ∧ t = (s.setSrcQ src { s.srcQ src with waiting := rest }).actWrite path off val) ∧
  (∀ (s : State) (src : Nat), ((s.srcQ src).waiting = [] ∨ (s.srcQ src).full = true) → exec (.sourceWaitRelease src) s = .next s) ∧
  (∀ (s : State) (t5 : Fin 5), (s.rd GLB.GEN).toNat.testBit (20 + t5) = true → genHeld s t5 = false →
    ∃ t, exec (.genRetire t5) s = .next t ∧ t.rd GLB.GEN = s.rd GLB.GEN &&& ~~~(1#32 <<< (20 + t5.val)) ∧ RegsOutside s t GLB.GEN (GLB.GEN + 4) ∧
      t.core = s.core ∧ t.srcQ Src.glb = (s.srcQ Src.glb).push
        { type := .genRetired, inst := t5.val, aux := s.rd64 GLB.COMMIT_EPOCH_LO,
          payload := [GLB.COMMIT_STATUS, GLB.COMMIT_OFFENDER, GLB.GEN, GLB.GEN_PREV].map (fun o => (t.rd o).toNat) } s.time.ft)

/-- JOURNAL_WRITE stores the oldest granted event at index WR_INDEX mod 4,096: its 96 bytes followed by the SHA-256 of the hash of the entry before and those bytes; WR_INDEX rises by one and the unit takes no other for 64 core cycles. With the ring full, entry C is discarded first: C and LOST rise by one and GAP is set. GAP_ACK with DRAIN_EN 0 clears GAP and LOST. With DRAIN_EN 0 a write of RD_INDEX within the ring moves C; with DRAIN_EN 1, or outside, it changes nothing. The drain engine writes entry C to the owner's ring: RING_TAIL rises by one, C by one, and a posted write of 128 bytes enters the core. A double-bit error sets ECC_UE and raises a UC event of source 50; a single-bit one ECC_CE and CE. -/
def Obligations.JournalChainAndDrain : Prop :=
  (∀ (s : State) (g : Granted) (gs : List Granted), s.jrnl.queue = g :: gs → s.jrnl.readyAt ≤ s.cycle → (written s + 2 ^ 32 - consumer s) % 2 ^ 32 < 4096 →
    ∃ t, exec .journalWrite s = .next t ∧ t.jrnl.queue = gs ∧ t.jrnl.readyAt = s.cycle + 64 ∧ written t = (written s + 1) % 2 ^ 32 ∧
      ringEntry t (written s) = entryHead g ++ sha256 (chainHash s.jrnl.lastHash ++ entryHead g) ∧
      t.jrnl.lastHash = sha256 (chainHash s.jrnl.lastHash ++ entryHead g) ∧ consumer t = consumer s ∧ t.core = s.core ∧ t.ledger = s.ledger ∧
      RegsOutside s t JRNL.WR_INDEX (JRNL.LAST_HASH 7 + 4)) ∧
  (∀ (s : State) (g : Granted) (gs : List Granted), s.jrnl.queue = g :: gs → s.jrnl.readyAt ≤ s.cycle →
    4096 ≤ (written s + 2 ^ 32 - consumer s) % 2 ^ 32 → s.jrnl.gap = true →
    ∃ t, exec .journalWrite s = .next t ∧ t.jrnl.gap = true ∧ consumer t = (consumer s + 1) % 2 ^ 32 ∧ written t = (written s + 1) % 2 ^ 32 ∧
      (t.rd JRNL.LOST).toNat = min (2 ^ 32 - 1) ((s.rd JRNL.LOST).toNat + 1) ∧ t.jrnl.gapEnd = entryHash s (consumer s) ∧ t.jrnl.gapStart = s.jrnl.gapStart) ∧
  (∀ (s : State) (path : Path), reaches s path JRNL.CTRL = true → s.jrnl.gap = true → s.flag JRNL.CTRL_DRAIN_EN = false →
    ∃ t, exec (.journalGapAck path) s = .next t ∧ t.jrnl.gap = false ∧ t.rd JRNL.LOST = 0 ∧ RegsOutside s t JRNL.LOST (JRNL.LOST + 4) ∧
      t.jrnl.ring = s.jrnl.ring ∧ t.core = s.core ∧ t.ledger = s.ledger) ∧
  (∀ (s : State) (path : Path) (val : Word), reaches s path JRNL.RD_INDEX = true →
    ∃ t, exec (.journalRdIndexWrite path val) s = .next t ∧ t.jrnl.ring = s.jrnl.ring ∧ t.core = s.core ∧ t.ledger = s.ledger ∧
      RegsOutside s t JRNL.RD_INDEX (JRNL.RD_INDEX + 4) ∧
      t.rd JRNL.RD_INDEX = (if s.flag JRNL.CTRL_DRAIN_EN = false ∧ (written s + 2 ^ 32 - val.toNat) % 2 ^ 32 ≤ 4096 then val else s.rd JRNL.RD_INDEX)) ∧
  (∀ (s u : State), s.flag JRNL.CTRL_DRAIN_EN = true → s.jrnl.gap = false → consumer s ≠ written s →
    ((s.rd JRNL.RING_TAIL).toNat + 2 ^ 32 - (s.rd JRNL.RING_HEAD).toNat) % 2 ^ 32 < drainSize s → s.drainOne (delivered s (consumer s)) = (true, u) →
    consumer u = consumer s → u.flag JRNL.CTRL_IRQ_EN = false →
    ∃ t, exec .journalDrainWrite s = .next t ∧ t = u.consumeTo (consumer s + 1) ∧ consumer t = (consumer s + 1) % 2 ^ 32) ∧
  (∀ (s : State) (e : Fin 4096), ∃ t, ∃ u : State, exec (.journalEccError e true) s = .next t ∧ u.flag JRNL.STATUS_ECC_UE = true ∧ e.val ∈ u.jrnl.corrupt ∧
    u.core = s.core ∧ t = u.raiseFault 50 UC 0xFFFF) ∧
  (∀ (s : State) (e : Fin 4096), ∃ t, exec (.journalEccError e false) s = .next t ∧ t = (s.set JRNL.STATUS_ECC_CE 1).raiseFault 50 CE 0xFFFF)

/-! ### Commits, enable bits and the configuration mailbox (02, 07, 08) -/

/-- GO that reaches GLB.COMMIT, with no commit CHECKING or STAGED, on an unpaired device outside SHADOW: STATE becomes CHECKING, the checker's queue gains exactly the shadow as it stands with AT_EPOCH, REVOKE_STRICT, CHECK_ONLY and the epoch, and no register but COMMIT and COMMIT_STATUS changes. While one is CHECKING or STAGED, GO sets LOST, STATE stays and nothing is queued. CANCEL of a STAGED commit leaves STATE CANCELLED and no commit staged; in any other state it changes nothing. -/
def Obligations.CommitGoAndCancel : Prop :=
  (∀ (s : State) (path : Path), reaches s path GLB.COMMIT = true → s.get GLB.COMMIT_STATUS_STATE ≠ 1 → s.get GLB.COMMIT_STATUS_STATE ≠ 2 →
    s.twin.enable = false → s.mode ≠ 5 →
    ∃ t, exec (.commitGo path) s = .next t ∧ t.get GLB.COMMIT_STATUS_STATE = 1 ∧ t.img.checks = s.img.checks ++
        [.commit s.shadow (s.flag GLB.COMMIT_AT_EPOCH) (s.flag GLB.COMMIT_REVOKE_STRICT) (s.flag GLB.COMMIT_CHECK_ONLY) (s.rd64 GLB.COMMIT_EPOCH_LO)] ∧
      RegsOutside s t GLB.COMMIT (GLB.COMMIT_STATUS + 4) ∧ t.shadow = s.shadow ∧ t.core = s.core ∧ t.ledger = s.ledger) ∧
  (∀ (s : State) (path : Path), reaches s path GLB.COMMIT = true → (s.get GLB.COMMIT_STATUS_STATE = 1 ∨ s.get GLB.COMMIT_STATUS_STATE = 2) →
    ∃ t, exec (.commitGo path) s = .next t ∧ t.flag GLB.COMMIT_STATUS_LOST = true ∧ t.get GLB.COMMIT_STATUS_STATE = s.get GLB.COMMIT_STATUS_STATE ∧
      t.img = s.img ∧ t.core = s.core ∧ t.ledger = s.ledger) ∧
  (∀ (s : State) (path : Path) (c : Staged), reaches s path GLB.COMMIT = true → s.get GLB.COMMIT_STATUS_STATE = 2 → s.img.commit = some c → c.pair = false →
    ∃ t, exec (.commitCancel path) s = .next t ∧ t.get GLB.COMMIT_STATUS_STATE = 5 ∧ t.img.commit = none ∧ t.core = s.core ∧ t.shadow = s.shadow ∧
      RegsOutside s t GLB.COMMIT_STATUS (GLB.COMMIT_OFFENDER + 4)) ∧
  (∀ (s : State) (path : Path), reaches s path GLB.COMMIT = true → s.get GLB.COMMIT_STATUS_STATE ≠ 2 → exec (.commitCancel path) s = .next s)

/-- A commit of an unpaired device at the head of the checker's queue, when the commit unit's source has room and no write stands in the register interface: one that no test of R78 refuses is CHECKED when it had CHECK_ONLY without AT_EPOCH, and STAGED when it had AT_EPOCH without CHECK_ONLY; one that a test refuses is REFUSED with that test's REASON and OFFENDER, and shadow, packets and the generation numbers stay. GUARD.STATUS.REASON shows the code of a commit that touches the GUARD block. A result that must wait for its source, and an empty queue, change nothing. A staged commit is applied once FT has reached its epoch, when GEN_BUSY and the busy tests still pass: STATE is APPLIED, nothing stays staged, and each table it changes goes to the next generation number (mod 16). Before its epoch nothing happens. -/
def Obligations.CheckerResultAndCommitApply : Prop :=
  (∀ (s r : State) (rest : List CheckReq) (snap : SMap Word) (strict : Bool) (epoch : Nat), s.img.checks = .commit snap false strict true epoch :: rest →
    r = { s with img := { s.img with checks := rest } } → s.img.stalled = [] → s.twin.sent = none → (s.srcQ Src.commit).full = false →
    commitCheck r snap false epoch = none →
    ∃ t, exec .checkerResult s = .next t ∧ t.get GLB.COMMIT_STATUS_STATE = 6 ∧ t.get GLB.COMMIT_STATUS_REASON = 0 ∧ t.img.checks = rest ∧
      t.shadow = s.shadow ∧ t.core = s.core ∧ t.rd GLB.COMMIT_OFFENDER = 0 ∧
      (∀ o, o < GLB.COMMIT_STATUS ∨ GLB.COMMIT_OFFENDER + 4 ≤ o → o ≠ GUARD.STATUS → t.rd o = s.rd o) ∧
      (touchesGuard (snap.map Prod.fst) = true → t.get GUARD.STATUS_REASON = 0)) ∧
  (∀ (s r : State) (rest : List CheckReq) (snap : SMap Word) (strict : Bool) (epoch : Nat), s.img.checks = .commit snap true strict false epoch :: rest →
    r = { s with img := { s.img with checks := rest } } → s.img.stalled = [] → s.twin.sent = none → (s.srcQ Src.commit).full = false →
    commitCheck r snap true epoch = none →
    ∃ t, exec .checkerResult s = .next t ∧ t.get GLB.COMMIT_STATUS_STATE = 2 ∧ t.img.commit = some ⟨snap, strict, epoch, false⟩ ∧ t.img.checks = rest ∧
      t.core = s.core ∧ t.shadow = s.shadow ∧
      (∀ o, o < GLB.COMMIT_STATUS ∨ GLB.COMMIT_OFFENDER + 4 ≤ o → o ≠ GUARD.STATUS → t.rd o = s.rd o)) ∧
  (∀ (s r : State) (rest : List CheckReq) (snap : SMap Word) (atEpoch strict only : Bool) (epoch : Nat) (f : Fail),
    s.img.checks = .commit snap atEpoch strict only epoch :: rest → r = { s with img := { s.img with checks := rest } } → s.img.stalled = [] →
    s.twin.sent = none → (s.srcQ Src.commit).full = false → commitCheck r snap atEpoch epoch = some f →
    ∃ t, exec .checkerResult s = .next t ∧ t.get GLB.COMMIT_STATUS_STATE = 4 ∧ t.get GLB.COMMIT_STATUS_REASON = f.reason % 256 ∧
      (t.rd GLB.COMMIT_OFFENDER).toNat = f.offender % 2 ^ 32 ∧ t.shadow = s.shadow ∧ t.core = s.core ∧ t.rd GLB.GEN = s.rd GLB.GEN ∧
      t.img.commit = s.img.commit ∧ (touchesGuard (snap.map Prod.fst) = true → t.get GUARD.STATUS_REASON = f.reason % 256)) ∧
  (∀ (s : State) (c : CheckReq) (rest : List CheckReq), s.img.checks = c :: rest → resultWaits s c = true → exec .checkerResult s = .next s) ∧
  (∀ s : State, s.img.checks = [] → exec .checkerResult s = .next s) ∧
  (∀ (s : State) (c : Staged), s.img.commit = some c → c.epoch ≤ s.time.ft →
    genBusy { s with img := { s.img with commit := none } } c.snap = none →
    busyTests { s with img := { s.img with commit := none } } (appliedRd { s with img := { s.img with commit := none } } c.snap) = none →
    ∃ t, exec .commitApply s = .next t ∧ t.get GLB.COMMIT_STATUS_STATE = 3 ∧ t.get GLB.COMMIT_STATUS_REASON = 0 ∧ t.img.commit = none ∧
      ∀ k ∈ changedTables s c.snap, genCur t k = (genCur s k + 1) % 16) ∧
  (∀ (s : State) (c : Staged), s.img.commit = some c → s.time.ft < c.epoch → exec .commitApply s = .next s)

/-- GO that reaches PART.CFG_CTRL while not BUSY: with a PORTID of 112 to 115, 120 or 121 RESULT is 5 and REASON, and that of PART.STATUS, is 0x01; with a reserved PortID REASON is 0x02; with TYPE 0 a read answers at once, RESULT 0 and the port function's dword in CFG_DATA; with TYPE 1, and a target port that takes requests, BUSY is set and a 50 ms deadline runs. While BUSY, the completion of a request that has left the core clears BUSY, sets RESULT from its status and, for a read that succeeded, CFG_DATA; after 50 ms without one BUSY clears with RESULT 4 and no record of the request stays. -/
def Obligations.ConfigurationMailbox : Prop :=
  (∀ (s : State) (path : Path), reaches s path PART.CFG_CTRL = true → s.flag PART.CFG_CTRL_BUSY = false → 96 ≤ s.get PART.CFG_CTRL_PORTID →
    reservedPort (s.get PART.CFG_CTRL_PORTID) = false →
    ∃ t, exec (.mailboxGo path) s = .next t ∧ t.get PART.CFG_CTRL_RESULT = 5 ∧ t.get PART.CFG_CTRL_REASON = 1 ∧ t.flag PART.CFG_CTRL_BUSY = false ∧
      t.get PART.STATUS_REASON = 1 ∧ (∀ o, o ≠ PART.CFG_CTRL → o ≠ PART.STATUS → t.rd o = s.rd o) ∧ t.core = s.core ∧ t.cfg = s.cfg) ∧
  (∀ (s : State) (path : Path), reaches s path PART.CFG_CTRL = true → s.flag PART.CFG_CTRL_BUSY = false → reservedPort (s.get PART.CFG_CTRL_PORTID) = true →
    ∃ t, exec (.mailboxGo path) s = .next t ∧ t.get PART.CFG_CTRL_REASON = 2 ∧ t.flag PART.CFG_CTRL_BUSY = false ∧
      RegsOutside s t PART.CFG_CTRL (PART.CFG_CTRL + 4) ∧ t.core = s.core ∧ t.cfg = s.cfg) ∧
  (∀ (s : State) (path : Path) (n : Fin 96), reaches s path PART.CFG_CTRL = true → s.flag PART.CFG_CTRL_BUSY = false → s.get PART.CFG_CTRL_PORTID = n →
    s.get (PORT.CFG_ROLE n) = 0 → s.flag (PORT.CFG_SHARED n) = true → s.flag PART.CFG_CTRL_TYPE = false → s.flag PART.CFG_CTRL_WRITE = false →
    ∃ t, exec (.mailboxGo path) s = .next t ∧ t.get PART.CFG_CTRL_RESULT = 0 ∧ t.get PART.CFG_CTRL_REASON = 0 ∧ t.flag PART.CFG_CTRL_BUSY = false ∧
      t.core = s.core ∧ t.cfg = s.cfg ∧ t.rd PART.CFG_DATA = s.cfgRead (1056 + n) (s.get PART.CFG_ADDR_DWORD)) ∧
  (∀ (s : State) (path : Path) (n : Fin 96), reaches s path PART.CFG_CTRL = true → s.flag PART.CFG_CTRL_BUSY = false → s.get PART.CFG_CTRL_PORTID = n →
    s.get (PORT.CFG_ROLE n) = 0 → s.flag (PORT.CFG_SHARED n) = true → s.flag PART.CFG_CTRL_TYPE = true → targetRefusal s n = none →
    ∃ t, exec (.mailboxGo path) s = .next t ∧ t.flag PART.CFG_CTRL_BUSY = true ∧ t.part.mailDl = some (s.adv + usFt 50000)) ∧
  (∀ (s : State) (status : Fin 8) (data : Word), s.flag PART.CFG_CTRL_BUSY = true → readQueued s .mailbox = false →
    ∃ t, exec (.mailboxCompletion status data) s = .next t ∧ t.flag PART.CFG_CTRL_BUSY = false ∧ t.get PART.CFG_CTRL_RESULT = mailResult status ∧
      t.rd PART.CFG_DATA = (if status.val = 0 ∧ s.flag PART.CFG_CTRL_WRITE = false then data else s.rd PART.CFG_DATA) ∧ t.part.mailDl = none ∧
      (∀ r ∈ t.core.out, r.origin ≠ .mailbox) ∧ t.core.pkts = s.core.pkts) ∧
  (∀ s : State, s.flag PART.CFG_CTRL_BUSY = true → s.due s.part.mailDl = true →
    ∃ t, exec .mailboxTimeout s = .next t ∧ t.flag PART.CFG_CTRL_BUSY = false ∧ t.get PART.CFG_CTRL_RESULT = 4 ∧ t.part.mailDl = none ∧
      (∀ r ∈ t.core.out, r.origin ≠ .mailbox))

/-! ### The switch core, the scheduler and the guard (05, 06, 07) -/

/-- A TLP for which the partner has credits, entering a port whose link is up while the core forwards. One whose payload exceeds the port's Max Payload Size, or whose tag its link cannot carry, counts in counters 0 and 22 and enters no queue; at a port that is not shared no register changes. A memory read or write of a port that is not shared, which the guard allows without a debug pass and its partition's decode leads to port d, which takes traffic, counts in counter 0 and enters the core toward d as it came, under d's insertion serial; a message to the Root Complex from such a downstream port goes toward its partition's upstream port. A memory write the guard refuses enters toward no port and, with the record taken, only the guard's count of refusals rises. A completion of a request the switch has ended counts in counter 21 and enters no queue; one of a member's request under an older insertion serial counts in 24, and the last one ends the record of its request. -/
def Obligations.TlpIngress : Prop :=
  (∀ (s : State) (n : Fin 96) (m : Tlp), linkUp s n = true → coreForwards s = true → creditFor s n m = true →
    ((s.paux n).mps < m.data.length ∨ tagTooWide s n m = true) → s.flag (PORT.CFG_SHARED n) = false →
    ∃ t, exec (.tlpIngress n m) s = .next t ∧ t.counter n 22 = (s.counter n 22 + 1) % 2 ^ 48 ∧ t.counter n 0 = (s.counter n 0 + 1) % 2 ^ 48 ∧
      t.core = s.core ∧ t.regs = s.regs ∧ t.out = s.out ∧ FabricKept s t) ∧
  (∀ (s : State) (n : Fin 96) (m : Tlp), linkUp s n = true → coreForwards s = true → creditFor s n m = true →
    ((s.paux n).mps < m.data.length ∨ tagTooWide s n m = true) → s.flag (PORT.CFG_SHARED n) = true → s.get (PORT.CFG_ROLE n) = 0 →
    ∃ t, ∃ u : State, exec (.tlpIngress n m) s = .next t ∧ u.counter n 22 = (s.counter n 22 + 1) % 2 ^ 48 ∧
      u.counter n 0 = (s.counter n 0 + 1) % 2 ^ 48 ∧ u.core = s.core ∧ u.regs = s.regs ∧ u.out = s.out ∧
      t = u.raiseFault (u.get (PORT.CFG_OCTET n)) UC n) ∧
  (∀ (s : State) (n d : Fin 96) (m : Tlp) (lock : Bool), linkUp s n = true → coreForwards s = true → creditFor s n m = true →
    m.data.length ≤ (s.paux n).mps → tagTooWide s n m = false → s.mode ≠ 5 →
    s.get (PORT.STATUS_DRAIN_STATE n) = 0 → s.flag (PORT.CFG_SHARED n) = false → (m.kind = .memRd ∨ m.kind = .memWr) →
    hitFor s n ⟨s.get (PORT.CFG_PART n), m, .port n, false⟩ = .port d → multicastAt s (s.get (PORT.CFG_PART n)) n m.addr = .none_ →
    guardVerdict s n (colourOf s n m.rid) (needOf m) (rangeOf m).1 (rangeOf m).2 = (.allow lock, 0) → targetRefusal s d = none → Shaped s →
    ∃ t, exec (.tlpIngress n m) s = .next t ∧ t.counter n 0 = (s.counter n 0 + 1) % 2 ^ 48 ∧
      ∃ p ∈ t.core.pkts, p.id = s.core.nextId ∧ p.body = .tlp m ∧ p.ingress = n ∧ p.egress = d ∧ p.serial = serialOf s d ∧ p.tc = m.tc ∧
        p.lockPass = lock) ∧
  (∀ (s : State) (n : Fin 96) (m : Tlp), linkUp s n = true → coreForwards s = true → creditFor s n m = true →
    m.data.length ≤ (s.paux n).mps → tagTooWide s n m = false → s.mode ≠ 5 →
    s.get (PORT.STATUS_DRAIN_STATE n) = 0 → s.flag (PORT.CFG_SHARED n) = false → m.kind = .msg → m.msgRoute = 0 →
    s.get (PORT.CFG_ROLE n) = 0 → Shaped s → upstreamOf s (s.get (PORT.CFG_PART n)) < 96 →
    targetRefusal s (upstreamOf s (s.get (PORT.CFG_PART n))) = none →
    ∃ t, exec (.tlpIngress n m) s = .next t ∧
      ∃ p ∈ t.core.pkts, p.id = s.core.nextId ∧ p.body = .tlp m ∧ p.ingress = n ∧ p.egress = upstreamOf s (s.get (PORT.CFG_PART n))) ∧
  (∀ (s : State) (n : Fin 96) (m : Tlp) (cause : Nat), linkUp s n = true → coreForwards s = true → creditFor s n m = true →
    m.data.length ≤ (s.paux n).mps → tagTooWide s n m = false → s.mode ≠ 5 →
    s.get (PORT.STATUS_DRAIN_STATE n) = 0 → s.flag (PORT.CFG_SHARED n) = false → m.kind = .memWr → m.ide = false →
    hitFor s n ⟨s.get (PORT.CFG_PART n), m, .port n, false⟩ ≠ .mgmt → s.flag (GUARD.UNIT_REC_INFO_VALID n) = true →
    guardVerdict s n (colourOf s n m.rid) .write (rangeOf m).1 (rangeOf m).2 = (.refuse cause, 0) → Shaped s →
    ∃ t, exec (.tlpIngress n m) s = .next t ∧ t.core = s.core ∧ t.out = s.out ∧
      (t.rd (GUARD.UNIT_REC_COUNT n)).toNat = min (2 ^ 32 - 1) ((s.rd (GUARD.UNIT_REC_COUNT n)).toNat + 1) ∧
      RegsOutside s t (GUARD.UNIT_REC_COUNT n) (GUARD.UNIT_REC_COUNT n + 4)) ∧
  (∀ (s : State) (n : Fin 96) (m : Tlp) (e : EndedRec), linkUp s n = true → coreForwards s = true → creditFor s n m = true →
    m.data.length ≤ (s.paux n).mps → tagTooWide s n m = false → s.mode ≠ 5 →
    m.kind = .cpl → npOf s n m = none → endedFor s n m = some e →
    ∃ t, exec (.tlpIngress n m) s = .next t ∧ t.counter n 21 = (s.counter n 21 + 1) % 2 ^ 48 ∧ t.core.pkts = s.core.pkts ∧ t.out = s.out ∧
      t.regs = s.regs) ∧
  (∀ (s : State) (n : Fin 96) (m : Tlp) (r : NpRec), linkUp s n = true → coreForwards s = true → creditFor s n m = true →
    m.data.length ≤ (s.paux n).mps → tagTooWide s n m = false → s.mode ≠ 5 →
    m.kind = .cpl → npOf s n m = some r → r.serial ≠ serialOf s n → (∃ k, r.origin = .port k) →
    ∃ t, exec (.tlpIngress n m) s = .next t ∧ t.counter n 24 = (s.counter n 24 + 1) % 2 ^ 48 ∧ t.core.pkts = s.core.pkts ∧ t.out = s.out ∧ t.regs = s.regs ∧
      (cplLast m = false → t.core.out = s.core.out) ∧
      (cplLast m = true → ∀ x ∈ t.core.out, ¬ (x.port = r.port ∧ x.rid = r.rid ∧ x.tag = r.tag)))

/-- A head that no rule of order holds back, whose subscriber is eligible and off the wheel, leaves its pre-queue for its VOQ, a multicast write for the hold, and E becomes max(E, FT − BURST/RATE) + Lc/RATE; one held back stays. A due wheel entry releases its subscriber's head and leaves the wheel; with more due than the four of a core cycle, WHEEL_LATE is set. A packet in the hold that nothing holds back and that is no multicast write enters its VOQ. With no packet waiting for a tag entry, the crossbar moves the packet its arbiters choose, toward a port or bundle, to the egress buffer; a command naming another changes nothing. The transmit stage sends the TLP of a member port that its arbiter chooses: it leaves unchanged, once, its packet is gone, and a non-posted one is recorded. One cut through whose cells stop arriving leaves nullified, counts in counter 32 and stays, no longer cut through; one whose LCRC fails, from a link not in Flit Mode, leaves nullified and is gone. A memory write that may not leave ends there, and nothing is sent. -/
def Obligations.QueuesGrantAndTransmit : Prop :=
  (∀ (s : State) (i : Fin 4096) (p : Pkt), s.sched.wheel.any (fun x => x.2 = i.val) = false → eligOf s i ≤ (s.time.ft : Rat) → subHead s i = some p →
    heldBack s p = false → (p.members = [] ∨ p.group.isSome = true) → p.need = none → (subShape s i).1 ≠ 0 →
    ∃ t, exec (.subscriberHeadRelease i) s = .next t ∧
      (∃ q ∈ t.core.pkts, q.id = p.id ∧ q.place = (if p.members = [] then .voq else .hold) ∧ q.body = p.body) ∧
      (∀ q ∈ t.core.pkts, q.id = p.id → q.place ≠ .pre) ∧
      eligOf t i = max (eligOf s i) ((s.time.ft : Rat) - (((subShape s i).2 * 2 ^ 32 : Nat) : Rat) / (((subShape s i).1 : Nat) : Rat)) +
        (((pktLen p + overheadOf s p.ingress) * 2 ^ 32 : Nat) : Rat) / (((subShape s i).1 : Nat) : Rat)) ∧
  (∀ (s : State) (i : Fin 4096) (p : Pkt), subHead s i = some p → heldBack s p = true → exec (.subscriberHeadRelease i) s = .next s) ∧
  (∀ (s : State) (at_ i : Nat) (p : Pkt), s.sched.wheel = [(at_, i)] → at_ ≤ s.time.ft → s.sched.released.1 ≠ s.cycle → subHead s i = some p →
    heldBack s p = false → p.members = [] → p.need = none →
    ∃ t, exec .wheelSlotRelease s = .next t ∧ (∃ q ∈ t.core.pkts, q.id = p.id ∧ q.place = .voq ∧ q.body = p.body) ∧
      (∀ q ∈ t.core.pkts, q.id = p.id → q.place ≠ .pre) ∧ (at_, i) ∉ t.sched.wheel) ∧
  (∀ s : State, s.sched.released.1 ≠ s.cycle → (∀ p ∈ s.core.pkts, p.need = none) → 4 < (s.sched.wheel.filter (fun x => x.1 ≤ s.time.ft)).length →
    ∃ t, exec .wheelSlotRelease s = .next t ∧ t.flag SCHED.STATUS_WHEEL_LATE = true) ∧
  (∀ (s : State) (k : Nat) (p : Pkt), s.pkt? k = some p → p.place = .hold → p.members = [] → p.group = none → p.need = none → heldBack s p = false →
    ∃ t, exec (.orderedVoqRelease k) s = .next t ∧ (∃ q ∈ t.core.pkts, q.id = p.id ∧ q.place = .voq ∧ q.body = p.body) ∧
      (∀ q ∈ t.core.pkts, q.id = p.id → q.place ≠ .hold)) ∧
  (∀ (s : State) (k turn : Nat) (p : Pkt) (d : SMap Nat), s.pkt? k = some p → coreForwards s = true → portTurn s p.dest = some p.egress →
    crossbarPick s p.egress = some (p, d, turn) → p.dest ≠ 40 → (∀ q ∈ s.core.pkts, atHead q = false) →
    ∃ t, exec (.crossbarGrant k) s = .next t ∧ (∃ q ∈ t.core.pkts, q.id = p.id ∧ q.place = .egress ∧ q.body = p.body ∧ q.egress = p.egress)) ∧
  (∀ (s : State) (k turn : Nat) (p q : Pkt) (d : SMap Nat), s.pkt? k = some p → crossbarPick s p.egress = some (q, d, turn) → q.id ≠ p.id →
    exec (.crossbarGrant k) s = .next s) ∧
  (∀ (s : State) (i : Fin 100) (turn n : Nat) (p : Pkt) (m : Tlp) (d : SMap Nat) (a : Arrival), coreForwards s = true →
    transmitPick s i = some (p, d, turn) → p.body = .tlp m → p.origin = .port n → egressEnd s p = none → (a = .whole ∨ p.cut = false) →
    ∃ t, exec (.egressTransmit ⟨i, a⟩) s = .next t ∧ t.out = s.out ++ [.tlp (egressId i) m] ∧ t.core.pkts = s.core.pkts.filter (fun q => q.id ≠ p.id) ∧
      t.core.out = (if tlpCls m = 1 then s.core.out ++ [sentRecord s (egressId i) p m] else s.core.out) ∧
      t.counter (egressId i) 2 = (s.counter (egressId i) 2 + 1) % 2 ^ 48 ∧ t.regs = s.regs) ∧
  (∀ (s : State) (i : Fin 100) (turn : Nat) (p : Pkt) (m : Tlp) (d : SMap Nat), coreForwards s = true → transmitPick s i = some (p, d, turn) →
    p.body = .tlp m → egressEnd s p = none → p.cut = true →
    ∃ t, exec (.egressTransmit ⟨i, .stopped⟩) s = .next t ∧ t.out = s.out ++ [.nullified i m] ∧ t.counter i 32 = (s.counter i 32 + 1) % 2 ^ 48 ∧
      (∃ q ∈ t.core.pkts, q = { p with cut := false }) ∧ t.regs = s.regs ∧ t.core.out = s.core.out) ∧
  (∀ (s : State) (i : Fin 100) (turn n : Nat) (p : Pkt) (m : Tlp) (d : SMap Nat), coreForwards s = true → transmitPick s i = some (p, d, turn) →
    p.body = .tlp m → p.origin = .port n → egressEnd s p = none → p.cut = true → s.flag (PORT.STATUS_FLIT p.ingress) = false →
    ∃ t, exec (.egressTransmit ⟨i, .lcrc⟩) s = .next t ∧ t.out = s.out ++ [.nullified i m] ∧ t.counter i 32 = (s.counter i 32 + 1) % 2 ^ 48 ∧
      t.core.pkts = s.core.pkts.filter (fun q => q.id ≠ p.id) ∧ t.regs = s.regs ∧ t.core.out = s.core.out) ∧
  (∀ (s : State) (i : Fin 100) (turn n : Nat) (p : Pkt) (m : Tlp) (d : SMap Nat) (path : EndPath) (a : Arrival), coreForwards s = true →
    transmitPick s i = some (p, d, turn) → p.body = .tlp m → p.origin = .port n → m.kind = .memWr → egressEnd s p = some path →
    ∃ t, exec (.egressTransmit ⟨i, a⟩) s = .next t ∧ t.out = s.out ∧ t.core.pkts = s.core.pkts.filter (fun q => q.id ≠ p.id) ∧ t.regs = s.regs)

/-- A multicast packet of the hold that a free copy slot of its group and the staging can take leaves the hold, and every member whose port takes traffic gets a copy in its VOQ. The oldest staged copy of a mirror session, when an owned slot is idle and the analysis port is open or DRAINING, is written as a record: posted writes whose data join to the header and the copied bytes enter the core, SEQ rises by one and the session's drop count restarts; where that port is closed otherwise the copy is dropped and counted; with no copy or no idle slot nothing happens. A write that sets ENABLE of a session, or MC_EN, joins the checker's queue and changes no register or packet; one that clears ENABLE takes effect at once, unless it names a reserved PortID. While the core runs, an error of its memories raises source 36 (CE, or FATAL for a double-bit error, which then ends the packet hit by its header or poisons it), 37 FATAL, 55 UC and 54; while it does not, nothing happens. An error of a guard region raises source 39: UC for a double-bit one without LOCK or in both copies, which loses that region and no other, else CE. One of the scheduler raises source 38 at its instance: CE and no more when single; when double UC, and a gate list opens every class, a subscriber leaves the wheel with E at FT, a sampler restarts. -/
def Obligations.ReplicationMirrorsAndMemoryErrors : Prop :=
  (∀ (s : State) (k g : Nat) (pcie : Bool) (slot : Fin 32) (p : Pkt), s.pkt? k = some p → p.group = some (g, pcie) → mcReady s p = true →
    slotServes s slot g = true → slotBusy s slot = false → stagingFits s p = true →
    ∃ t, exec (.multicastReplicate k slot) s = .next t ∧ (∀ q ∈ t.core.pkts, q.place = .hold → q.id ≠ p.id) ∧
      ∀ e ∈ p.members.zip p.serials, targetRefusal s e.1 = none →
        ∃ q ∈ t.core.pkts, q.copy = 1 ∧ q.egress = e.1 ∧ q.serial = e.2 ∧ q.parent = p.id ∧ q.slot = some slot.val ∧ q.place = .voq) ∧
  (∀ (s : State) (m : Fin 8) (c : MirrorCopy) (rest : List MirrorCopy) (slot : Nat), (s.mirror m).staged = c :: rest →
    (mirrorSlots s m).find? (fun k => !slotBusy s k) = some slot → 0 < (s.paux (s.get (CORE.MIRROR_CTRL_DEST m))).mps →
    (analysisClosed s (s.get (CORE.MIRROR_CTRL_DEST m)) = false ∨ s.get (PORT.STATUS_DRAIN_STATE (s.get (CORE.MIRROR_CTRL_DEST m))) = 1) →
    ∃ t, ∃ ws : List Pkt, exec (.mirrorRecordWrite m) s = .next t ∧ t.mirror m = { s.mirror m with staged := rest, dropped := 0 } ∧
      t.rd (CORE.MIRROR_SEQ m) = s.rd (CORE.MIRROR_SEQ m) + 1 ∧ t.core.pkts = s.core.pkts ++ ws ∧
      (∀ w ∈ ws, w.copy = 2 ∧ w.kind = 0 ∧ w.egress = s.get (CORE.MIRROR_CTRL_DEST m) ∧ w.slot = some slot ∧ w.place = .voq ∧ w.origin = .mirror m) ∧
      ws.flatMap (fun w => match w.body with
        | .tlp u => u.data
        | .tfp _ _ _ => []) = mirrorHeader s m c (s.mirror m).dropped ++ c.bytes.take (s.get (CORE.MIRROR_RING_TRUNC m))) ∧
  (∀ (s : State) (m : Fin 8), ((s.mirror m).staged = [] ∨ (mirrorSlots s m).find? (fun k => !slotBusy s k) = none) →
    exec (.mirrorRecordWrite m) s = .next s) ∧
  (∀ (s : State) (m : Fin 8) (c : MirrorCopy) (rest : List MirrorCopy) (slot : Nat), (s.mirror m).staged = c :: rest →
    (mirrorSlots s m).find? (fun k => !slotBusy s k) = some slot →
    analysisClosed s (s.get (CORE.MIRROR_CTRL_DEST m)) = true → s.get (PORT.STATUS_DRAIN_STATE (s.get (CORE.MIRROR_CTRL_DEST m))) ≠ 1 →
    ∃ t, exec (.mirrorRecordWrite m) s = .next t ∧ (t.mirror m).staged = rest ∧ t.core = { s.core with mirrors := t.core.mirrors } ∧
      (t.mirror m).dropped = min (2 ^ 32 - 1) ((s.mirror m).dropped + 1)) ∧
  (∀ (s : State) (path : Path) (m : Fin 8), reaches s path (CORE.MIRROR_CTRL m) = true → s.flag (CORE.MIRROR_CTRL_ENABLE m) = false →
    ∃ t, exec (.mirrorEnable path m) s = .next t ∧
      t.img.checks = s.img.checks ++ [.enable ⟨path, CORE.MIRROR_CTRL m, strobe s (CORE.MIRROR_CTRL_ENABLE m) 0x3FFFFFFF⟩] ∧ t.regs = s.regs ∧
      t.core = s.core) ∧
  (∀ (s : State) (path : Path) (m : Fin 8), reaches s path (CORE.MIRROR_CTRL m) = true → s.flag (CORE.MIRROR_CTRL_ENABLE m) = true →
    checkPending s (CORE.MIRROR_CTRL m) = false →
    ∃ t, exec (.mirrorDisable path m) s = .next t ∧ t.core = s.core ∧
      (∀ o, o ≠ GLB.COMMIT_OFFENDER → o < CORE.MIRROR_CTRL m ∨ CORE.MIRROR_CTRL m + 0x40 ≤ o → t.rd o = s.rd o) ∧
      (if mirrorNames (withField (s.rd (CORE.MIRROR_CTRL m)) 0 1 0) = true then
         t.rd (CORE.MIRROR_CTRL m) = s.rd (CORE.MIRROR_CTRL m) ∧ t.get (CORE.MIRROR_STATUS_REASON m) = 2
       else t.flag (CORE.MIRROR_CTRL_ENABLE m) = false ∧ t.get (CORE.MIRROR_STATUS_REASON m) = 0)) ∧
  (∀ (s : State) (path : Path), reaches s path CORE.CTRL = true → s.flag CORE.CTRL_MC_EN = false →
    ∃ t, exec (.mcEnSet path) s = .next t ∧ t.img.checks = s.img.checks ++ [.enable ⟨path, CORE.CTRL, strobe s CORE.CTRL_MC_EN 0x3⟩] ∧ t.regs = s.regs ∧
      t.core = s.core) ∧
  (∀ (s : State) (b : Fin 73) (k : Option Nat) (header : Bool), coreRuns s = true →
    ∃ t, exec (.coreEccError b false k header) s = .next t ∧ t = ((s.set CORE.ECC_STATUS_BUFFER b).set CORE.ECC_STATUS_CE 1).raiseFault 36 CE b) ∧
  (∀ (s u : State) (b : Fin 73) (k : Option Nat) (header : Bool), coreRuns s = true →
    u = ((s.set CORE.ECC_STATUS_BUFFER b).set CORE.ECC_STATUS_UE 1).raiseFault 36 FATAL b →
    ∃ t, exec (.coreEccError b true k header) s = .next t ∧
      match k.bind (fun i => u.pkt? i) with
      | none => t = u
      | some p => if header then t = u.endPkt p .ecc (if p.ingress < 96 ∨ (112 ≤ p.ingress ∧ p.ingress ≤ 115) then pageOf p.ingress else 132)
          else (∃ q ∈ t.core.pkts, q = poisoned p) ∧ t.regs = u.regs ∧ t.out = u.out) ∧
  (∀ (s : State) (b : Fin 73) (k : Option Nat) (double header : Bool) (j : Fin 32), coreRuns s = false →
    exec (.coreEccError b double k header) s = .next s ∧ exec .crossbarParityError s = .next s ∧ exec (.replicationStateError j) s = .next s ∧
    exec (.spillSramError j double) s = .next s) ∧
  (∀ s : State, coreRuns s = true → ∃ t, exec .crossbarParityError s = .next t ∧ t = s.raiseFault 37 FATAL 0xFFFF) ∧
  (∀ (s : State) (slot : Fin 32), coreRuns s = true → ∃ t, exec (.replicationStateError slot) s = .next t ∧ t = s.raiseFault 55 UC slot) ∧
  (∀ (s : State) (share : Fin 32) (double : Bool), coreRuns s = true →
    ∃ t, exec (.spillSramError share double) s = .next t ∧ t = s.raiseFault 54 (if double then UC else CE) share) ∧
  (∀ (s : State) (r : Fin 8192) (both : Bool), (s.flag (Region.LOCK r) = false ∨ both = true) →
    ∃ t, ∃ u : State, exec (.guardEccError ⟨r, both⟩ true) s = .next t ∧ (∀ k, k ∈ u.guard.lost ↔ k ∈ s.guard.lost ∨ k = r.val) ∧
      u.flag GUARD.STATUS_ECC_UE = true ∧ u.get GUARD.STATUS_INDEX = r ∧ u.core = s.core ∧ RegsOutside s u GUARD.STATUS (GUARD.STATUS + 4) ∧
      t = u.raiseFault 39 UC 0xFFFF) ∧
  (∀ (s : State) (r : Fin 8192) (double both : Bool), (double = false ∨ (s.flag (Region.LOCK r) = true ∧ both = false)) →
    ∃ t, exec (.guardEccError ⟨r, both⟩ double) s = .next t ∧ t = (s.set GUARD.STATUS_ECC_CE 1).raiseFault 39 CE 0xFFFF) ∧
  (∀ (s u : State) (i : Fin 100), u = (((s.set SCHED.STATUS_ECC_UE 1).raiseFault 38 UC (egressId i)).set (SCHED.PORT_GATE_STATUS_FAULT i) 1) →
    ∃ t, exec (.schedEccError (.gateList i) true) s = .next t ∧ (∀ c, c < 8 → gateOpen u i c = true) ∧ t = u.refreshGate i) ∧
  (∀ (s u : State) (i : Fin 4096), u = (s.set SCHED.STATUS_ECC_UE 1).raiseFault 38 UC i →
    ∃ t, exec (.schedEccError (.subscriber i) true) s = .next t ∧ (∀ x ∈ t.sched.wheel, x.2 ≠ i.val) ∧ eligOf t i = (u.time.ft : Rat) ∧
      t.regs = u.regs ∧ t.core = u.core ∧ t.ledger = u.ledger) ∧
  (∀ (s u : State) (k : Fin 18208), u = (s.set SCHED.STATUS_ECC_UE 1).raiseFault 38 UC (if 14112 ≤ k.val then k.val - 14112 else 0xFFFF) →
    ∃ t, exec (.schedEccError (.sampler k) true) s = .next t ∧ SMap.get (fun _ => ({} : Sampler)) t.sched.samplers k = {} ∧
      t.regs = u.regs ∧ t.core = u.core ∧ t.ledger = u.ledger) ∧
  (∀ (s : State) (what : SchedEcc), exec (.schedEccError what false) s = .next ((s.set SCHED.STATUS_ECC_CE 1).raiseFault 38 CE (match what with
    | .subscriber i => i.val
    | .gateList i => egressId i
    | .sampler k => if 14112 ≤ k.val then k.val - 14112 else 0xFFFF)))

/-- GATE_ENTRY_CHANGE brings OPEN and ENTRY of an egress to the mask and index of the position of its running list, and only that egress's registers change. A waiting list whose first cycle start has come becomes the running one; a removed list whose cycle has ended, with none waiting, runs no more. At a period start with SAMPLE_EN every sampler's depth is taken once, its count rises by one, and the next period start is set; earlier, or with SAMPLE_EN 0, nothing happens. SAMPLE_CLEAR restarts every sampler: bins, counts and peaks are 0, but for the peak depth, which starts from the depth of that cycle (R197); no register changes. -/
def Obligations.GatesAndSamplers : Prop :=
  (∀ (s : State) (i : Fin 100), ∃ t, exec (.gateEntryChange i) s = .next t ∧ t.get (SCHED.PORT_GATE_STATUS_OPEN i) = (gateMask s i).1 % 256 ∧
    t.get (SCHED.PORT_GATE_STATUS_ENTRY i) = (gateMask s i).2 % 256 ∧ RegsOutside s t (SCHED.PORT_CLASS i) (SCHED.PORT_CLASS i + 0x40) ∧
    t.core = s.core ∧ t.sched = s.sched ∧ t.ledger = s.ledger) ∧
  (∀ (s : State) (i : Fin 100) (r : GateRun) (at_ : Nat), (s.gate i).pending = some (r, at_) → at_ ≤ s.time.ft →
    ∃ t, exec (.gateListStart i) s = .next t ∧ t.gate i = { run := some r } ∧ t.flag (SCHED.PORT_GATE_STATUS_RUNNING i) = true ∧
      t.flag (SCHED.PORT_GATE_STATUS_PENDING i) = false ∧ t.core = s.core ∧ RegsOutside s t (SCHED.PORT_CLASS i) (SCHED.PORT_CLASS i + 0x40)) ∧
  (∀ (s : State) (i : Fin 100) (e : Nat), (s.gate i).pending = none → (s.gate i).endAt = some e → e ≤ s.time.ft →
    ∃ t, exec (.gateListStart i) s = .next t ∧ t.gate i = {} ∧ t.flag (SCHED.PORT_GATE_STATUS_RUNNING i) = false ∧ t.core = s.core) ∧
  (∀ s : State, SMap.wf (fun _ => ({} : Sampler)) s.sched.samplers → s.flag SCHED.CTRL_SAMPLE_EN = true → s.sched.nextSample ≤ s.time.ft →
    ∃ t, exec .samplerPeriod s = .next t ∧ t.sched.nextSample = nextPeriod s (s.time.ft + 1) ∧ t.regs = s.regs ∧ t.core = s.core ∧
      ∀ k, k < 18208 → (SMap.get (fun _ => ({} : Sampler)) t.sched.samplers k).samples =
          min (2 ^ 32 - 1) ((SMap.get (fun _ => ({} : Sampler)) s.sched.samplers k).samples + 1) ∧
        (SMap.get (fun _ => ({} : Sampler)) t.sched.samplers k).lastDepth = depthOf s k) ∧
  (∀ s : State, (s.flag SCHED.CTRL_SAMPLE_EN = false ∨ s.time.ft < s.sched.nextSample) → exec .samplerPeriod s = .next s) ∧
  (∀ (s : State) (path : Path), SMap.wf (fun _ => ({} : Sampler)) s.sched.samplers → reaches s path SCHED.CTRL = true →
    ∃ t, exec (.sampleClear path) s = .next t ∧ t.regs = s.regs ∧ t.core = s.core ∧
      ∀ k, k < 18208 → (SMap.get (fun _ => ({} : Sampler)) t.sched.samplers k).samples = 0 ∧
        SMap.get (fun _ => ({} : Sampler)) t.sched.samplers k = clearedSampler (depthOf s k) (SMap.get (fun _ => {}) s.sched.samplers k))

/-- A write of SAMP_SEL that reaches it and selects a sampler below 18,208: in that one step each word of SAMP_DATA holds the word of the record with the FT of the copy; with CLEAR that sampler is a cleared one after the same step (bins, count and peaks 0, the peak depth that of this cycle) and the record copied is the one before it, so nothing falls between; without CLEAR the sampler stays; every other sampler and every register but SAMP_SEL and SAMP_DATA stays. -/
def Obligations.SampSelCopiesAndClears : Prop :=
  ∀ (s : State) (path : Path) (val : Word), Shaped s → reaches s path SCHED.SAMP_SEL = true → fieldOf val SCHED.SAMP_SEL_INDEX.lo SCHED.SAMP_SEL_INDEX.n < 18208 →
    ∃ t, exec (.sampSelWrite path val) s = .next t ∧
      (∀ j, j < 40 → (t.rd (SCHED.SAMP_DATA j)).toNat =
        ((samplerWords (SMap.get (fun _ => {}) s.sched.samplers (t.get SCHED.SAMP_SEL_INDEX)) s.time.ft)[j]?).getD 0 % 2 ^ 32) ∧
      t.get SCHED.SAMP_SEL_INDEX = fieldOf val SCHED.SAMP_SEL_INDEX.lo SCHED.SAMP_SEL_INDEX.n ∧
      SMap.get (fun _ => ({} : Sampler)) t.sched.samplers (t.get SCHED.SAMP_SEL_INDEX) =
        (if val.toNat.testBit SCHED.SAMP_SEL_CLEAR.lo then clearedSampler (depthOf s (t.get SCHED.SAMP_SEL_INDEX)) (SMap.get (fun _ => {}) s.sched.samplers (t.get SCHED.SAMP_SEL_INDEX))
         else SMap.get (fun _ => {}) s.sched.samplers (t.get SCHED.SAMP_SEL_INDEX)) ∧
      (∀ k, k ≠ t.get SCHED.SAMP_SEL_INDEX → SMap.get (fun _ => ({} : Sampler)) t.sched.samplers k = SMap.get (fun _ => {}) s.sched.samplers k) ∧
      (∀ o, o ≠ SCHED.SAMP_SEL → (o < SCHED.SAMP_DATA 0 ∨ SCHED.SAMP_DATA 0 + 160 ≤ o) → t.rd o = s.rd o) ∧ t.core = s.core ∧ t.ledger = s.ledger

/-- At the end of a strict sweep every packet of a request that held the swept guard generation and had not crossed to an egress buffer is gone from the core; STRICT_BUSY is clear and no sweep runs. With no sweep running the command changes nothing. -/
def Obligations.StrictSweepEnds : Prop :=
  (∀ (s : State) (dl g : Nat), s.guard.sweep = some (dl, g) → Shaped s →
    ∃ t, exec .strictSweepEnd s = .next t ∧ t.guard.sweep = none ∧ t.flag GUARD.STATUS_STRICT_BUSY = false ∧
      ∀ p ∈ s.core.pkts, sweeps g p = true → ∀ q ∈ t.core.pkts, q.id ≠ p.id) ∧
  (∀ s : State, s.guard.sweep = none → exec .strictSweepEnd s = .next s)

/-! ### Bundles: the physical layer (09) -/

/-- A write that sets ENABLE joins the checker's queue; served there, one that R248 and the whole state allow puts the PHY in CLOCK with its power domain on, and one R248 refuses shows the reason. Clearing ENABLE takes PHY and link layer OFF; RETRAIN of an enabled bundle that is not OFF goes to IDENT, attempt 1, with no lane failed, an ACTIVE or RESYNC link to RETRAIN. PLL lock in CLOCK sends 32 IDENT frames on every lane, or enters IDENT where the partner's clock is stable; that clock, with the PLL locked, leads to IDENT; its loss while UP to DOWN. In IDENT, before its 10 µs are over, a frame that does not check restarts its lane's count. In COEF a round counts or leads to CHECK; in CHECK one of the first 15 counts and collects the lanes with errors. In CHECK a DONE frame naming the width this side has chosen, and would choose with that frame's map, starts ALIGN at it. 2 ms in an attempt start the next; in the third they lead to DOWN with cause 3. In ALIGN a period after which no lane fails and all are in lock makes the bundle UP and starts its link. In UP at width 16 the period to send leaves on 16 lanes, idle flits where there is none; a received period in which no lane fails goes to the link layer, and a failed lane narrows the bundle. A narrowing whose half is locked ends UP; with no half left, DOWN with cause 2. -/
def Obligations.BundlePhy : Prop :=
  (∀ (s : State) (path : Path) (b : Fin 4), reaches s path (FBL.PHY_CTRL b) = true → s.flag (FBL.PHY_CTRL_ENABLE b) = false →
    ∃ t, exec (.phyEnable path b) s = .next t ∧ t.regs = s.regs ∧ t.core = s.core ∧ t.phys = s.phys ∧
      t.img.checks = s.img.checks ++ [.enable ⟨path, FBL.PHY_CTRL b, strobe s (FBL.PHY_CTRL_ENABLE b) 0xFF1D⟩]) ∧
  (∀ (s r : State) (path : Path) (b : Fin 4) (val : Word) (rest : List CheckReq), s.img.checks = .enable ⟨path, FBL.PHY_CTRL b, val⟩ :: rest →
    s.img.stalled = [] → val.toNat.testBit 0 = true → val.toNat.testBit 1 = false → s.flag (FBL.PHY_CTRL_ENABLE b) = false →
    r = { s with img := { s.img with checks := rest } } → phyRefusal r b = 0 → checkState r (liveRd r) = none →
    ∃ t, exec .checkerResult s = .next t ∧ phyState t b = 1 ∧ t.flag (FBL.PHY_CTRL_ENABLE b) = true ∧ (t.get PWR.DOMAIN_MISC_BUNDLE).testBit b = true ∧
      t.phy b = { coefs := startCoefs } ∧ t.get (FBL.PHY_STATUS_REASON b) = 0 ∧ t.core = s.core ∧ t.links = s.links) ∧
  (∀ (s r : State) (path : Path) (b : Fin 4) (val : Word) (rest : List CheckReq), s.img.checks = .enable ⟨path, FBL.PHY_CTRL b, val⟩ :: rest →
    s.img.stalled = [] → val.toNat.testBit 0 = true → s.flag (FBL.PHY_CTRL_ENABLE b) = false →
    r = { s with img := { s.img with checks := rest } } → phyRefusal r b ≠ 0 →
    ∃ t, exec .checkerResult s = .next t ∧ t.get (FBL.PHY_STATUS_REASON b) = phyRefusal r b ∧
      (∀ o, o ≠ FBL.PHY_STATUS b → o ≠ GLB.COMMIT_OFFENDER → t.rd o = s.rd o) ∧ phyState t b = phyState s b ∧ t.core = s.core ∧ t.links = s.links ∧
      t.phys = s.phys) ∧
  (∀ (s : State) (path : Path) (b : Fin 4), reaches s path (FBL.PHY_CTRL b) = true → s.flag (FBL.PHY_CTRL_ENABLE b) = true →
    checkPending s (FBL.PHY_CTRL b) = false →
    ∃ t, exec (.phyDisable path b) s = .next t ∧ phyState t b = 0 ∧ llState t b = 0 ∧ t.flag (FBL.PHY_CTRL_ENABLE b) = false ∧ t.phy b = {}) ∧
  (∀ (s : State) (path : Path) (b : Fin 4), reaches s path (FBL.PHY_CTRL b) = true → s.flag (FBL.PHY_CTRL_ENABLE b) = true →
    checkPending s (FBL.PHY_CTRL b) = false → phyState s b ≠ 0 →
    ∃ t, exec (.bundleRetrain path b) s = .next t ∧ phyState t b = 2 ∧ t.get (FBL.PHY_STATUS_ATTEMPTS b) = 1 ∧ t.get (FBL.LANE_MAP_FAILED b) = 0 ∧
      ((llState s b = 2 ∨ llState s b = 3) → llState t b = 4)) ∧
  (∀ (s : State) (b : Fin 4), phyState s b = 1 → (s.phy b).pll = false → s.flag (FBL.PHY_STATUS_CLK_OK b) = false →
    ∃ t, exec (.bundlePllLock b) s = .next t ∧ (t.phy b).pll = true ∧ t.out = s.out ++ trainFrames s b 0 (widthOffer s b) 32 ∧ t.regs = s.regs ∧
      t.core = s.core) ∧
  (∀ (s : State) (b : Fin 4), phyState s b = 1 → (s.phy b).pll = false → s.flag (FBL.PHY_STATUS_CLK_OK b) = true →
    ∃ t, exec (.bundlePllLock b) s = .next t ∧ (t.phy b).pll = true ∧ phyState t b = 2 ∧ t.get (FBL.PHY_STATUS_ATTEMPTS b) = 1 ∧ t.core = s.core) ∧
  (∀ (s : State) (b : Fin 4), phyState s b = 1 → (s.phy b).pll = true →
    ∃ t, exec (.partnerClockStable b) s = .next t ∧ phyState t b = 2 ∧ t.flag (FBL.PHY_STATUS_CLK_OK b) = true ∧
      t.get (FBL.PHY_STATUS_ATTEMPTS b) = 1 ∧ t.core = s.core ∧ t.links = s.links) ∧
  (∀ (s : State) (b : Fin 4), phyState s b = 6 →
    ∃ t, exec (.partnerClockLoss b) s = .next t ∧ phyState t b = 8 ∧ t.flag (FBL.PHY_STATUS_CLK_OK b) = false ∧ (t.phy b).clkLost = some s.adv) ∧
  (∀ (s : State) (b : Fin 4) (lane : Fin 16) (f : TrainFrame), f.crcOk = false → phyState s b = 2 → s.adv < (s.phy b).stepAt + usFt 10 →
    ∃ t, exec (.trainingFrameReceive b lane f) s = .next t ∧ framesOf t b lane = (0, 0) ∧ t.regs = s.regs ∧ t.core = s.core) ∧
  (∀ (s : State) (b : Fin 4) (lane : Fin 16) (f : TrainFrame) (v w : Nat) (inv : Bool), f.crcOk = true → frameOf f.bytes = some (v, inv) →
    bitsHiLo v 51 49 = 3 → phyState s b = 4 → (s.phy b).chosen = some w → bitsHiLo v 30 29 = w → w < 3 →
    chooseWidth (s.setPhy b { s.phy b with peerFail := bitsHiLo v 27 12 }) b = some w →
    ∃ t, exec (.trainingFrameReceive b lane f) s = .next t ∧ phyState t b = 5 ∧ t.get (FBL.PHY_STATUS_WIDTH b) = w ∧ t.core = s.core ∧ t.links = s.links) ∧
  (∀ (s : State) (b : Fin 4) (errs : List Nat), phyState s b = 3 →
    ∃ t, exec (.coefRoundEnd b errs) s = .next t ∧ ((phyState t b = 3 ∧ (t.phy b).rounds = (s.phy b).rounds + 1) ∨ phyState t b = 4) ∧
      RegsOutside s t (FBL.PHY_STATUS b) (FBL.PHY_STATUS b + 4) ∧ t.core = s.core) ∧
  (∀ (s : State) (b : Fin 4) (errs : List Nat), phyState s b = 4 → (s.phy b).rounds + 1 < 16 →
    ∃ t, exec (.coefRoundEnd b errs) s = .next t ∧ (t.phy b).rounds = (s.phy b).rounds + 1 ∧ t.regs = s.regs ∧
      ∀ k, k < 16 → (t.phy b).badLanes.testBit k = ((s.phy b).badLanes.testBit k || decide (0 < (errs[k]?).getD 0))) ∧
  (∀ (s : State) (b : Fin 4), 2 ≤ phyState s b → phyState s b ≤ 5 → (s.phy b).identAt + usFt 2000 ≤ s.adv → s.get (FBL.PHY_STATUS_ATTEMPTS b) < 3 →
    ∃ t, exec (.trainAttemptTimeout b) s = .next t ∧ phyState t b = 2 ∧ t.get (FBL.PHY_STATUS_ATTEMPTS b) = s.get (FBL.PHY_STATUS_ATTEMPTS b) + 1 ∧
      t.core = s.core) ∧
  (∀ (s : State) (b : Fin 4), 2 ≤ phyState s b → phyState s b ≤ 5 → (s.phy b).identAt + usFt 2000 ≤ s.adv → 3 ≤ s.get (FBL.PHY_STATUS_ATTEMPTS b) →
    ∃ t, exec (.trainAttemptTimeout b) s = .next t ∧ phyState t b = 8 ∧ t.get (FBL.PHY_STATUS_DOWN_CAUSE b) = 3) ∧
  (∀ (s : State) (b : Fin 4), phyState s b = 6 → s.get (FBL.PHY_STATUS_WIDTH b) = 0 →
    ∃ t, exec (.superblockTransmit b) s = .next t ∧ (t.link b).period = [] ∧ t.core = s.core ∧
      t.out = s.out ++ [.lanes b (superblock 16 0 (if (s.link b).period.length = 4096 then (s.link b).period else (List.replicate 128 idleFlit).flatten))]) ∧
  (∀ (s v u : State) (b : Fin 4) (lanes : List LaneBits), phyState s b = 5 →
    s.deskew b (arrivals s b (lanesRead s b lanes)) (fun k => (laneBits s b k lanes).1) = (0, v) →
    v.takeLanes b (lanesRead s b lanes) = (0, u) → allLocked u b = true → llState s b = 0 →
    ∃ t, exec (.superblockReceive b lanes) s = .next t ∧ phyState t b = 6 ∧ llState t b = 1 ∧ t.get (FBL.LL_TXSEQ_NEXT b) = 0) ∧
  (∀ (s v u : State) (b : Fin 4) (lanes : List LaneBits), phyState s b = 6 →
    s.deskew b (arrivals s b (lanesRead s b lanes)) (fun k => (laneBits s b k lanes).1) = (0, v) → v.takeLanes b (lanesRead s b lanes) = (0, u) →
    ∃ t, exec (.superblockReceive b lanes) s = .next t ∧ phyState t b = 6 ∧ t.core = s.core ∧
      (t.link b).rxBytes = unstripe (lanesRead s b lanes).length ((lanesRead s b lanes).map (fun e => e.2.bytes))) ∧
  (∀ (s v u : State) (b : Fin 4) (lanes : List LaneBits) (skewed bad : Nat), phyState s b = 6 → s.get (FBL.PHY_STATUS_WIDTH b) = 0 →
    s.deskew b (arrivals s b (lanesRead s b lanes)) (fun k => (laneBits s b k lanes).1) = (skewed, v) → v.takeLanes b (lanesRead s b lanes) = (bad, u) →
    (bad ||| skewed) &&& 0xFFFF ≠ 0 →
    ∃ t, exec (.superblockReceive b lanes) s = .next t ∧ phyState t b = 7) ∧
  (∀ (s : State) (b : Fin 4), phyState s b = 7 → (chooseWidth s b).isSome = true → (s.phy b).sub = 5 → allLocked s b = true →
    ∃ t, ∃ u : State, exec (.narrowComplete b) s = .next t ∧ phyState u b = 6 ∧ u.get (FBL.PHY_STATUS_WIDTH b) = s.get (FBL.PHY_STATUS_WIDTH b) ∧
      u.flag (FBL.PHY_STATUS_NARROWED b) = true ∧ t = u.raiseFault (32 + b) CE (112 + b)) ∧
  (∀ (s : State) (b : Fin 4), phyState s b = 7 → chooseWidth s b = none →
    ∃ t, exec (.narrowComplete b) s = .next t ∧ phyState t b = 8 ∧ t.get (FBL.PHY_STATUS_DOWN_CAUSE b) = 2)

/-! ### Bundles: the link layer (10) -/

/-- L of a TFP packet in the core is 32 × FLITS bytes; with FLITS at most 136 it is at most 4,352 bytes and 68 cells, and 136 FLITS make exactly that; LMAX of a bundle is 4,352 + OVERHEAD. -/
def Obligations.BundlePacketLength : Prop :=
  (∀ (p : Pkt) (q : Tfp) (c : Chan) (np : Bool), p.body = .tfp q c np → pktLen p = 32 * tfpFlits q ∧
    (tfpFlits q ≤ 136 → pktLen p ≤ 4352 ∧ cellsOf (pktLen p) ≤ 68) ∧ (tfpFlits q = 136 → pktLen p = 4352 ∧ cellsOf (pktLen p) = 68)) ∧
  (∀ (s : State) (b : Fin 4), lmaxIdx s (96 + b) = 4352 + overheadOf s (112 + b))

/-- On an ACTIVE link: a unit of a reserved TYPE, a packet whose CRC fails, whose FLITS is 0 or above 136, or whose PAD is larger than 32 × FLITS − 12, and each control flit whose CRC fails (IDLE, ACK, NAK, PAUSE, REPLAY, TRAIN), counts in CRC_ERR, puts the link in RESYNC and makes a NAK with RESYNC due for the next SEQ expected; packets received before stay. -/
def Obligations.FramingErrorsEnterResync : Prop :=
  ∀ (s : State) (b : Fin 4), llState s b = 2 → ∀ c : Instr,
    ((∃ p : LinkPacket, c = .linkPacketReceive b p ∧ (p.resvd = true ∨ p.crcOk = false ∨ p.flits = 0 ∨ 136 < p.flits ∨ 32 * p.flits - 12 < p.pad)) ∨
     c = .idleReceive b false ∨ (∃ q z, c = .ackReceive b q z false) ∨ (∃ q z r, c = .nakReceive b q z r false) ∨ (∃ z, c = .pauseReceive b z false) ∨
     (∃ f n st, c = .replayReceive b f n st false) ∨ (∃ f, c = .trainReceive b f false)) →
    ∃ t, exec c s = .next t ∧ llState t b = 3 ∧ (t.link b).nakDue = some (s.get (FBL.LL_RXSEQ_NEXT b), true) ∧ (t.link b).rx = (s.link b).rx ∧
      t.get (FBL.LL_ERR_CRC_ERR b) = min (2 ^ (FBL.LL_ERR_CRC_ERR b).n - 1) (s.get (FBL.LL_ERR_CRC_ERR b) + 1)

/-- On an ACTIVE link the packet of the SEQ expected, with room, enters the ingress buffer and the SEQ expected rises by one. A good IDLE on a link that is not OFF keeps it heard. An ACK frees every packet up to its SEQ and gives the pause mask. A NAK of a packet sent and not acknowledged, of which no replay is due, below the replay limit, starts a replay from it. A PAUSE gives the mask. A REPLAY at a period start, of 1 to 32,767 packets, ends RESYNC. In INIT or RETRAIN with the PHY UP a TRAIN of another protocol version is refused with 0x71; in INIT one of INIT and of the right role makes READY due and records the partner, and one of READY, once READY has been sent, makes the link ACTIVE. TRAIN is due again 100 ns after it was, in INIT and RETRAIN. A period of an ACTIVE link of width 16 with nothing to send is one ACK and idle flits. -/
def Obligations.LinkLayerFlits : Prop :=
  (∀ (s : State) (b : Fin 4) (p : LinkPacket), llState s b = 2 → p.resvd = false → p.crcOk = true → 1 ≤ p.flits → p.flits ≤ 136 → p.pad ≤ 32 * p.flits - 12 →
    p.seq = s.get (FBL.LL_RXSEQ_NEXT b) → chanCells s b (chanType p.chan - 1) + cellsOf (32 * p.flits) ≤ s.get (FBL.LL_PAUSE_XOFF b (chanType p.chan - 1)) + 768 →
    ∃ t, exec (.linkPacketReceive b p) s = .next t ∧ (t.link b).rx = (s.link b).rx ++ [⟨p.p, p.chan, p.np, cellsOf (32 * p.flits)⟩] ∧
      t.get (FBL.LL_RXSEQ_NEXT b) = (p.seq + 1) % 65536 ∧ llState t b = 2 ∧ t.core = s.core) ∧
  (∀ (s : State) (b : Fin 4), llState s b ≠ 0 → ∃ t, exec (.idleReceive b true) s = .next t ∧ (t.link b).lastGood = s.adv ∧ llState t b = llState s b ∧
    t.core = s.core) ∧
  (∀ (s : State) (b : Fin 4) (seq : BitVec 16) (pause : BitVec 4) (e : Sent) (rest : List Sent), llState s b = 2 → (s.link b).store = e :: rest →
    seqSub seq.toNat e.seq < (s.link b).store.length → ((s.link b).store.take (seqSub seq.toNat e.seq + 1)).all Sent.out = true →
    ∃ t, exec (.ackReceive b seq pause true) s = .next t ∧ (t.link b).store = (s.link b).store.drop (seqSub seq.toNat e.seq + 1) ∧
      t.get (FBL.LL_STATUS_PAUSE_RX b) = pause.toNat ∧ (t.link b).failures = 0 ∧ t.core = s.core) ∧
  (∀ (s : State) (b : Fin 4) (seq : BitVec 16) (pause : BitVec 4) (resync : Bool) (e : Sent) (rest : List Sent), llState s b = 2 →
    (s.link b).store = e :: rest → (s.link b).store.any (fun x => x.seq = seq.toNat ∧ x.out) = true → replayPendingFor s b seq.toNat = false →
    e.resends < s.get (FBL.LL_LIMIT_REPLAY_LIMIT b) → e.retrained = false →
    ∃ t, exec (.nakReceive b seq pause resync true) s = .next t ∧ (t.link b).replay = some seq.toNat ∧ (t.link b).store = (s.link b).store ∧
      t.get (FBL.LL_STATUS_PAUSE_RX b) = pause.toNat ∧ t.core = s.core) ∧
  (∀ (s : State) (b : Fin 4) (pause : BitVec 4), llState s b = 2 →
    ∃ t, exec (.pauseReceive b pause true) s = .next t ∧ t.get (FBL.LL_STATUS_PAUSE_RX b) = pause.toNat ∧ (t.link b).store = (s.link b).store ∧
      t.core = s.core) ∧
  (∀ (s : State) (b : Fin 4) (first count : BitVec 16), llState s b = 3 → 1 ≤ count.toNat → count.toNat ≤ 32767 →
    ∃ t, exec (.replayReceive b first count true true) s = .next t ∧ llState t b = 2 ∧ (t.link b).resyncDl = none ∧ (t.link b).resyncNak = none ∧
      (t.link b).store = (s.link b).store) ∧
  (∀ (s : State) (b : Fin 4) (f : TrainFlit), (llState s b = 1 ∨ llState s b = 4) → phyState s b = 6 → f.state ≠ 3 → f.proto ≠ 1 →
    ∃ t, ∃ u : State, exec (.trainReceive b f true) s = .next t ∧ llState u b = 5 ∧ u.get (FBL.LL_STATUS_REASON b) = 0x71 ∧
      t = u.raiseFault (32 + b) UC (112 + b)) ∧
  (∀ (s : State) (b : Fin 4) (f : TrainFlit), llState s b = 1 → phyState s b = 6 → f.state = 0 → f.proto = 1 → f.role = bit (bundleRole s b [4]) →
    (s.link b).readySent = false →
    ∃ t, exec (.trainReceive b f true) s = .next t ∧ (t.link b).ready = true ∧ (t.link b).trainDue = true ∧ llState t b = 1 ∧
      t.get (FBL.LL_PEER_DEVID b) = f.devid % 2 ^ (FBL.LL_PEER_DEVID b).n ∧ t.core = s.core) ∧
  (∀ (s : State) (b : Fin 4) (f : TrainFlit), llState s b = 1 → phyState s b = 6 → f.state = 2 → f.proto = 1 → f.role = bit (bundleRole s b [4]) →
    (s.link b).readySent = true →
    ∃ t, exec (.trainReceive b f true) s = .next t ∧ llState t b = 2 ∧ (t.link b).readySent = false) ∧
  (∀ (s : State) (b : Fin 4), (llState s b = 1 ∨ llState s b = 4) → phyState s b = 6 → s.due (s.link b).trainAt = true →
    ∃ t, exec (.trainSend b) s = .next t ∧ (t.link b).trainDue = true ∧ (t.link b).trainAt = some (s.adv + nsFt 100) ∧ t.core = s.core ∧ t.ledger = s.ledger) ∧
  (∀ (s : State) (b : Fin 4), phyState s b = 6 → llState s b = 2 → s.get (FBL.PHY_STATUS_WIDTH b) = 0 → s.refreshPause b = s → (s.link b).store = [] →
    (s.link b).carry = [] → (s.link b).replay = none → (s.link b).nakDue = none → (s.link b).pauseDue = false → (s.link b).timeDue = [] →
    ∃ t, exec (.linkPeriodTransmit b) s = .next t ∧ t.core = s.core ∧ (t.link b).period =
      (ackFlit (seqSub (s.get (FBL.LL_RXSEQ_NEXT b)) 1) (s.get (FBL.LL_STATUS_PAUSE_TX b)) :: List.replicate 127 idleFlit).flatten)

/-- The replay timer of an ACTIVE or RESYNC link, at its deadline, starts a replay from the oldest packet when that has been sent and is below its limits; in RESYNC the NAK is due again every 1 µs, and at its deadline the PHY is retrained, CE; INIT without READY retrains the PHY twice and then takes the link DOWN with cause 3; a retrain past its deadline takes it DOWN with cause 4. After its hold time a link DOWN or REFUSED with AUTO_RESTART, and at once one that RESTART names, goes OFF with ENABLE cleared and a deadline 200 µs later, at which a bundle that R248 allows comes back to CLOCK. RESTART in another state only shows 0x74. LL_PAUSE and LL_LIMIT take a value that R286 and R302 allow and otherwise only show the reason. -/
def Obligations.LinkLayerTimersAndRestart : Prop :=
  (∀ (s : State) (b : Fin 4) (e : Sent) (rest : List Sent), (llState s b = 2 ∨ llState s b = 3) → s.due (s.link b).replayDl = true →
    (s.link b).store = e :: rest → (s.link b).store.any (fun x => x.seq = s.get (FBL.LL_TXSEQ_OLDEST b) ∧ x.out) = true →
    e.resends < s.get (FBL.LL_LIMIT_REPLAY_LIMIT b) → e.retrained = false →
    ∃ t, exec (.replayTimerExpire b) s = .next t ∧ (t.link b).replay = some (s.get (FBL.LL_TXSEQ_OLDEST b)) ∧ (t.link b).store = (s.link b).store ∧
      t.core = s.core) ∧
  (∀ (s : State) (b : Fin 4), llState s b = 3 → s.due (s.link b).resyncNak = true →
    ∃ t, exec (.resyncNakTimer b) s = .next t ∧ (t.link b).nakDue = some (s.get (FBL.LL_RXSEQ_NEXT b), true) ∧
      (t.link b).resyncNak = some (s.adv + usFt 1) ∧ t.core = s.core) ∧
  (∀ (s : State) (b : Fin 4), llState s b = 3 → s.due (s.link b).resyncDl = true → phyState s b = 6 →
    ∃ t, ∃ u : State, exec (.resyncTimeout b) s = .next t ∧ llState u b = 4 ∧ phyState u b = 2 ∧ t = u.raiseFault (32 + b) CE (112 + b)) ∧
  (∀ (s : State) (b : Fin 4), llState s b = 1 → s.due (s.link b).initDl = true → (s.link b).initTries < 2 → phyState s b = 6 →
    ∃ t, exec (.linkInitTimeout b) s = .next t ∧ (t.link b).initTries = (s.link b).initTries + 1 ∧ phyState t b = 2 ∧ llState t b = 1 ∧ t.core = s.core) ∧
  (∀ (s : State) (b : Fin 4), llState s b = 1 → s.due (s.link b).initDl = true → 2 ≤ (s.link b).initTries →
    ∃ t, exec (.linkInitTimeout b) s = .next t ∧ llState t b = 6 ∧ t.get (FBL.LL_STATUS_DOWN_CAUSE b) = 3) ∧
  (∀ (s : State) (b : Fin 4), llState s b = 4 → phyState s b ≠ 6 → s.due (s.link b).retrainDl = true →
    ∃ t, exec (.linkRetrainTimeout b) s = .next t ∧ llState t b = 6 ∧ t.get (FBL.LL_STATUS_DOWN_CAUSE b) = 4) ∧
  (∀ (s : State) (b : Fin 4), (llState s b = 6 ∨ llState s b = 5) → s.flag (FBL.LL_CTRL_AUTO_RESTART b) = true → s.due (s.link b).holdDl = true →
    ∃ t, exec (.autoRestartExpire b) s = .next t ∧ llState t b = 0 ∧ phyState t b = 0 ∧ t.flag (FBL.PHY_CTRL_ENABLE b) = false ∧
      (t.link b).reenableDl = some (s.adv + usFt 200)) ∧
  (∀ (s : State) (path : Path) (b : Fin 4), reaches s path (FBL.LL_CTRL b) = true → (llState s b = 6 ∨ llState s b = 5) →
    ∃ t, exec (.linkRestart path b) s = .next t ∧ llState t b = 0 ∧ phyState t b = 0 ∧ t.flag (FBL.PHY_CTRL_ENABLE b) = false ∧
      (t.link b).reenableDl = some (s.adv + usFt 200)) ∧
  (∀ (s : State) (path : Path) (b : Fin 4), reaches s path (FBL.LL_CTRL b) = true → llState s b ≠ 6 → llState s b ≠ 5 →
    ∃ t, exec (.linkRestart path b) s = .next t ∧ t = s.set (FBL.LL_STATUS_REASON b) 0x74) ∧
  (∀ (s : State) (b : Fin 4), s.due (s.link b).reenableDl = true → phyRefusal s b = 0 → phyState s b = 0 →
    ∃ t, exec (.autoRestartReenable b) s = .next t ∧ phyState t b = 1 ∧ t.flag (FBL.PHY_CTRL_ENABLE b) = true ∧ (t.link b).reenableDl = none ∧
      t.core = s.core) ∧
  (∀ (s : State) (path : Path) (b v : Fin 4) (val : Word), reaches s path (FBL.LL_PAUSE b v) = true →
    pauseOk (fun u => if u = v.val then val else s.rd (FBL.LL_PAUSE b u)) = true →
    ∃ t, exec (.llPauseWrite path b v val) s = .next t ∧ t.rd (FBL.LL_PAUSE b v) = val ∧ t.get (FBL.LL_STATUS_REASON b) = 0 ∧ t.core = s.core) ∧
  (∀ (s : State) (path : Path) (b v : Fin 4) (val : Word), reaches s path (FBL.LL_PAUSE b v) = true →
    pauseOk (fun u => if u = v.val then val else s.rd (FBL.LL_PAUSE b u)) = false →
    ∃ t, exec (.llPauseWrite path b v val) s = .next t ∧ t = s.set (FBL.LL_STATUS_REASON b) 0x72) ∧
  (∀ (s : State) (path : Path) (b : Fin 4) (val : Word), reaches s path (FBL.LL_LIMIT b) = true → fieldOf val 0 4 ≠ 0 → fieldOf val 4 4 ≠ 0 →
    fieldOf val 8 6 ≠ 0 →
    ∃ t, exec (.llLimitWrite path b val) s = .next t ∧ t.rd (FBL.LL_LIMIT b) = val &&& 0x3FFF ∧ t.get (FBL.LL_STATUS_REASON b) = 0 ∧ t.core = s.core ∧
      t.links = s.links) ∧
  (∀ (s : State) (path : Path) (b : Fin 4) (val : Word), reaches s path (FBL.LL_LIMIT b) = true →
    (fieldOf val 0 4 = 0 ∨ fieldOf val 4 4 = 0 ∨ fieldOf val 8 6 = 0) →
    ∃ t, exec (.llLimitWrite path b val) s = .next t ∧ t = s.set (FBL.LL_STATUS_REASON b) 0x73)

/-! ### The bridge (11) -/

/-- A bridge packet `p` of KIND `kind` arrives on bundle `b` for this device, `u` being the state once its engine has taken it from the bundle's ingress
buffer: the bundle is not shed, the bridge runs, and the packet names the device's own valid DevID (R308, R315, R426). -/
abbrev Sys2Proof.ArrivesHere (s u : State) (b : Fin 4) (p : Tfp) (kind : Nat) : Prop :=
  u = s.takeRx b p ∧ p.hdr.kind = kind ∧ u.flag (BRG.BUNDLE_DRAIN_STATUS_SHED b) = false ∧ 3 ≤ u.mode ∧ u.mode ≠ 7 ∧ u.mode ≠ 5 ∧
    u.flag GLB.DEVID_VALID = true ∧ p.hdr.dstDev = ownDev u ∧ p.hdr.dstDev ≠ 0x7FF

/-- A bridged request of type `k` for PCIe port `n` that this device's guard allows and the port takes (R228, R305, R307). -/
abbrev Sys2Proof.IssuedTo (u : State) (b : Fin 4) (p : Tfp) (r : ReqBody) (data : List Byte) (k : TlpKind) (n : Fin 96) (lock : Bool) : Prop :=
  p.body = .req r data ∧ kindOfOp r.op = some k ∧ p.hdr.window ≠ 0x7FF ∧ p.hdr.dstPort = n ∧ targetRefusal u n = none ∧ Shaped u ∧
    guardVerdict u (96 + b) (bundleColour u b p.hdr.colour) (needOf (tlpOfBody r k (issueRid u n) p.hdr.poison data))
      (rangeOf (tlpOfBody r k (issueRid u n) p.hdr.poison data)).1 (rangeOf (tlpOfBody r k (issueRid u n) p.hdr.poison data)).2 = (.allow lock, 0)

/-- A bridged write, ACKED write or read for a PCIe port, outside any binding, that arrives for this device and that its guard allows enters the core toward the port it names, on behalf of the bundle; a write as the TLP its body states, an ACKED write with the header it came with. BR_CPL of status 0 for an OUT entry of a requester behind a PCIe port that is up is sent on with that requester's ID and tag. BR_WACK with status 0 frees the ACKED write's entry, counts it out of its window and leaves the fence; BR_END for one frees it and sets the window's FAILED. BR_RWF for a window whose partition's record is free and raises no interrupt adds COUNT, saturating, and fills the record with the address. The last completion at a target port for an IN entry frees the record and the entry; under another insertion serial a completion that is not the last counts in counter 24 and does nothing else, and the last one counts there and frees both. -/
def Obligations.BridgedTraffic : Prop :=
  (∀ (s u : State) (b : Fin 4) (p : Tfp) (r : ReqBody) (data : List Byte) (n : Fin 96) (lock : Bool), ArrivesHere s u b p 0x01 →
    IssuedTo u b p r data .memWr n lock →
    ∃ t, exec (.brPostedReceive b p) s = .next t ∧ ∃ q ∈ t.core.pkts, q.id = u.core.nextId ∧ q.egress = n ∧ q.ingress = 112 + b ∧
      q.body = .tlp (tlpOfBody r .memWr (issueRid u n) p.hdr.poison data)) ∧
  (∀ (s u : State) (b : Fin 4) (p : Tfp) (r : ReqBody) (data : List Byte) (n : Fin 96) (lock : Bool), ArrivesHere s u b p 0x02 →
    IssuedTo u b p r data .memWr n lock →
    ∃ t, exec (.brAckedReceive b p) s = .next t ∧ ∃ q ∈ t.core.pkts, q.id = u.core.nextId ∧ q.egress = n ∧ q.ingress = 112 + b ∧
      q.origin = .bridged (recolour u b p).hdr true none r.addr) ∧
  (∀ (s u : State) (b : Fin 4) (p : Tfp) (r : ReqBody) (data : List Byte) (n : Fin 96) (lock : Bool), ArrivesHere s u b p 0x03 →
    IssuedTo u b p r data .memRd n lock →
    ∃ t, exec (.brNpReceive b p) s = .next t ∧ ∃ q ∈ t.core.pkts, q.id = u.core.nextId ∧ q.egress = n ∧ q.ingress = 112 + b ∧ q.kind = 1) ∧
  (∀ (s u : State) (b : Fin 4) (p : Tfp) (a : AnsBody) (data : List Byte) (e : TagEntry), ArrivesHere s u b p 0x04 → p.body = .ans a data →
    a.status = 0 → u.tag? p.hdr.xid = some e → e.isOut = true → e.xidGen = p.hdr.xidGen → e.answered = false → e.acked = false → e.rem = none →
    e.ingress < 96 → u.flag (PORT.STATUS_SHED e.ingress) = false → linkUp u e.ingress = true → (∀ q ∈ u.core.pkts, atHead q = false) → Shaped u →
    ∃ t, exec (.brCplReceive b p) s = .next t ∧ ∃ q ∈ t.core.pkts, q.id = u.core.nextId ∧ q.egress = e.ingress ∧
      q.body = .tlp { cplTlp e.rid e.tag 0 e.tc (completerOf u e) a.byteCount a.lowerAddr data with ep := p.hdr.poison }) ∧
  (∀ (s u : State) (b : Fin 4) (p : Tfp) (a : AnsBody) (data : List Byte) (e : TagEntry) (w : Fin 2048), ArrivesHere s u b p 0x05 → p.body = .ans a data →
    a.status = 0 → u.tag? p.hdr.xid = some e → e.isOut = true → e.xidGen = p.hdr.xidGen → e.answered = false → e.acked = true →
    e.window = some w.val → (∀ q ∈ u.core.pkts, atHead q = false) →
    ∃ t, exec (.brWackReceive b p) s = .next t ∧ t.tag? p.hdr.xid = none ∧ t.get (Win.ACKED_OUT w) = u.get (Win.ACKED_OUT w) - 1 ∧ t.core = u.core ∧
      t.rd (BRG.FENCE w) = u.rd (BRG.FENCE w)) ∧
  (∀ (s u : State) (b : Fin 4) (p : Tfp) (a : AnsBody) (data : List Byte) (e : TagEntry) (w : Fin 2048), ArrivesHere s u b p 0x07 → p.body = .ans a data →
    u.tag? p.hdr.xid = some e → e.isOut = true → e.xidGen = p.hdr.xidGen → e.answered = false → e.acked = true → e.window = some w.val →
    (∀ q ∈ u.core.pkts, atHead q = false) →
    ∃ t, exec (.brEndReceive b p) s = .next t ∧ t.tag? p.hdr.xid = none ∧ t.flag (BRG.FENCE_FAILED w) = true ∧ t.core = u.core) ∧
  (∀ (s u : State) (b : Fin 4) (p : Tfp) (m : NoticeBody), ArrivesHere s u b p 0x06 → p.body = .notice m → m.window < 2047 →
    u.flag (BRG.RWF_INFO_VALID (u.get (Win.PART m.window))) = false → u.flag (BRG.RWF_CTRL_MSI_EN (u.get (Win.PART m.window))) = false →
    ∃ t, exec (.brRwfReceive b p) s = .next t ∧ t.flag (BRG.RWF_INFO_VALID (u.get (Win.PART m.window))) = true ∧
      t.get (BRG.RWF_COUNT_V (u.get (Win.PART m.window))) =
        min (2 ^ (BRG.RWF_COUNT_V (u.get (Win.PART m.window))).n - 1) (u.get (BRG.RWF_COUNT_V (u.get (Win.PART m.window))) + m.count) ∧
      t.rd64 (BRG.RWF_ADDR_LO (u.get (Win.PART m.window))) = m.addr % 2 ^ 64 ∧ t.core = u.core) ∧
  (∀ (s : State) (n : Fin 96) (m : Tlp) (r : NpRec) (h : TfpHdr) (acked : Bool) (x addr : Nat), npOf s n m = some r →
    r.origin = .bridged h acked (some x) addr → r.serial = serialOf s n → cplLast m = true →
    ∃ t, exec (.inCompletionReceive n m) s = .next t ∧ t.tag? x = none ∧ (∀ o ∈ t.core.out, ¬ (o.port = r.port ∧ o.rid = r.rid ∧ o.tag = r.tag))) ∧
  (∀ (s : State) (n : Fin 96) (m : Tlp) (r : NpRec) (h : TfpHdr) (acked : Bool) (x : Option Nat) (addr : Nat), npOf s n m = some r →
    r.origin = .bridged h acked x addr → r.serial ≠ serialOf s n → cplLast m = false →
    ∃ t, exec (.inCompletionReceive n m) s = .next t ∧ t = s.count n 24 1) ∧
  (∀ (s : State) (n : Fin 96) (m : Tlp) (r : NpRec) (h : TfpHdr) (acked : Bool) (x addr : Nat), npOf s n m = some r →
    r.origin = .bridged h acked (some x) addr → r.serial ≠ serialOf s n → cplLast m = true →
    ∃ t, exec (.inCompletionReceive n m) s = .next t ∧ (∃ u : State, t = u.count n 24 1 ∧ u.counters = s.counters) ∧ t.tag? x = none ∧
      (∀ o ∈ t.core.out, ¬ (o.port = r.port ∧ o.rid = r.rid ∧ o.tag = r.tag)))

/-- A packet outside any window at the head of its lane that an OUT entry is free for takes one and enters its VOQ; one released into a fenced ACKED window leaves the core. A read of a fence answers the word, clears the fence, and gives window, count and ALL to the partition's snapshot. A notice accumulator whose 10 µs end without a count is free. RECLAIM on an empty tag table with an IN_RESERVE in range shows BUSY; its end clears BUSY. At a sideband poll with nothing watched the sequence number rises by one; a poll of a PCIe port is answered toward the poller with its state, and what was latched for it is given up; an answer that one watch entry names is recorded there, and the entry is awaited and stale no more. A double-bit error of a route disables it, of a window the window, of the OUT entry of an ACKED write frees it and marks its fence; a single-bit error is corrected; each raises its fault. DRAIN of an ACTIVE bundle samples its deadline, REOPEN ends a drain or the DRAINED state, an empty bundle or the deadline ends a drain in DRAINED. -/
def Obligations.BridgeTablesAndDrains : Prop :=
  (∀ (s : State) (k : Nat) (p : Pkt) (e : TagEntry) (q : Tfp) (c : Chan) (np : Bool), s.pkt? k = some p → atHead p = true → npAhead s p = false →
    p.need = some e → e.window = none → p.body = .tfp q c np → entryFree s e = true → s.get BRG.TAG_STATUS_OUT_USED + 1 < 2 ^ (BRG.TAG_STATUS_OUT_USED).n →
    e.isOut = true →
    ∃ t, exec (.tagWaitRelease k) s = .next t ∧ (∃ m ∈ t.core.pkts, m.id = p.id ∧ m.place = .voq ∧ m.need = none) ∧
      t.get BRG.TAG_STATUS_OUT_USED = s.get BRG.TAG_STATUS_OUT_USED + 1) ∧
  (∀ (s : State) (k w n : Nat) (p : Pkt) (e : TagEntry), s.pkt? k = some p → atHead p = true → npAhead s p = false → p.need = some e → e.window = some w →
    e.acked = false → s.get (Win.MODE w) = 1 → ackedAhead s w e.rid p.id = false → fenced s w e.rid = true → e.rem = none → e.ingress = n → n < 96 → Shaped s →
    ∃ t, exec (.tagWaitRelease k) s = .next t ∧ ∀ m ∈ t.core.pkts, m.id ≠ p.id) ∧
  (∀ (s : State) (path : Path) (w : Fin 2048), waitingAt s path = none → answers s path (BRG.FENCE w) = true → canRead s path (BRG.FENCE w) = true →
    ∃ t, exec (.fenceRead path w) s = .next t ∧ t.out = s.out ++ [.readData path (BRG.FENCE w) (viewWord s path (BRG.FENCE w))] ∧ t.rd (BRG.FENCE w) = 0 ∧
      SMap.get (fun _ => []) t.brg.fences w = [] ∧ t.rd (BRG.FENCE_SNAP_INFO (s.get (Win.PART w))) = BitVec.ofNat 32 (w.val +
        2048 * (SMap.get (fun _ => []) s.brg.fences w).length + 2 ^ 15 * s.get (BRG.FENCE_ALL w) + 2 ^ 16) ∧ t.core = s.core) ∧
  (∀ (s : State) (a : NoticeAcc), s.brg.notices.find? (fun x => x.dev = a.dev ∧ x.window = a.window) = some a → a.due ≤ s.adv → a.count = 0 →
    ∃ t, exec (.rwfNoticeSend a.dev a.window) s = .next t ∧ (∀ x ∈ t.brg.notices, ¬ (x.dev = a.dev ∧ x.window = a.window)) ∧ t.core = s.core ∧
      t.regs = s.regs) ∧
  (∀ (s : State) (path : Path), reaches s path BRG.TAG_CTRL = true → 3 ≤ s.mode → 1024 ≤ s.get BRG.TAG_CTRL_IN_RESERVE → s.get BRG.TAG_CTRL_IN_RESERVE ≤ 8192 →
    s.flag BRG.STATUS_RECLAIM_BUSY = false → s.brg.tags = [] →
    ∃ t, exec (.tagReclaim path) s = .next t ∧ t.flag BRG.STATUS_RECLAIM_BUSY = true ∧ t.get BRG.STATUS_REASON = 0 ∧ t.core = s.core ∧
      RegsOutside s t BRG.STATUS (BRG.TAG_CTRL + 4)) ∧
  (∀ s : State, s.flag BRG.STATUS_RECLAIM_BUSY = true →
    ∃ t, exec .tagReclaimDone s = .next t ∧ t.flag BRG.STATUS_RECLAIM_BUSY = false ∧ RegsOutside s t BRG.STATUS (BRG.STATUS + 4) ∧ t.core = s.core ∧ t.brg = s.brg) ∧
  (∀ s : State, s.brg.pollDue = true → s.flag BRG.SB_CTRL_ENABLE = true → 3 ≤ s.mode → s.mode ≠ 7 → watched s = [] →
    ∃ t, exec .sbPollSend s = .next t ∧ t.brg.pollDue = false ∧ t.brg.pollSeq = (s.brg.pollSeq + 1) % 65536 ∧ t.core = s.core ∧ t.regs = s.regs) ∧
  (∀ (s u : State) (b : Fin 4) (p : Tfp) (q : SbBody) (e : Nat), ArrivesHere s u b p 0x08 → p.body = .sideband q → q.port < 96 →
    routeBundle u p.hdr.srcDev = some e →
    ∃ t, exec (.sbPollReceive b p) s = .next t ∧ q.port ∉ t.brg.wakePorts ∧ q.port ∉ t.brg.attnPorts ∧
      ∃ m ∈ t.core.pkts, m.id = u.core.nextId ∧ m.egress = 112 + e ∧ ∃ g c np,
        m.body = .tfp { sbTfp u 0x09 p.hdr.srcDev p.hdr.srcPort ⟨q.port, q.seq, sbState u q.port⟩ with
          hdr := { (sbTfp u 0x09 p.hdr.srcDev p.hdr.srcPort ⟨q.port, q.seq, sbState u q.port⟩).hdr with gen := g } } c np) ∧
  (∀ (s u : State) (b : Fin 4) (p : Tfp) (q : SbBody) (i : Fin 64), ArrivesHere s u b p 0x09 → p.body = .sideband q →
    (watched u).filter (fun i => u.get (BRG.SB_WATCH_CFG_DEVID i) = p.hdr.srcDev ∧ u.get (BRG.SB_WATCH_CFG_PORTID i) = q.port) = [i.val] →
    ∃ t, exec (.sbStateReceive b p) s = .next t ∧ t.get (BRG.SB_WATCH_STATE_STATE i) = q.state % 2 ^ 29 ∧ t.flag (BRG.SB_WATCH_CFG_STALE i) = false ∧
      i.val ∉ t.brg.awaiting) ∧
  (∀ (s : State) (d : Fin 2047), ∃ t, ∃ u : State, exec (.bridgeEccError (.route d) true) s = .next t ∧ routeBundle u d = none ∧ u.core = s.core ∧
    u.flag BRG.STATUS_ECC_UE = true ∧ t = u.raiseFault 40 UC 0xFFFF) ∧
  (∀ (s : State) (w : Fin 2048), ∃ t, ∃ u : State, exec (.bridgeEccError (.window w) true) s = .next t ∧ w.val ∈ u.brg.deadWin ∧ u.core = s.core ∧
    t = u.raiseFault 40 UC 0xFFFF) ∧
  (∀ (s : State) (x : Fin 16384) (e : TagEntry) (w : Fin 2048), s.tag? x = some e → e.isOut = true → e.answered = false → e.acked = true → e.window = some w.val →
    (∀ q ∈ s.core.pkts, atHead q = false) →
    ∃ t, ∃ u : State, exec (.bridgeEccError (.tag x) true) s = .next t ∧ u.tag? x = none ∧ u.flag (BRG.FENCE_FAILED w) = true ∧ u.flag BRG.STATUS_ECC_UE = true ∧ u.core = s.core ∧
      t = u.raiseFault 40 UC 0xFFFF) ∧
  (∀ (s : State) (what : BridgeEcc), ∃ t, exec (.bridgeEccError what false) s = .next t ∧ t = (s.set BRG.STATUS_ECC_CE 1).raiseFault 40 CE 0xFFFF) ∧
  (∀ (s : State) (path : Path) (b : Fin 4), reaches s path (BRG.BUNDLE_DRAIN_CTRL b) = true → 3 ≤ s.mode → s.flag (BRG.BUNDLE_DRAIN_STATUS_SHED b) = false →
    s.flag (BRG.BUNDLE_DRAIN_STATUS_RESERVED_SW b) = false → s.get (BRG.BUNDLE_DRAIN_STATUS_STATE b) = 0 →
    ∃ t, exec (.bundleDrain path b) s = .next t ∧ t.get (BRG.BUNDLE_DRAIN_STATUS_STATE b) = 1 ∧ SMap.get (fun _ => none) t.brg.drainDl b =
        some (s.adv + usFt (min 1000000 (max 1 (s.get (BRG.BUNDLE_DRAIN_DEADLINE_DEADLINE_US b))))) ∧ t.core = s.core ∧
      RegsOutside s t (BRG.BUNDLE_DRAIN_STATUS b) (BRG.BUNDLE_DRAIN_STATUS b + 4)) ∧
  (∀ (s : State) (path : Path) (b : Fin 4), reaches s path (BRG.BUNDLE_DRAIN_CTRL b) = true → 3 ≤ s.mode → s.flag (BRG.BUNDLE_DRAIN_STATUS_SHED b) = false →
    s.flag (BRG.BUNDLE_DRAIN_STATUS_RESERVED_SW b) = false →
    (s.get (BRG.BUNDLE_DRAIN_STATUS_STATE b) = 1 ∨ s.get (BRG.BUNDLE_DRAIN_STATUS_STATE b) = 2) →
    ∃ t, exec (.bundleReopen path b) s = .next t ∧ t.get (BRG.BUNDLE_DRAIN_STATUS_STATE b) = 0 ∧ SMap.get (fun _ => none) t.brg.drainDl b = none ∧
      t.core = s.core ∧ RegsOutside s t (BRG.BUNDLE_DRAIN_STATUS b) (BRG.BUNDLE_DRAIN_STATUS b + 4)) ∧
  (∀ (s : State) (b : Fin 4), s.get (BRG.BUNDLE_DRAIN_STATUS_STATE b) = 1 → s.core.pkts.any (queuedFor (112 + b.val)) = false → (s.link b).store = [] →
    ∃ t, exec (.bundleDrainComplete b) s = .next t ∧ t.get (BRG.BUNDLE_DRAIN_STATUS_STATE b) = 2 ∧ SMap.get (fun _ => none) t.brg.drainDl b = none ∧
      t.core = s.core) ∧
  (∀ (s : State) (b : Fin 4), s.get (BRG.BUNDLE_DRAIN_STATUS_STATE b) = 1 → s.due (SMap.get (fun _ => none) s.brg.drainDl b) = true →
    ∃ t, exec (.bundleDrainDeadline b) s = .next t ∧ t.get (BRG.BUNDLE_DRAIN_STATUS_STATE b) = 2 ∧ SMap.get (fun _ => none) t.brg.drainDl b = none)

/-! ### Partitions and their configuration space (08) -/

/-- A host's write of a downstream switch port's bus numbers within its partition's range is stored, no other dword of any function changes and no register; an upstream port keeps its secondary bus number where the one written is outside the range, and EMU_REFUSED counts it, saturating. At an upstream port whose link is up, neither shed nor draining, a configuration read of the management function is answered with the dword it reads, a read of the placeholder function with the placeholder's, a read of a bound function's BAR dwords with the emulated value; any other access to a bound function behind a PCIe port that takes it enters the core toward that port, non-posted. None of these reads or accesses changes a configuration space of the switch. -/
def Obligations.HostConfiguration : Prop :=
  (∀ (s : State) (p d : Fin 32) (sec sub : Byte), s.mode ≠ 7 → d.val ≠ 0 → s.get (PART.VDSP_KIND p d) ≠ 0 → busOk s p sec.toNat = true →
    busOk s p sub.toNat = true →
    ∃ t, exec (.hostBusNumberWrite p d sec sub) s = .next t ∧ fieldOf (t.cfgRd (33 * p + d) 6) 8 8 = sec.toNat ∧
      fieldOf (t.cfgRd (33 * p + d) 6) 16 8 = sub.toNat ∧ t.regs = s.regs ∧ t.core = s.core ∧
      (∀ fn dw, dw < 1024 → (fn ≠ 33 * p.val + d.val ∨ dw ≠ 6) → t.cfgRd fn dw = s.cfgRd fn dw)) ∧
  (∀ (s : State) (p d : Fin 32) (sec sub : Byte), s.mode ≠ 7 → d.val = 0 → busOk s p sec.toNat = false → busOk s p sub.toNat = true →
    ∃ t, exec (.hostBusNumberWrite p d sec sub) s = .next t ∧ fieldOf (t.cfgRd (upFn p) 6) 8 8 = fieldOf (s.cfgRd (upFn p) 6) 8 8 ∧
      t.get (PART.TABLE_EMU_REFUSED_V p) = min (2 ^ (PART.TABLE_EMU_REFUSED_V p).n - 1) (s.get (PART.TABLE_EMU_REFUSED_V p) + 1)) ∧
  (∀ (s : State) (n : Fin 96) (m : Tlp), upAlive s n = true → m.kind = .cfgRd → cfgHit s (s.get (PORT.CFG_PART n)) m = .own (33 * s.get (PORT.CFG_PART n)) →
    s.get (PORT.STATUS_DRAIN_STATE n) = 0 → s.flag (PORT.STATUS_SHED n) = false → Shaped s →
    ∃ t, exec (.mgmtConfigAccess n m) s = .next t ∧ t.cfg = s.cfg ∧ ∃ q ∈ t.core.pkts, q.id = s.core.nextId ∧ q.egress = n ∧
      q.body = .tlp (cplTlp m.rid m.tag 0 m.tc m.dest 4 0 (leBytes 4 (s.cfgRead (33 * s.get (PORT.CFG_PART n)) m.dword).toNat))) ∧
  (∀ (s : State) (n : Fin 96) (m : Tlp), upAlive s n = true → m.kind = .cfgRd → cfgHit s (s.get (PORT.CFG_PART n)) m = .placeholder → s.mode ≠ 5 →
    s.get (PORT.STATUS_DRAIN_STATE n) = 0 → s.flag (PORT.STATUS_SHED n) = false → Shaped s →
    ∃ t, exec (.boundConfigAccess n m) s = .next t ∧ t.cfg = s.cfg ∧ ∃ q ∈ t.core.pkts, q.id = s.core.nextId ∧ q.egress = n ∧
      q.body = .tlp (cplTlp m.rid m.tag 0 m.tc m.dest 4 0 (leBytes 4 (placeholderDw m.dword)))) ∧
  (∀ (s : State) (n : Fin 96) (m : Tlp) (i : Nat) (b : BindEnt), upAlive s n = true → m.kind = .cfgRd →
    cfgHit s (s.get (PORT.CFG_PART n)) m = .bound i b → m.ide = false → 4 ≤ m.dword → m.dword ≤ 9 → s.mode ≠ 5 →
    s.get (PORT.STATUS_DRAIN_STATE n) = 0 → s.flag (PORT.STATUS_SHED n) = false → Shaped s →
    ∃ t, exec (.boundConfigAccess n m) s = .next t ∧ t.cfg = s.cfg ∧ ∃ q ∈ t.core.pkts, q.id = s.core.nextId ∧ q.egress = n ∧
      q.body = .tlp (cplTlp m.rid m.tag 0 m.tc m.dest 4 0
        (leBytes 4 (emuBar s b m.dword (s.part.sized.contains (sizedKey (s.get (PORT.CFG_PART n)) m.dest m.dword)))))) ∧
  (∀ (s : State) (n : Fin 96) (m : Tlp) (i : Nat) (b : BindEnt), upAlive s n = true → isConfig m = true →
    cfgHit s (s.get (PORT.CFG_PART n)) m = .bound i b → m.ide = false → (m.dword < 4 ∨ 9 < m.dword) → m.dword ≠ 12 → b.target < 96 →
    targetRefusal s b.target = none → s.mode ≠ 5 → s.get (PORT.STATUS_DRAIN_STATE n) = 0 → Shaped s →
    ∃ t, exec (.boundConfigAccess n m) s = .next t ∧ t.cfg = s.cfg ∧ ∃ q ∈ t.core.pkts, q.id = s.core.nextId ∧ q.egress = b.target ∧ q.ingress = n ∧
      q.kind = 1)

/-! ### Remote memory access (12) -/

/-- A write that sets ENABLE of a ring joins the checker's queue. Served there, it starts an owned ring of a legal size in modes 3 to 6 with its four counts at 0; without an owner it shows 0x90, in BARE to SWITCH 0x16, and the ring stays as it was. Disabled, a ring stops and its descriptors leave it. A doorbell stores SQ_TAIL; a running ring then brings the engine forward, or stops with ERR when TAIL is further than its size ahead of HEAD. A fetched descriptor joins the work under its ring's index and frees its tag; the whole data of a source read joins its segment; a source read that ends with an error fails its descriptor. The next segment of an ACTIVE connection, its data and a key at hand and the PSN window, the peer's credit and the answer cells allowing, takes the next PSN, blocks and cells, and is due after RTO. The oldest descriptor of a running ring with room, completed and not deferred, has its record put in the next completion slot and leaves; an event has likewise, under the count of events. -/
def Obligations.RingsAndDescriptors : Prop :=
  (∀ (s : State) (path : Path) (r : Fin 64), reaches s path (RMA.RING_CTRL r) = true → s.flag (RMA.RING_CTRL_ENABLE r) = false →
    ∃ t, exec (.ringEnable path r) s = .next t ∧ t.regs = s.regs ∧ t.core = s.core ∧ t.rma = s.rma ∧
      t.img.checks = s.img.checks ++ [.enable ⟨path, RMA.RING_CTRL r, strobe s (RMA.RING_CTRL_ENABLE r) 0x1FFF⟩]) ∧
  (∀ (s u : State) (path : Path) (r : Fin 64) (val : Word) (rest : List CheckReq), s.img.checks = .enable ⟨path, RMA.RING_CTRL r, val⟩ :: rest →
    s.img.stalled = [] → u = { s with img := { s.img with checks := rest } } → s.flag (RMA.RING_CTRL_ENABLE r) = false → val.toNat.testBit 0 = true →
    s.flag (RMA.RING_OWNER_VALID r) = true → 3 ≤ s.mode → s.mode ≠ 7 → 4 ≤ fieldOf val 1 5 → fieldOf val 1 5 ≤ 15 → checkState u (liveRd u) = none →
    ∃ t, exec .checkerResult s = .next t ∧ t.flag (RMA.RING_STATUS_RUNNING r) = true ∧ t.flag (RMA.RING_CTRL_ENABLE r) = true ∧
      t.get (RMA.RING_CTRL_SIZE_EXP r) = fieldOf val 1 5 ∧ t.rd (RMA.RING_SQ_TAIL r) = 0 ∧ t.rd (RMA.RING_SQ_HEAD r) = 0 ∧
      t.rd (RMA.RING_CQ_HEAD r) = 0 ∧ t.rd (RMA.RING_CQ_TAIL r) = 0 ∧ (t.ring r).fetch = 0 ∧ (t.ring r).done = 0 ∧
      (∀ w ∈ t.rma.works, w.ring ≠ r) ∧ t.get (RMA.RING_STATUS_REASON r) = 0 ∧ t.core = s.core ∧
      (∀ o, (o < RMA.RING_CTRL r ∨ RMA.RING_STATUS r + 4 ≤ o) → o ≠ GLB.COMMIT_OFFENDER → t.rd o = s.rd o)) ∧
  (∀ (s : State) (path : Path) (r : Fin 64) (val : Word) (rest : List CheckReq), s.img.checks = .enable ⟨path, RMA.RING_CTRL r, val⟩ :: rest →
    s.img.stalled = [] → s.flag (RMA.RING_CTRL_ENABLE r) = false → val.toNat.testBit 0 = true →
    (s.flag (RMA.RING_OWNER_VALID r) = false ∨ s.mode < 3) →
    ∃ t, exec .checkerResult s = .next t ∧ t.get (RMA.RING_STATUS_REASON r) = (if s.flag (RMA.RING_OWNER_VALID r) then 0x16 else 0x90) ∧
      (∀ o, o ≠ RMA.RING_STATUS r → o ≠ GLB.COMMIT_OFFENDER → t.rd o = s.rd o) ∧ t.flag (RMA.RING_STATUS_RUNNING r) = s.flag (RMA.RING_STATUS_RUNNING r) ∧
      t.rma = s.rma ∧ t.core = s.core) ∧
  (∀ (s : State) (path : Path) (r : Fin 64), reaches s path (RMA.RING_CTRL r) = true → s.flag (RMA.RING_OWNER_VALID r) = true →
    s.flag (RMA.RING_CTRL_ENABLE r) = true → checkPending s (RMA.RING_CTRL r) = false →
    ∃ t, exec (.ringDisable path r) s = .next t ∧ t.flag (RMA.RING_STATUS_RUNNING r) = false ∧ t.flag (RMA.RING_CTRL_ENABLE r) = false ∧
      (∀ w ∈ t.rma.works, w.ring ≠ r) ∧ t.core = s.core ∧ t.ledger = s.ledger ∧ RegsOutside s t (RMA.RING_CTRL r) (RMA.RING_STATUS r + 4)) ∧
  (∀ (s : State) (path : Path) (r : Fin 64) (tail : BitVec 16), reaches s path (RMA.RING_SQ_TAIL r) = true →
    ∃ t, ∃ u : State, u = s.set (RMA.RING_SQ_TAIL_COUNT r) tail.toNat ∧ exec (.ringDoorbell path r tail) s = .next t ∧
      t = (if s.flag (RMA.RING_STATUS_RUNNING r) = false then u
           else if ringSize s r < (tail.toNat + 65536 - s.get (RMA.RING_SQ_HEAD_COUNT r)) % 65536 then
             ((u.set (RMA.RING_STATUS_RUNNING r) 0).set (RMA.RING_STATUS_ERR r) 1).raiseFaultFor 41 UC r (some (s.get (RMA.RING_OWNER_PART r)))
           else u.rmaPump)) ∧
  (∀ (s : State) (r : Fin 64) (bytes : List Byte) (x : RmaRead), s.rma.reads.find? (fun y => y.what = 0 && y.ring = r.val) = some x →
    s.rma.reads.find? (fun y => y.tag = x.tag) = some x → readQueued s (.rmaRead x.tag) = false → 64 ≤ bytes.length → x.len = 64 → x.got = [] →
    ∃ t, ∃ u : State, exec (.rmaDescriptorFetched r bytes) s = .next t ∧ t = u.rmaPump ∧ u.rma.works = s.rma.works ++ [workOf s r (bytes.take 64)] ∧
      (u.ring r).fetch = ((s.ring r).fetch + 1) % 2 ^ 32 ∧ u.get (RMA.RING_SQ_HEAD_COUNT r) = ((s.ring r).fetch + 1) % 65536 ∧
      (∀ y ∈ u.rma.reads, y.tag ≠ x.tag) ∧ u.core.pkts = s.core.pkts) ∧
  (∀ (s : State) (tag : Nat) (data : List Byte) (x : RmaRead), readQueued s (.rmaRead tag) = false → s.rma.reads.find? (fun y => y.tag = tag) = some x →
    x.what = 1 → x.got = [] → x.len ≤ data.length →
    ∃ t, ∃ u : State, exec (.rmaHostReadComplete tag .ok data) s = .next t ∧ t = u.rmaPump ∧ (∀ y ∈ u.rma.reads, y.tag ≠ tag) ∧
      u.rma.works = s.rma.works.map (fun w => if w.id = x.work then
        { w with segs := w.segs.modify x.seg (fun g => { g with parts := g.parts ++ [(x.off, data.take x.len)] }) } else w)) ∧
  (∀ (s : State) (tag : Nat) (status : HostStatus) (data : List Byte) (x : RmaRead), status ≠ .ok → readQueued s (.rmaRead tag) = false →
    s.rma.reads.find? (fun y => y.tag = tag) = some x → x.what = 1 →
    ∃ t, ∃ u : State, exec (.rmaHostReadComplete tag status data) s = .next t ∧ t = u.rmaPump ∧ (∀ y ∈ u.rma.reads, y.tag ≠ tag) ∧
      u.rma.works = s.rma.works.map (fun w => if w.id = x.work ∧ w.status = none then { w with status := some (if status = .guard then 2 else 3) } else w)) ∧
  (∀ (s u : State) (c : Fin 1024) (w : Work) (i : Nat) (g : Seg), u = s.rmaPump → nextSeg u c = some (w, i, g) → rmaCarries u = true → (u.conn c).state = 2 →
    (w.op = 2 ∨ g.len ≤ (joinParts g.parts).length) → (cryptoKey u c false (u.conn c).phase).isSome = true →
    (u.conn c).unacked.find? (fun x => x.kind = 0) = none → (u.conn c).unacked.length < 1024 →
    (match (u.conn c).unacked with | x :: _ => psnSub (u.conn c).psn x.psn | [] => 0) < 1024 →
    psnSub (u.conn c).peerLimit ((u.conn c).sentBlocks + blocksNeeded w.op g.len) < 2 ^ 23 →
    u.get BRG.RSP_BUDGET_USED + (if w.op = 1 then 1 else 2 * ceilDiv g.len 64) ≤ u.get BRG.RSP_BUDGET_CELLS →
    ∃ t, exec (.rmaSegmentSend c) s = .next t ∧ (t.conn c).psn = ((u.conn c).psn + 1) % 2 ^ 24 ∧
      (t.conn c).sentBlocks = ((u.conn c).sentBlocks + blocksNeeded w.op g.len) % 2 ^ 24 ∧
      t.get BRG.RSP_BUDGET_USED = u.get BRG.RSP_BUDGET_USED + (if w.op = 1 then 1 else 2 * ceilDiv g.len 64) ∧
      ∃ x : Unacked, (t.conn c).unacked = (u.conn c).unacked ++ [x] ∧ x.psn = (u.conn c).psn ∧ x.kind = (if w.op = 1 then 0x20 else 0x21) ∧ x.sends = 1 ∧
        x.due = u.adv + usFt (u.get (ConnW.RTO_US c))) ∧
  (∀ (s u : State) (r : Fin 64) (w : Work) (st : Nat), u = s.rmaPump → u.flag (RMA.RING_STATUS_RUNNING r) = true → rmaCarries u = true →
    (u.get (RMA.RING_CQ_TAIL_COUNT r) + 65536 - u.get (RMA.RING_CQ_HEAD_COUNT r)) % 65536 < ringSize u r → (u.ring r).events = [] →
    u.rma.works.find? (fun x => x.ring = r.val && x.index = (u.ring r).done) = some w → w.status = some st → w.ckpt = none →
    (w.op = 3 ∨ u.flag (ConnW.FO_DEFER w.conn) = false) →
    ∃ t, ∃ v v' : State, exec (.completionRecordWrite r) s = .next t ∧ (∀ x ∈ v.rma.works, x.id ≠ w.id) ∧ (v.ring r).done = ((u.ring r).done + 1) % 2 ^ 32 ∧
      v.core = u.core ∧ v' = v.putRecord r w.tag w.index 0 st w.conn w.moved w.nak (w.flags.testBit 0) ∧ t = v'.rmaPump ∧
      v'.get (RMA.RING_CQ_TAIL_COUNT r) = (u.get (RMA.RING_CQ_TAIL_COUNT r) + 1) % 65536) ∧
  (∀ (s u : State) (r : Fin 64) (e : RingEvent) (rest : List RingEvent), u = s.rmaPump → u.flag (RMA.RING_STATUS_RUNNING r) = true → rmaCarries u = true →
    (u.get (RMA.RING_CQ_TAIL_COUNT r) + 65536 - u.get (RMA.RING_CQ_HEAD_COUNT r)) % 65536 < ringSize u r → (u.ring r).events = e :: rest →
    ∃ t, ∃ v v' : State, exec (.completionRecordWrite r) s = .next t ∧ (v.ring r).events = rest ∧ (v.ring r).evCount = ((u.ring r).evCount + 1) % 2 ^ 32 ∧
      v.rma.works = u.rma.works ∧ v' = v.putRecord r 0 (u.ring r).evCount 1 e.status e.index 0 0 (u.flag (RMA.RING_CTRL_EVT_EN r)) ∧ t = v'.rmaPump ∧
      v'.get (RMA.RING_CQ_TAIL_COUNT r) = (u.get (RMA.RING_CQ_TAIL_COUNT r) + 1) % 65536)

/-- REGISTER of a pool index that is not VALID or REVOKING, with a ring its partition owns, gives the key its next generation, rights and ring; REVOKE of a VALID key makes it REVOKED, or REVOKING while accesses are in flight; FREE of a REVOKED one keeps its generation alone; outside the pool each shows 0x94 and no key changes. KEY_POOL takes a pool that overlaps none and holds every key in use; one past the table's end only shows 0x94. CONN_DATA takes words 0 to 2 while the connection is FREE, else shows 0x10; word 3 takes nothing. OPEN that passes its tests makes the connection OPENING with its timer due, else shows the reason; CLOSE of one neither FREE nor CLOSING makes it CLOSING, drops its PSNs and staging and ends its started descriptors; a CLOSING one with nothing in service is FREE, its record and its crypto slots empty; SWITCH_KEY of an ACTIVE or LIMIT one whose other TX slot holds a key changes phase with the counter at 0, and it is ACTIVE. LOAD moves the eight key words into the slot CRYPTO_SEL names and clears them, ZERO empties it; of a slot in use each shows 0x96 and changes no slot. Single-bit errors are corrected; a double-bit one makes the key INVALID, the connection BROKEN, stops the ring, or empties the crypto slot of a FREE connection; each raises its fault. -/
def Obligations.KeysConnectionsAndCrypto : Prop :=
  (∀ (s : State) (path : Path) (p : Fin 32) (i : Nat), reaches s path (RMA.KEYCMD_CMD p) = true → s.get (RMA.KEYCMD_INDEX_INDEX p) = i → inPool s p i = true →
    (s.memKey i).state ≠ 1 → (s.memKey i).state ≠ 2 → s.flag (RMA.RING_OWNER_VALID (s.get (RMA.KEYCMD_PASID_RING p))) = true →
    s.get (RMA.RING_OWNER_PART (s.get (RMA.KEYCMD_PASID_RING p))) = p →
    ∃ t, exec (.keyRegister path p) s = .next t ∧ t.memKey i =
        { state := 1, gen := ((s.memKey i).gen + 1) % 4096, part := p, pasid := s.get (RMA.KEYCMD_PASID_PASID p),
          read := s.flag (RMA.KEYCMD_PASID_READ p), write := s.flag (RMA.KEYCMD_PASID_WRITE p), ring := s.get (RMA.KEYCMD_PASID_RING p),
          inflight := (s.memKey i).inflight } ∧
      (∀ j, j ≠ i → t.memKey j = s.memKey j) ∧ t.get (RMA.KEYCMD_RESULT_RESULT p) = 0 ∧ t.core = s.core ∧
      RegsOutside s t (RMA.KEYCMD_RESULT p) (RMA.KEYCMD_RESULT p + 4)) ∧
  (∀ (s : State) (path : Path) (p : Fin 32) (i : Nat), reaches s path (RMA.KEYCMD_CMD p) = true → s.get (RMA.KEYCMD_INDEX_INDEX p) = i → inPool s p i = true →
    (s.memKey i).state = 1 →
    ∃ t, exec (.keyRevoke path p) s = .next t ∧ t.memKey i = { s.memKey i with state := if (s.memKey i).inflight = 0 then 3 else 2 } ∧
      (∀ j, j ≠ i → t.memKey j = s.memKey j) ∧ t.get (RMA.KEYCMD_RESULT_RESULT p) = 0 ∧ t.core = s.core ∧
      RegsOutside s t (RMA.KEYCMD_RESULT p) (RMA.KEYCMD_RESULT p + 4)) ∧
  (∀ (s : State) (path : Path) (p : Fin 32) (i : Nat), reaches s path (RMA.KEYCMD_CMD p) = true → s.get (RMA.KEYCMD_INDEX_INDEX p) = i → inPool s p i = true →
    (s.memKey i).state = 3 →
    ∃ t, exec (.keyFree path p) s = .next t ∧ t.memKey i = { gen := (s.memKey i).gen } ∧ (∀ j, j ≠ i → t.memKey j = s.memKey j) ∧
      t.get (RMA.KEYCMD_RESULT_RESULT p) = 0 ∧ t.core = s.core ∧ RegsOutside s t (RMA.KEYCMD_RESULT p) (RMA.KEYCMD_RESULT p + 4)) ∧
  (∀ (s : State) (path : Path) (p : Fin 32) (c : Instr), (c = .keyRegister path p ∨ c = .keyRevoke path p ∨ c = .keyFree path p) →
    reaches s path (RMA.KEYCMD_CMD p) = true → inPool s p (s.get (RMA.KEYCMD_INDEX_INDEX p)) = false →
    ∃ t, exec c s = .next t ∧ t.get (RMA.KEYCMD_RESULT_RESULT p) = 0x94 ∧ t.rma = s.rma ∧ t.core = s.core ∧
      RegsOutside s t (RMA.KEYCMD_RESULT p) (RMA.KEYCMD_RESULT p + 4)) ∧
  (∀ (s : State) (path : Path) (p : Fin 32) (val : Word), reaches s path (RMA.KEY_POOL p) = true → fieldOf val 0 12 + fieldOf val 12 13 ≤ 4096 →
    (∀ q : Fin 32, q ≠ p → fieldOf val 12 13 = 0 ∨ s.get (RMA.KEY_POOL_COUNT q) = 0 ∨ fieldOf val 0 12 + fieldOf val 12 13 ≤ s.get (RMA.KEY_POOL_BASE q) ∨
      s.get (RMA.KEY_POOL_BASE q) + s.get (RMA.KEY_POOL_COUNT q) ≤ fieldOf val 0 12) →
    (∀ e ∈ s.rma.keys, e.2.state = 0 ∨ inPool s p e.1 = false ∨ (fieldOf val 0 12 ≤ e.1 ∧ e.1 < fieldOf val 0 12 + fieldOf val 12 13)) →
    ∃ t, exec (.keyPoolWrite path p val) s = .next t ∧ t.rd (RMA.KEY_POOL p) = val &&& 0x1FFFFFF ∧ t.get RMA.STATUS_REASON = 0 ∧ t.rma = s.rma ∧
      t.core = s.core) ∧
  (∀ (s : State) (path : Path) (p : Fin 32) (val : Word), reaches s path (RMA.KEY_POOL p) = true → 4096 < fieldOf val 0 12 + fieldOf val 12 13 →
    ∃ t, exec (.keyPoolWrite path p val) s = .next t ∧ t = s.set RMA.STATUS_REASON 0x94) ∧
  (∀ (s : State) (path : Path) (k : Fin 4) (val : Word), reaches s path (RMA.CONN_DATA0 + 4 * k.val) = true →
    ∃ t, exec (.connDataWrite path k val) s = .next t ∧ t.rma = s.rma ∧ t.core = s.core ∧
      (if k = 3 then t = s else if (s.conn (s.get RMA.CONN_SEL_INDEX)).state ≠ 0 then t = s.set RMA.STATUS_REASON 0x10
       else t.get RMA.STATUS_REASON = 0 ∧ t.rd (ConnW.word (s.get RMA.CONN_SEL_INDEX) k) =
         val &&& (if k = 0 then 0xFFFF3FFF else if k = 1 then 0xFFFF07FF else 0x3FFF))) ∧
  (∀ (s : State) (path : Path) (c : Nat), reaches s path RMA.CONN_CMD = true → s.get RMA.CONN_SEL_INDEX = c → openRefusal s c = 0 →
    ∃ t, exec (.connOpen path) s = .next t ∧ (t.conn c).state = 1 ∧ (t.conn c).timerDl = some s.adv ∧ (t.conn c).psn = 0 ∧ (t.conn c).rxNext = 0 ∧
      (t.conn c).counter = 0 ∧ t.get RMA.CONN_RESULT_REASON = 0 ∧ (∀ d, d ≠ c → t.conn d = s.conn d) ∧ t.core = s.core ∧ t.rma.crypto = s.rma.crypto) ∧
  (∀ (s : State) (path : Path) (c : Nat), reaches s path RMA.CONN_CMD = true → s.get RMA.CONN_SEL_INDEX = c → openRefusal s c ≠ 0 →
    ∃ t, exec (.connOpen path) s = .next t ∧ t = s.set RMA.CONN_RESULT_REASON (openRefusal s c)) ∧
  (∀ (s : State) (path : Path) (c : Nat), reaches s path RMA.CONN_CMD = true → s.get RMA.CONN_SEL_INDEX = c → (s.conn c).state ≠ 0 → (s.conn c).state ≠ 5 →
    ∃ t, ∃ u : State, exec (.connClose path) s = .next t ∧ t = u.rmaPump ∧ (u.conn c).state = 5 ∧ (u.conn c).unacked = [] ∧
      (∀ x ∈ u.rma.staging, x.conn ≠ c) ∧ (∀ w ∈ u.rma.works, w.conn = c → w.started = true → w.status ≠ none) ∧
      u.get RMA.CONN_RESULT_REASON = 0 ∧ u.core = s.core) ∧
  (∀ (s : State) (c : Fin 1024), (s.conn c).state = 5 → s.rma.serving.any (fun x => x.conn = c.val) = false →
    ∃ t, exec (.connCloseComplete c) s = .next t ∧ t.conn c = {} ∧ (∀ rx ph, cryptoKey t c rx ph = none) ∧ (∀ d, d ≠ c.val → t.conn d = s.conn d) ∧
      t.core = s.core) ∧
  (∀ (s : State) (path : Path) (c : Nat), reaches s path RMA.CONN_CMD = true → s.get RMA.CONN_SEL_INDEX = c →
    ((s.conn c).state = 2 ∨ (s.conn c).state = 3) → (cryptoKey s c false ((s.conn c).phase + 1)).isSome = true →
    ∃ t, exec (.connSwitchKey path) s = .next t ∧ (t.conn c).phase = ((s.conn c).phase + 1) % 2 ∧ (t.conn c).counter = 0 ∧ (t.conn c).state = 2 ∧
      (t.conn c).unacked = (s.conn c).unacked ∧ t.get RMA.CONN_RESULT_REASON = 0 ∧ t.core = s.core) ∧
  (∀ (s : State) (path : Path), reaches s path RMA.CRYPTO_SEL = true → selInUse s (s.rd RMA.CRYPTO_SEL) = false →
    ∃ t, exec (.cryptoLoad path) s = .next t ∧ SMap.get (fun _ => none) t.rma.crypto (selSlot (s.rd RMA.CRYPTO_SEL)) =
        some ((List.range 8).map (fun i => leBytes 4 (s.rd (RMA.CRYPTO_KEY i)).toNat)).flatten ∧
      (∀ i : Fin 8, t.rd (RMA.CRYPTO_KEY i) = 0) ∧ t.get RMA.STATUS_REASON = 0 ∧ t.rma.conns = s.rma.conns ∧ t.core = s.core) ∧
  (∀ (s : State) (path : Path), reaches s path RMA.CRYPTO_SEL = true → selInUse s (s.rd RMA.CRYPTO_SEL) = false →
    ∃ t, exec (.cryptoZero path) s = .next t ∧ SMap.get (fun _ => none) t.rma.crypto (selSlot (s.rd RMA.CRYPTO_SEL)) = none ∧
      t.get RMA.STATUS_REASON = 0 ∧ t.rma.conns = s.rma.conns ∧ t.core = s.core) ∧
  (∀ (s : State) (path : Path) (c : Instr), (c = .cryptoLoad path ∨ c = .cryptoZero path) → reaches s path RMA.CRYPTO_SEL = true →
    selInUse s (s.rd RMA.CRYPTO_SEL) = true → ∃ t, exec c s = .next t ∧ t.get RMA.STATUS_REASON = 0x96 ∧ t.rma = s.rma ∧ t.core = s.core) ∧
  (∀ (s : State) (what : RmaEcc), ∃ t, exec (.rmaEccError what false) s = .next t ∧ t = (s.set RMA.STATUS_ECC_CE 1).raiseFault 41 CE 0xFFFF) ∧
  (∀ (s : State) (k : Fin 4096), ∃ t, ∃ u : State, exec (.rmaEccError (.key k) true) s = .next t ∧ (u.memKey k).state = 0 ∧ u.flag RMA.STATUS_ECC_UE = true ∧
    u.core = s.core ∧ t = u.raiseFaultFor 41 UC k (some (s.memKey k).part)) ∧
  (∀ (s : State) (c : Fin 1024), (s.conn c).state ≠ 0 → (s.conn c).state ≠ 4 → ∃ t, ∃ u : State, exec (.rmaEccError (.conn c) true) s = .next t ∧
    (u.conn c).state = 4 ∧ (u.conn c).unacked = [] ∧ u.core = s.core ∧ t = u.raiseFaultFor 41 UC c (some (s.get (ConnW.PART c)))) ∧
  (∀ (s : State) (r : Fin 64), ∃ t, ∃ u : State, exec (.rmaEccError (.ring r) true) s = .next t ∧ u.flag (RMA.RING_STATUS_RUNNING r) = false ∧
    u.flag (RMA.RING_STATUS_ERR r) = true ∧ u.core = s.core ∧ t = u.raiseFaultFor 41 UC r (some (s.get (RMA.RING_OWNER_PART r)))) ∧
  (∀ (s : State) (c : Fin 1024) (rx phase : Bool), (s.conn c).state = 0 →
    ∃ t, ∃ u : State, exec (.cryptoEccError c rx phase true) s = .next t ∧ cryptoKey u c rx (bit phase) = none ∧ u.core = s.core ∧
      t = u.raiseFaultFor 42 UC c (some (s.get (ConnW.PART c)))) ∧
  (∀ (s : State) (c : Fin 1024) (rx phase : Bool), ∃ t, exec (.cryptoEccError c rx phase false) s = .next t ∧
    t = (s.set RMA.STATUS_ECC_CE 1).raiseFaultFor 42 CE c (some (s.get (ConnW.PART c))))

/-- An RMA packet `p` of KIND `kind` arrives on bundle `b` for this device, which carries RMA traffic; `u` is the state once its engine has taken it
from the bundle's ingress buffer, `r` its header (R356, R366). -/
abbrev Sys2Proof.RmaArrives (s u : State) (b : Fin 4) (p : Tfp) (kind : Nat) (r : RmaHdr) (cipher tag : List Byte) : Prop :=
  u = s.takeRx b p ∧ p.hdr.kind = kind ∧ p.body = .rma r cipher tag ∧ u.flag (BRG.BUNDLE_DRAIN_STATUS_SHED b) = false ∧ forHere u p.hdr.dstDev = true ∧
    rmaCarries u = true

/-- A WRITE that does not authenticate is only counted while the record is full. On an ACTIVE go-back-N connection the PSN expected enters staging with the fields of its body, RX_NEXT rises and an ACK is due; a PSN before it is a duplicate, counted, and stages nothing. Kinds 0x27 to 0x3F count in BAD_KIND with UC. The oldest packet in staging leaves it: one its key refuses is not served and its credits count as consumed, any other is validated. A READ_RESP for a PSN already answered is a duplicate, counted and acknowledged; one with status 0 frees its PSN and its data is written. An ACK frees every PSN that it covers, makes an OPENING connection ACTIVE and gives it the peer's limit. A NAK other than SEQ frees its PSN and ends its descriptor. RESUME and RESUME_ACK realign the receive side; the second makes a RESUMING connection with nothing unacknowledged ACTIVE. The retransmit timer counts every PSN due as sent once more with a new deadline, and breaks the connection of a PSN that has used up its retries; the open timer acknowledges and starts again; the resume timer counts a retry, or breaks the connection at the limit; the ACK timer answers an ACK due. -/
def Obligations.RmaPacketsAndTimers : Prop :=
  (∀ (s u : State) (b : Fin 4) (p : Tfp) (r : RmaHdr) (cipher tag : List Byte), RmaArrives s u b p 0x20 r cipher tag → openRma u p r cipher tag = none →
    u.flag RMA.AUTH_REC_VALID = true →
    ∃ t, exec (.rmaPacketReceive b p) s = .next t ∧ t = u.addSat RMA.AUTH_COUNT_V 1) ∧
  (∀ (s u : State) (b : Fin 4) (p : Tfp) (r : RmaHdr) (cipher tag data : List Byte) (kind body : Nat) (c : Fin 1024), (kind = 0x20 ∨ kind = 0x21) →
    RmaArrives s u b p kind r cipher tag → openRma u p r cipher tag = some (body, data) → r.dstConn = c → (u.conn c).state = 2 →
    u.get (ConnW.MODE c) = 0 → r.psn = (u.conn c).rxNext → r.psn ∉ (u.conn c).rxMap →
    ∃ t, exec (.rmaPacketReceive b p) s = .next t ∧ (t.conn c).rxNext = ((u.conn c).rxNext + 1) % 2 ^ 24 ∧ (t.conn c).ackDue = true ∧ t.core = u.core ∧
      ∃ x : RmaRx, t.rma.staging = u.rma.staging ++ [x] ∧ x.conn = c ∧ x.psn = r.psn ∧ x.isRead = decide (kind = 0x21) ∧ x.key = bitsHiLo body 127 116 ∧
        x.kgen = bitsHiLo body 115 104 ∧ x.addr = bitsHiLo body 103 40 ∧ x.len = bitsHiLo body 39 27) ∧
  (∀ (s u : State) (b : Fin 4) (p : Tfp) (r : RmaHdr) (cipher tag data : List Byte) (kind body : Nat) (c : Fin 1024), (kind = 0x20 ∨ kind = 0x21) →
    RmaArrives s u b p kind r cipher tag → openRma u p r cipher tag = some (body, data) → r.dstConn = c → (u.conn c).state = 2 →
    2 ^ 23 ≤ psnSub r.psn (u.conn c).rxNext →
    ∃ t, exec (.rmaPacketReceive b p) s = .next t ∧ t.rma.staging = u.rma.staging ∧ (t.conn c).rxNext = (u.conn c).rxNext ∧
      t.get RMA.DUP_V = min (2 ^ (RMA.DUP_V).n - 1) (u.get RMA.DUP_V + 1)) ∧
  (∀ (s u : State) (b : Fin 4) (p : Tfp), 0x27 ≤ p.hdr.kind → p.hdr.kind ≤ 0x3F → u = s.takeRx b p →
    ∃ t, exec (.rmaPacketReceive b p) s = .next t ∧ t = (u.addSat RMA.BAD_KIND_V 1).raiseFault 41 UC (112 + b.val)) ∧
  (∀ (s : State) (x : RmaRx) (rest : List RmaRx), s.rma.staging = x :: rest → rmaCarries s = true → keyRefusal s x ≠ 0 → x.conn < 1024 →
    ∃ t, exec .rmaStagingTake s = .next t ∧ t.rma.staging = rest ∧ t.rma.serving = s.rma.serving ∧ t.rma.keys = s.rma.keys ∧
      (t.conn x.conn).consumed = ((s.conn x.conn).consumed + (if x.isRead then 1 else ceilDiv x.len 256)) % 2 ^ 24) ∧
  (∀ (s : State) (x : RmaRx) (rest : List RmaRx), s.rma.staging = x :: rest → rmaCarries s = true → keyRefusal s x = 0 →
    ∃ t, exec .rmaStagingTake s = .next t ∧ t = ((s.consumeRx x).validate x).creditAck x.conn ∧ (s.consumeRx x).rma.staging = rest) ∧
  (∀ (s u : State) (b : Fin 4) (p : Tfp) (r : RmaHdr) (cipher tag data : List Byte) (body : Nat) (c : Fin 1024), RmaArrives s u b p 0x22 r cipher tag →
    openRma u p r cipher tag = some (body, data) → r.dstConn = c → (u.conn c).state = 2 → workOfPsn u c (bitsHiLo body 127 104) = none →
    ∃ t, exec (.readRespReceive b p) s = .next t ∧ t = ((u.onConn c (fun k => { k with rxPhase := r.phase % 2 })).addSat RMA.DUP_V 1).sendAck c) ∧
  (∀ (s u : State) (b : Fin 4) (p : Tfp) (r : RmaHdr) (cipher tag data : List Byte) (body : Nat) (c : Fin 1024) (w : Work) (i : Nat) (g : Seg),
    RmaArrives s u b p 0x22 r cipher tag → openRma u p r cipher tag = some (body, data) → r.dstConn = c → (u.conn c).state = 2 →
    workOfPsn u c (bitsHiLo body 127 104) = some (w, i) → w.segs[i]? = some g → bitsHiLo body 103 96 = 0 →
    ∃ t, ∃ v : State, exec (.readRespReceive b p) s = .next t ∧ (∀ x ∈ (v.conn c).unacked, x.psn ≠ bitsHiLo body 127 104) ∧ v.core = u.core ∧
      t = (v.writeLocal w g (data.take (bitsHiLo body 95 83))).rmaPump) ∧
  (∀ (s u : State) (b : Fin 4) (p : Tfp) (r : RmaHdr) (cipher tag data : List Byte) (body : Nat) (c : Fin 1024), RmaArrives s u b p 0x23 r cipher tag →
    openRma u p r cipher tag = some (body, data) → r.dstConn = c → ((u.conn c).state = 1 ∨ (u.conn c).state = 2) →
    ∃ t, ∃ v : State, exec (.rmaAckReceive b p) s = .next t ∧ t = v.rmaPump ∧ (v.conn c).state = 2 ∧ v.core = u.core ∧
      (∀ x, x ∈ (v.conn c).unacked ↔ x ∈ (u.conn c).unacked ∧ ¬ (psnSub (bitsHiLo body 127 104) x.psn < 2 ^ 23 ∨
        (1 ≤ psnSub x.psn (bitsHiLo body 127 104) ∧ psnSub x.psn (bitsHiLo body 127 104) ≤ 64 ∧
          (bitsHiLo body 103 40).testBit (psnSub x.psn (bitsHiLo body 127 104) - 1) = true))) ∧
      ((u.conn c).state = 1 → (v.conn c).peerLimit = bitsHiLo body 39 16)) ∧
  (∀ (s u : State) (b : Fin 4) (p : Tfp) (r : RmaHdr) (cipher tag data : List Byte) (body : Nat) (c : Fin 1024) (w : Work) (i : Nat),
    RmaArrives s u b p 0x24 r cipher tag → openRma u p r cipher tag = some (body, data) → r.dstConn = c → (u.conn c).state = 2 →
    bitsHiLo body 103 96 ≠ 9 → workOfPsn u c (bitsHiLo body 127 104) = some (w, i) →
    ∃ t, ∃ v : State, exec (.rmaNakReceive b p) s = .next t ∧ t = v.rmaPump ∧ (∀ x ∈ (v.conn c).unacked, x.psn ≠ bitsHiLo body 127 104) ∧
      (∀ x ∈ v.rma.works, x.id = w.id → x.status ≠ none) ∧ v.core = u.core) ∧
  (∀ (s u : State) (b : Fin 4) (p : Tfp) (r : RmaHdr) (cipher tag data : List Byte) (body : Nat) (c : Fin 1024), RmaArrives s u b p 0x25 r cipher tag →
    openRma u p r cipher tag = some (body, data) → r.dstConn = c → ((u.conn c).state = 2 ∨ (u.conn c).state = 6) →
    ∃ t, exec (.resumeReceive b p) s = .next t ∧ (t.conn c).rxNext = bitsHiLo body 103 80 ∧ (t.conn c).rxMap = [] ∧
      (t.conn c).peerLimit = bitsHiLo body 79 56) ∧
  (∀ (s u : State) (b : Fin 4) (p : Tfp) (r : RmaHdr) (cipher tag data : List Byte) (body : Nat) (c : Fin 1024), RmaArrives s u b p 0x26 r cipher tag →
    openRma u p r cipher tag = some (body, data) → r.dstConn = c → (u.conn c).state = 6 → (u.conn c).unacked = [] →
    ∃ t, exec (.resumeAckReceive b p) s = .next t ∧ (t.conn c).state = 2 ∧ (t.conn c).timerDl = none ∧ (t.conn c).resumes = 0 ∧
      (t.conn c).rxNext = bitsHiLo body 103 80 ∧ (t.conn c).peerLimit = bitsHiLo body 79 56 ∧ t.core = u.core) ∧
  (∀ (s : State) (c : Fin 1024), (s.conn c).state = 2 → rmaCarries s = true → ((s.conn c).unacked.map Unacked.psn).Nodup →
    (∀ x ∈ (s.conn c).unacked, x.due ≤ s.adv → x.sends ≤ s.get (ConnW.RETRY_LIMIT c)) →
    ∃ t, exec (.rmaRetransmitTimer c) s = .next t ∧ (t.conn c).unacked = (s.conn c).unacked.map (fun x =>
      if x.due ≤ s.adv then { x with sends := x.sends + 1, due := s.adv + usFt (s.get (ConnW.RTO_US c)) } else x)) ∧
  (∀ (s : State) (c : Fin 1024) (x : Unacked), (s.conn c).state = 2 → rmaCarries s = true → (s.conn c).unacked = [x] → x.due ≤ s.adv →
    s.get (ConnW.RETRY_LIMIT c) < x.sends →
    ∃ t, exec (.rmaRetransmitTimer c) s = .next t ∧ (t.conn c).state = 4 ∧ (t.conn c).unacked = [] ∧ t.core = s.core) ∧
  (∀ (s : State) (c : Fin 1024), (s.conn c).state = 1 → rmaCarries s = true → s.due (s.conn c).timerDl = true →
    ∃ t, exec (.connOpenAckTimer c) s = .next t ∧ (t.conn c).state = 1 ∧ (t.conn c).timerDl = some (s.adv + usFt (s.get (ConnW.RTO_US c))) ∧
      (t.conn c).ackDue = false ∧ (t.conn c).lastLimit = creditLimit s c) ∧
  (∀ (s : State) (c : Fin 1024), (s.conn c).state = 6 → rmaCarries s = true → s.due (s.conn c).timerDl = true →
    ∃ t, exec (.resumeSendTimer c) s = .next t ∧
      (if s.get (ConnW.RETRY_LIMIT c) ≤ (s.conn c).resumes then (t.conn c).state = 4 ∧ t.core = s.core
       else (t.conn c).state = 6 ∧ (t.conn c).resumes = (s.conn c).resumes + 1 ∧ (t.conn c).timerDl = some (s.adv + usFt (s.get (ConnW.RTO_US c))))) ∧
  (∀ (s : State) (c : Fin 1024), (s.conn c).ackDue = true → rmaCarries s = true → connAnswers s c = true →
    ∃ t, exec (.rmaAckTimer c) s = .next t ∧ (t.conn c).ackDue = false ∧ (t.conn c).lastLimit = creditLimit s c ∧ t.rma.staging = s.rma.staging)

/-! ### Twin pairs (14) -/

/-- A twin message `p` of KIND `kind` with content `d` arrives on the twin link of a paired device; `u` is the state once it has left the bundle's
ingress buffer (R396). -/
abbrev Sys2Proof.TwinArrives (s u : State) (b : Fin 4) (p : Tfp) (kind : Nat) (d : List Byte) : Prop :=
  u = s.takeRx b p ∧ p.hdr.kind = kind ∧ p.body = .msg d ∧ bundleRole u b [4] = true ∧ u.twin.enable = true ∧ u.twin.bundle = b ∧
    u.get TWIN.STATUS_PAIR ≠ 0

/-- On an unpaired side a twin message only counts in BAD_MSG. A TW_HELLO is sent when due and sets its next time; in HELLO one whose fields fail leaves the pair REFUSED with the reason and cause; one that fits, with croak present and the link heard, leaves it SYNCING, the partner's mode and DevID shown. A state-hash difference of 1 ms with no commit staged returns IN_SYNC to SYNCING. A checkpoint that is due takes the next number, modulo 2^32, where none is in transmission; out of IN_SYNC nothing is sent. The first segment received of one waits for the others, or, being the whole, is taken in and acknowledged; an acknowledgement between the last and the newest shows in CKPT_SENT. TW_COMMIT starts the partner's check, or is refused with 0x11 while a commit or switch-over is under way or the images differ in an update; the word on it stages the snapshot or ends it with 0x11, as does the 10 ms timeout here. TW_SYNC gives the sequence number; TW_SYNC_DONE with the same hash ends SYNCING in IN_SYNC. A reserved role action is ignored and counted; HANDOVER to a SHADOW side in sync, from WORKER or MANAGER, waits for its epoch. A mirror error is corrected, or empties the mirror with cause 6. LOAD moves the eight key words into the pair key and clears them. -/
def Obligations.TwinMessages : Prop :=
  (∀ (s u : State) (b : Fin 4) (p : Tfp) (d : List Byte) (c : Instr), u = s.takeRx b p → bundleRole u b [4] = true → p.body = .msg d →
    (u.twin.enable = false ∨ u.get TWIN.STATUS_PAIR = 0) →
    ((c = .twHelloReceive b p ∧ p.hdr.kind = 0x60) ∨ (c = .twCkptReceive b p ∧ p.hdr.kind = 0x61) ∨ (c = .twCkptAckReceive b p ∧ p.hdr.kind = 0x62) ∨
     (c = .twCommitReceive b p ∧ p.hdr.kind = 0x63) ∨ (c = .twCommitResultReceive b p ∧ p.hdr.kind = 0x64) ∨ (c = .twRoleReceive b p ∧ p.hdr.kind = 0x65) ∨
     (c = .twSyncReceive b p ∧ p.hdr.kind = 0x66) ∨ (c = .twSyncDoneReceive b p ∧ p.hdr.kind = 0x67)) →
    ∃ t, exec c s = .next t ∧ t = u.addSat TWIN.BAD_MSG_COUNT 1) ∧
  (∀ s : State, s.twin.enable = true → 2 ≤ s.get TWIN.STATUS_PAIR → linkActive s s.twin.bundle = true → s.mode ≠ 7 → s.due s.twin.helloDl = true →
    ∃ t, exec .twHelloSend s = .next t ∧ t.twin.hello = helloBody s 0 ∧ t.twin.helloDl = some (s.adv + usFt 1000) ∧
      ∃ q ∈ t.core.pkts, q.id = s.core.nextId ∧ q.egress = 112 + s.twin.bundle ∧ ∃ h, q.body = .tfp ⟨h, .msg (helloBody s s.ledger.last)⟩ .mgt false ∧
        h.kind = 0x60 ∧ h.dstDev = 0x7FF) ∧
  (∀ (s u : State) (b : Fin 4) (p : Tfp) (d : List Byte) (reason cause : Nat), TwinArrives s u b p 0x60 d → d.length = 168 → u.get TWIN.STATUS_PAIR = 2 →
    helloFails (u.takeHello d) d = some (reason, cause) →
    ∃ t, ∃ v : State, exec (.twHelloReceive b p) s = .next t ∧ v.get TWIN.STATUS_PAIR = 7 ∧ v.get TWIN.STATUS_REASON = reason ∧
      v.get TWIN.STATUS_CAUSE = cause ∧ v.core = u.core ∧ t = (v.set TWIN.STATUS_CAUSE cause).raiseFault 46 UC 0xFFFF) ∧
  (∀ (s u : State) (b : Fin 4) (p : Tfp) (d : List Byte), TwinArrives s u b p 0x60 d → d.length = 168 → u.get TWIN.STATUS_PAIR = 2 →
    helloFails (u.takeHello d) d = none → u.twin.croakLost = false → u.twin.silent = false →
    ∃ t, exec (.twHelloReceive b p) s = .next t ∧ t.get TWIN.STATUS_PAIR = 3 ∧ t.get TWIN.PEER_DEVID = ofLe ((d.drop 2).take 2) % 2048 ∧
      t.get TWIN.PEER_MODE = ofLe ((d.drop 1).take 1) / 4 % 8) ∧
  (∀ (s : State) (h : Nat), s.twin.hashSince = some h → s.get TWIN.STATUS_PAIR = 4 → h + usFt 1000 ≤ s.adv → s.img.commit = none →
    ∃ t, exec .stateHashMismatch s = .next t ∧ t.get TWIN.STATUS_PAIR = 3 ∧ t.twin.hashSince = none) ∧
  (∀ s : State, s.twin.ckptDue = true → s.get TWIN.STATUS_PAIR = 4 → carries s.mode = true → linkActive s s.twin.bundle = true →
    (s.twin.flight = none ∨ (s.link s.twin.bundle).store.filterMap storedSegment ++ s.core.pkts.filterMap segmentOf = []) →
    ∃ t, exec .checkpointSend s = .next t ∧ t.twin.ckptDue = false ∧ t.twin.ckptSeq = (s.twin.ckptSeq + 1) % 2 ^ 32 ∧
      t.twin.flight.map Prod.fst = some ((s.twin.ckptSeq + 1) % 2 ^ 32)) ∧
  (∀ s : State, s.twin.ckptDue = true → s.get TWIN.STATUS_PAIR ≠ 4 →
    ∃ t, exec .checkpointSend s = .next t ∧ t.twin.ckptDue = false ∧ t.twin.ckptSeq = s.twin.ckptSeq ∧ t.core = s.core ∧ t.regs = s.regs) ∧
  (∀ (s u : State) (b : Fin 4) (p : Tfp) (d : List Byte), TwinArrives s u b p 0x61 d → u.twin.part = none →
    ∃ t, exec (.twCkptReceive b p) s = .next t ∧ (match whole [(ofLe ((d.drop 4).take 2), d)] with
      | none => t.twin.part = some (ofLe (d.take 4), [(ofLe ((d.drop 4).take 2), d)]) ∧ t.regs = u.regs ∧ t.core = u.core
      | some rs => ∃ v : State, t = v.sendTwin 0x62 (leBytes 4 (ofLe (d.take 4))) ∧
          v = (({ u with twin := { u.twin with part := none } }).wr TWIN.CKPT_RCVD (BitVec.ofNat 32 (ofLe (d.take 4)))).takeRecords (ofLe (d.take 4))
            (readRecords 65536 rs))) ∧
  (∀ (s u : State) (b : Fin 4) (p : Tfp) (d : List Byte) (seq : Nat), TwinArrives s u b p 0x62 d → ofLe (d.take 4) = seq →
    (seq + 2 ^ 32 - (u.rd TWIN.CKPT_SENT).toNat) % 2 ^ 32 ≠ 0 →
    (seq + 2 ^ 32 - (u.rd TWIN.CKPT_SENT).toNat) % 2 ^ 32 ≤ (u.twin.ckptSeq + 2 ^ 32 - (u.rd TWIN.CKPT_SENT).toNat) % 2 ^ 32 →
    ∃ t, exec (.twCkptAckReceive b p) s = .next t ∧ (t.rd TWIN.CKPT_SENT).toNat = seq % 2 ^ 32 ∧ t.twin.ackAt = u.adv ∧ t.core = u.core ∧
      t.twin.flight = (if u.twin.flight.map Prod.fst = some seq then none else u.twin.flight)) ∧
  (∀ (s u : State) (b : Fin 4) (p : Tfp) (d : List Byte), TwinArrives s u b p 0x63 d → u.get GLB.COMMIT_STATUS_STATE ≠ 1 → u.get GLB.COMMIT_STATUS_STATE ≠ 2 →
    u.get IMG.STATUS_STAGE_STATE ≠ 4 → u.get IMG.STATUS_STAGE_STATE ≠ 5 → u.flag TWIN.STATUS_UPDATE = false →
    ∃ t, exec (.twCommitReceive b p) s = .next t ∧ t.get GLB.COMMIT_STATUS_STATE = 1 ∧ t.core = u.core ∧ t.twin = u.twin ∧
      t.img.checks = u.img.checks ++ [.partner (ofLe ((d.drop 8).take 2)) (ofLe (d.take 8)) (wordsOfRecords (readRecords 65536 (d.drop 10)))]) ∧
  (∀ (s u : State) (b : Fin 4) (p : Tfp) (d : List Byte), TwinArrives s u b p 0x63 d → u.get GLB.COMMIT_STATUS_STATE ≠ 1 →
    (u.get GLB.COMMIT_STATUS_STATE = 2 ∨ u.get IMG.STATUS_STAGE_STATE = 4 ∨ u.get IMG.STATUS_STAGE_STATE = 5 ∨ u.flag TWIN.STATUS_UPDATE = true) →
    ∃ t, ∃ v : State, exec (.twCommitReceive b p) s = .next t ∧ v.regs = u.regs ∧ v.img = u.img ∧ v.core = u.core ∧
      t = v.pairAnswer (ofLe ((d.drop 8).take 2)) 0x11 0) ∧
  (∀ (s u : State) (b : Fin 4) (p : Tfp) (d : List Byte) (epoch : Nat) (snap : SMap Word), TwinArrives s u b p 0x64 d → u.twin.sent = none →
    u.twin.rcvd = some (ofLe (d.take 2), epoch, snap) →
    ∃ t, exec (.twCommitResultReceive b p) s = .next t ∧ t.twin.rcvd = none ∧ t.core = u.core ∧
      (if ofLe ((d.drop 2).take 1) = 0 then t.img.commit = some ⟨snap, false, epoch, true⟩ ∧ t.get GLB.COMMIT_STATUS_STATE = 2
       else t.img.commit = u.img.commit ∧ t.get GLB.COMMIT_STATUS_STATE = 4 ∧ t.get GLB.COMMIT_STATUS_REASON = 0x11)) ∧
  (∀ (s : State) (id dl : Nat), s.twin.sent = some (id, dl) → s.twin.result = none →
    ∃ t, exec .pairCommitTimeout s = .next t ∧ (if dl ≤ s.adv then t.twin.sent = none ∧ t.get GLB.COMMIT_STATUS_STATE = 4 ∧
      t.get GLB.COMMIT_STATUS_REASON = 0x11 else t = s)) ∧
  (∀ (s u : State) (b : Fin 4) (p : Tfp) (d : List Byte), TwinArrives s u b p 0x66 d →
    ∃ t, exec (.twSyncReceive b p) s = .next t ∧ t.twin.syncSeq = ofLe (d.take 4)) ∧
  (∀ (s u v : State) (b : Fin 4) (p : Tfp) (d : List Byte), TwinArrives s u b p 0x67 d → u.get TWIN.STATUS_PAIR = 3 →
    v = (u.twinEvent .roleMsg [0x67, ofLe (d.take 4)]).takeGens → stateHash v = (d.drop 4).take 32 →
    ∃ t, exec (.twSyncDoneReceive b p) s = .next t ∧ t.get TWIN.STATUS_PAIR = 4 ∧ t.twin.ackAt = u.adv) ∧
  (∀ (s u : State) (b : Fin 4) (p : Tfp) (d : List Byte), TwinArrives s u b p 0x65 d → (ofLe ((d.drop 0).take 1) = 0 ∨ 5 < ofLe ((d.drop 0).take 1)) →
    ∃ t, exec (.twRoleReceive b p) s = .next t ∧ t = u.addSat TWIN.BAD_MSG_COUNT 1) ∧
  (∀ (s u : State) (b : Fin 4) (p : Tfp) (d : List Byte), TwinArrives s u b p 0x65 d → 16 ≤ d.length → ofLe ((d.drop 0).take 1) = 3 → u.twin.arrange = 0 →
    u.mode = 5 → u.get TWIN.STATUS_PAIR = 4 → (u.get TWIN.PEER_MODE = 3 ∨ u.get TWIN.PEER_MODE = 4) →
    ∃ t, exec (.twRoleReceive b p) s = .next t ∧ t.twin.cmd = some (4, ofLe ((d.drop 8).take 8), u.get TWIN.PEER_MODE) ∧
      t.flag GLB.MODE_CHANGING = true ∧ t.mode = 5 ∧ t.core = u.core) ∧
  (∀ s : State, ∃ t, exec (.twinMirrorEcc false) s = .next t ∧ t = s.raiseFault 46 CE 0xFFFF) ∧
  (∀ s : State, s.get TWIN.STATUS_PAIR ≠ 3 → s.get TWIN.STATUS_PAIR ≠ 4 →
    ∃ t, ∃ v : State, exec (.twinMirrorEcc true) s = .next t ∧ v.twin.mirror = [] ∧ v.get TWIN.STATUS_CAUSE = 6 ∧ v.core = s.core ∧
      t = v.raiseFault 46 UC 0xFFFF) ∧
  (∀ (s : State) (path : Path), reaches s path TWIN.PAIR_KEY_CTRL = true →
    ∃ t, exec (.pairKeyLoad path) s = .next t ∧ t.twin.pairKey = some ((List.range 8).flatMap (fun k => leBytes 4 (s.rd (TWIN.PAIR_KEY k)).toNat)) ∧
      t.twin.iv = 0 ∧ (∀ k : Fin 8, t.rd (TWIN.PAIR_KEY k) = 0) ∧ t.flag TWIN.PAIR_KEY_CTRL_LOADED = true ∧ t.core = s.core ∧
      RegsOutside s t TWIN.PAIR_KEY_CTRL (TWIN.PAIR_KEY 8))

/-- A croak output that runs toggles when its time has come, by the internal timer on an unpaired side. An edge while croak is lost and no slot runs acquires its phase and shows CROAK_OK before the failover decision; the first edge of a slot centres it, a second counts in GLITCH. A slot without an edge raises MISSED to at most 2 here, one with an edge clears it. 1 ms of silence shows in LINK_OK before the decision. TAKE_OVER and STAND_DOWN outside SUSPECT show 0xB2, from another path than the MSP 0x09, and change no twin state, mode or packet; in SUSPECT the first makes a WORKER, MANAGER or SHADOW side DEGRADED with its partner lost and its alias on, and tells the partner where the link is heard; the second REFUSED, and a WORKER or MANAGER is on its way to SHADOW. DEMOTE, RESTORE and HANDBACK that nothing refuses wait for CMD_EPOCH with MODE.CHANGING, DEMOTE and HANDBACK with every data port reserved; one refused shows the reason and changes no twin state, mode, packet or port. At its epoch the mode changes. A planned drain of a port starts at its time with the port's deadline. RESYNC puts a side in SYNCING or IN_SYNC into SYNCING and does nothing in another state. -/
def Obligations.CroakAndRoles : Prop :=
  (∀ s : State, s.twin.enable = false → s.due s.twin.croakDl = true → s.twin.croakRun = true → s.flag TWIN.STATUS_CROAK_STOPPED = false → 1 ≤ s.mode → s.mode ≤ 6 →
    ∃ t, exec (.croakToggle 1) s = .next t ∧ t.twin.croakOut = s.twin.croakOut ^^^ 2 ∧ t.regs = s.regs ∧ t.core = s.core ∧
      t.twin.croakDl = some (s.twin.croakDl.getD s.adv + usFt 500)) ∧
  (∀ (s : State) (out : Fin 2), s.twin.enable = true → s.twin.toggle.contains out.val = true → s.twin.croakRun = true → s.get TWIN.STATUS_PAIR ≠ 0 →
    s.flag TWIN.STATUS_CROAK_STOPPED = false → 1 ≤ s.mode → s.mode ≤ 6 →
    ∃ t, exec (.croakToggle out) s = .next t ∧ t.twin.croakOut = s.twin.croakOut ^^^ 2 ^ out.val ∧ t.twin.toggle = s.twin.toggle.filter (· ≠ out.val) ∧
      t.regs = s.regs ∧ t.core = s.core) ∧
  (∀ s : State, s.twin.enable = true → s.get TWIN.STATUS_PAIR ≠ 0 → s.twin.center = none → s.twin.croakLost = true →
    ∃ t, ∃ v : State, exec .croakEdge s = .next t ∧ v.twin.croakLost = false ∧ v.twin.center = some s.adv ∧ v.flag TWIN.STATUS_CROAK_OK = true ∧
      v.get TWIN.CROAK_MISSED = 0 ∧ v.core = s.core ∧ t = v.judge) ∧
  (∀ (s : State) (c : Nat), s.twin.enable = true → s.get TWIN.STATUS_PAIR ≠ 0 → s.twin.center = some c → s.adv < c + usFt 250 → s.twin.croakLost = false →
    ∃ t, exec .croakEdge s = .next t ∧ t.twin.edges = s.twin.edges + 1 ∧ t.core = s.core ∧
      (s.twin.edges = 0 → t.twin.center = some s.adv ∧ t.get TWIN.CROAK_MISSED = 0) ∧
      (s.twin.edges = 1 → t.twin.center = some c ∧ t.get TWIN.CROAK_GLITCH = min 255 (s.get TWIN.CROAK_GLITCH + 1))) ∧
  (∀ (s : State) (c : Nat), s.twin.center = some c → c + usFt 250 ≤ s.adv → s.get TWIN.STATUS_PAIR ≠ 0 → (s.twin.edges ≠ 0 ∨ s.get TWIN.CROAK_MISSED < 2) →
    ∃ t, exec .croakSlotEnd s = .next t ∧ t.twin.center = some (c + usFt 500) ∧ t.twin.edges = 0 ∧ t.core = s.core ∧
      t.get TWIN.CROAK_MISSED = (if s.twin.edges ≠ 0 then 0 else s.get TWIN.CROAK_MISSED + 1)) ∧
  (∀ s : State, s.twin.enable = true → s.get TWIN.STATUS_PAIR ≠ 0 → s.twin.silent = false → (s.link s.twin.bundle).lastGood + usFt 1000 ≤ s.adv →
    ∃ t, ∃ v : State, exec .twinLinkSilent s = .next t ∧ v.twin.silent = true ∧ v.flag TWIN.STATUS_LINK_OK = false ∧ v.core = s.core ∧ t = v.judge) ∧
  (∀ (s : State) (path : Path) (c : Instr), (c = .twinTakeOver path ∨ c = .twinStandDown path) → path ≠ .msp →
    ∃ t, exec c s = .next t ∧ t.get TWIN.STATUS_REASON = 0x09 ∧ t.twin = s.twin ∧ t.mode = s.mode ∧ t.core = s.core) ∧
  (∀ (s : State) (c : Instr), (c = .twinTakeOver .msp ∨ c = .twinStandDown .msp) → reaches s .msp TWIN.DECIDE = true → s.get TWIN.STATUS_PAIR ≠ 5 →
    ∃ t, exec c s = .next t ∧ t.get TWIN.STATUS_REASON = 0xB2 ∧ t.twin = s.twin ∧ t.mode = s.mode ∧ t.core = s.core) ∧
  (∀ s : State, reaches s .msp TWIN.DECIDE = true → s.get TWIN.STATUS_PAIR = 5 → 3 ≤ s.mode → s.mode ≤ 5 →
    ∃ t, ∃ v : State, exec (.twinTakeOver .msp) s = .next t ∧ v.mode = 6 ∧ v.get TWIN.STATUS_PAIR = 6 ∧ v.get TWIN.STATUS_CAUSE = 5 ∧
      v.flag TWIN.PEER_ALIAS_ACTIVE = true ∧
      t = (if s.twin.silent then v.raiseFault 46 UC 0xFFFF else (v.raiseFault 46 UC 0xFFFF).sendTwin 0x65 (roleBody 2 0xFE 0))) ∧
  (∀ s : State, reaches s .msp TWIN.DECIDE = true → s.get TWIN.STATUS_PAIR = 5 →
    ∃ t, ∃ v : State, exec (.twinStandDown .msp) s = .next t ∧ v.get TWIN.STATUS_PAIR = 7 ∧ v.get TWIN.STATUS_CAUSE = 5 ∧ v.mode = s.mode ∧
      ((s.mode = 3 ∨ s.mode = 4) → v.twin.cmd = some (6, 0, 5) ∧ v.flag GLB.MODE_CHANGING = true) ∧ t = v.raiseFault 46 UC 0xFFFF) ∧
  (∀ (s : State) (path : Path), reaches s path TWIN.CTRL = true → roleRefusal s false false = none →
    ∃ t, exec (.twinDemote path) s = .next t ∧ t.twin.cmd = some (1, s.rd64 TWIN.CMD_EPOCH_LO, 5) ∧ t.flag GLB.MODE_CHANGING = true ∧ t.mode = s.mode ∧
      t.get TWIN.STATUS_REASON = 0 ∧ (∀ n ∈ dataPorts s, (t.paux n).reserved = true ∧ (t.paux n).drainAt =
        some (s.rd64 TWIN.CMD_EPOCH_LO - usFt (min 1000000 (max 1 (s.get (PORT.DRAIN_DEADLINE_DEADLINE_US n))))))) ∧
  (∀ (s : State) (path : Path), reaches s path TWIN.CTRL = true → roleRefusal s true false = none →
    ∃ t, exec (.twinRestore path) s = .next t ∧ t.twin.cmd = some (2, s.rd64 TWIN.CMD_EPOCH_LO, s.twin.former) ∧ t.flag GLB.MODE_CHANGING = true ∧
      t.mode = s.mode ∧ t.get TWIN.STATUS_REASON = 0 ∧ t.ports = s.ports) ∧
  (∀ (s : State) (path : Path), reaches s path TWIN.CTRL = true → roleRefusal s true true = none →
    ∃ t, exec (.twinHandback path) s = .next t ∧ t.twin.cmd = some (3, s.rd64 TWIN.CMD_EPOCH_LO, 5) ∧ t.flag GLB.MODE_CHANGING = true ∧ t.mode = s.mode ∧
      t.get TWIN.STATUS_REASON = 0 ∧ (∀ n ∈ dataPorts s, (t.paux n).reserved = true)) ∧
  (∀ (s : State) (path : Path) (i : Instr) (c : Nat), reaches s path TWIN.CTRL = true → ((i = .twinDemote path ∧ roleRefusal s false false = some c) ∨
    (i = .twinRestore path ∧ roleRefusal s true false = some c) ∨ (i = .twinHandback path ∧ roleRefusal s true true = some c)) →
    ∃ t, exec i s = .next t ∧ t.get TWIN.STATUS_REASON = c % 256 ∧ t.twin = s.twin ∧ t.mode = s.mode ∧ t.core = s.core ∧ t.ports = s.ports) ∧
  (∀ (s : State) (path : Path), reaches s path TWIN.CTRL = true →
    ∃ t, exec (.twinResync path) s = .next t ∧ (if s.get TWIN.STATUS_PAIR = 3 ∨ s.get TWIN.STATUS_PAIR = 4 then t.get TWIN.STATUS_PAIR = 3 else t = s)) ∧
  (∀ (s : State) (act epoch m : Nat), s.twin.cmd = some (act, epoch, m) → act ≠ 6 → epoch ≤ s.time.ft → (s.pwr.up < 4 ∨ 8 ≤ s.pwr.up) →
    ∃ t, exec .twinRoleEpoch s = .next t ∧ t.mode = m % 8 ∧ t.twin.cmd = none ∧ t.flag GLB.MODE_CHANGING = false) ∧
  (∀ (s : State) (n : Fin 96) (a act e m : Nat), (s.paux n).drainAt = some a → s.twin.cmd = some (act, e, m) → (act = 1 ∨ act = 3) → a ≤ s.time.ft →
    s.flag (PORT.CTRL_ENABLE n) = true → s.get (PORT.STATUS_DRAIN_STATE n) = 0 → s.flag (PORT.STATUS_SHED n) = false →
    ∃ t, exec (.demoteDrainStart n) s = .next t ∧ t.get (PORT.STATUS_DRAIN_STATE n) = 1 ∧ (t.paux n).drainAt = none ∧ (t.paux n).drainDl =
        some (s.adv + usFt (min 1000000 (max 1 (s.get (PORT.DRAIN_DEADLINE_DEADLINE_US n))))) ∧ t.core = s.core ∧
      RegsOutside s t (PORT.STATUS n) (PORT.STATUS n + 4))

/-! ### The fault collector (15) -/

/-- An event whose actions are none of interrupt, shed, failover and stop croak sets its source's status bit, raises LATCHED to its effective class, fills FIRST when that is free and else sets OVERFLOW, and touches no packet, port, RMA or twin state. Every event is the collector's reaction to its source, the class reported (3 as FATAL) and the instance, for the partition that owns it. Writing ones to the status words clears those bits with their LATCHED, but a FATAL capture of sources 36, 37 and 52 stays, and no other bit changes. Writing 1 to FIRST.VALID clears it. INJECT.GO on a path that holds class 0, with no reserved PortID for instance, is an event on source 63 with what INJECT holds; CLASS 0 raises none. SHED_CMD sheds the partition or bundle it names; UNSHED releases it, and every port of the partition that no capture and no DPC holds; while a latched capture holds it shed, UNSHED shows 0x45 and changes no other register and no packet. -/
def Obligations.FaultCollector : Prop :=
  (∀ (s : State) (src : Fin 64) (cls : Fin 4) (inst eff : Nat), eff = effClass s src (min 2 cls) →
    (∀ k ∈ [0, 2, 3, 4, 5], bitOf (actionsOf s src eff) k = false) →
    ∃ t, exec (.faultEvent src cls inst) s = .next t ∧ t.flag (statusBit src) = true ∧
      t.get (FLT.SRC_STAT_LATCHED src) = max (s.get (FLT.SRC_STAT_LATCHED src)) (eff + 1) ∧ t.core = s.core ∧ t.rma = s.rma ∧ t.twin = s.twin ∧
      t.ports = s.ports ∧ t.flag FLT.FIRST_VALID = true ∧
      (if s.flag FLT.FIRST_VALID then t.flag FLT.OVERFLOW_OVERFLOW = true ∧ t.rd FLT.FIRST = s.rd FLT.FIRST
       else t.get FLT.FIRST_SOURCE = src ∧ t.get FLT.FIRST_CLASS = eff + 1 ∧ t.get FLT.FIRST_INSTANCE = inst % 2 ^ 16)) ∧
  (∀ (s : State) (src : Fin 64) (cls : Fin 4) (inst : Nat), ∃ t, exec (.faultEvent src cls inst) s = .next t ∧
    t = s.raiseFaultFor src (min 2 cls) (inst % 2 ^ 16) (ownerOf s src (inst % 2 ^ 16))) ∧
  (∀ (s u : State) (path : Path) (mask : BitVec 64), u = s.actStatusClear (mask.toNat % 2 ^ 32) → reaches s path FLT.STATUS_LO = true →
    reaches u path FLT.STATUS_HI = true →
    ∃ t, exec (.faultStatusClear path mask) s = .next t ∧ t.core = s.core ∧ t.rd FLT.FIRST = s.rd FLT.FIRST ∧ t.rd FLT.OVERFLOW = s.rd FLT.OVERFLOW ∧
      ∀ k : Fin 64, if mask.toNat.testBit k = true ∧ stuckFatal s k = false ∧ s.flag (statusBit k) = true then
          t.flag (statusBit k) = false ∧ t.get (FLT.SRC_STAT_LATCHED k) = 0
        else t.flag (statusBit k) = s.flag (statusBit k) ∧ t.get (FLT.SRC_STAT_LATCHED k) = s.get (FLT.SRC_STAT_LATCHED k)) ∧
  (∀ (s : State) (path : Path), reaches s path FLT.FIRST = true →
    ∃ t, exec (.firstRearm path) s = .next t ∧ t.flag FLT.FIRST_VALID = false ∧ RegsOutside s t FLT.FIRST (FLT.FIRST + 4) ∧ t.core = s.core ∧
      t.flt = s.flt) ∧
  (∀ (s : State) (path : Path), reaches s path FLT.INJECT = true → hasClass s path 0 = true →
    (s.get FLT.INJECT_INSTANCE < 128 → reservedPort (s.get FLT.INJECT_INSTANCE) = false) →
    ∃ t, ∃ v : State, exec (.faultInject path) s = .next t ∧ RegsOutside s v FLT.INJECT (FLT.INJECT + 4) ∧ v.core = s.core ∧ v.rma = s.rma ∧
      v.get FLT.INJECT_CLASS = s.get FLT.INJECT_CLASS ∧ v.get FLT.INJECT_INSTANCE = s.get FLT.INJECT_INSTANCE ∧
      t = (if s.get FLT.INJECT_CLASS = 0 then v else v.raiseFaultFor 63 (s.get FLT.INJECT_CLASS - 1) (s.get FLT.INJECT_INSTANCE)
        (if s.flag FLT.INJECT_PART_VALID then some (s.get FLT.INJECT_PART) else none))) ∧
  (∀ (s : State) (path : Path), reaches s path FLT.SHED_CMD = true → s.get FLT.SHED_CMD_KIND = 0 →
    ∃ t, ∃ v : State, exec (.shedCmdShed path) s = .next t ∧ RegsOutside s v FLT.SHED_CMD (FLT.SHED_CMD + 4) ∧ v.core = s.core ∧ v.rma = s.rma ∧
      t = (v.shedPart (s.get FLT.SHED_CMD_TARGET) 2).set FLT.SHED_CMD_REASON 0 ∧
      (t.rd FLT.SHED_PART).toNat.testBit (s.get FLT.SHED_CMD_TARGET) = true) ∧
  (∀ (s : State) (path : Path), reaches s path FLT.SHED_CMD = true → s.get FLT.SHED_CMD_KIND = 1 → s.get FLT.SHED_CMD_TARGET < 4 →
    ∃ t, ∃ v : State, exec (.shedCmdShed path) s = .next t ∧ RegsOutside s v FLT.SHED_CMD (FLT.SHED_CMD + 4) ∧ v.core = s.core ∧ v.rma = s.rma ∧
      t = (v.shedBundle (s.get FLT.SHED_CMD_TARGET) 2).set FLT.SHED_CMD_REASON 0 ∧
      t.flag (BRG.BUNDLE_DRAIN_STATUS_SHED (s.get FLT.SHED_CMD_TARGET)) = true) ∧
  (∀ (s : State) (path : Path) (x : ShedTarget), reaches s path FLT.SHED_CMD = true → shedTarget s = some x → s.flt.sheds.any (fun e => e.2 = x) = true →
    ∃ t, exec (.shedCmdUnshed path) s = .next t ∧ t.get FLT.SHED_CMD_REASON = 0x45 ∧ t.core = s.core ∧ t.flt = s.flt ∧
      RegsOutside s t FLT.SHED_CMD (FLT.SHED_CMD + 4)) ∧
  (∀ (s : State) (path : Path), reaches s path FLT.SHED_CMD = true → s.get FLT.SHED_CMD_KIND = 0 →
    s.flt.sheds.any (fun e => e.2 = .part (s.get FLT.SHED_CMD_TARGET)) = false →
    ∃ t, exec (.shedCmdUnshed path) s = .next t ∧ t.get FLT.SHED_CMD_REASON = 0 ∧ t.core = s.core ∧
      (t.rd FLT.SHED_PART).toNat.testBit (s.get FLT.SHED_CMD_TARGET) = false ∧
      (∀ n ∈ partPorts s (s.get FLT.SHED_CMD_TARGET), faultHolds s n = false → s.flag (PORT.STATUS_DPC n) = false → t.flag (PORT.STATUS_SHED n) = false)) ∧
  (∀ (s : State) (path : Path), reaches s path FLT.SHED_CMD = true → s.get FLT.SHED_CMD_KIND = 1 → s.get FLT.SHED_CMD_TARGET < 4 →
    s.flt.sheds.any (fun e => e.2 = .bundle (s.get FLT.SHED_CMD_TARGET)) = false →
    ∃ t, exec (.shedCmdUnshed path) s = .next t ∧ t.get FLT.SHED_CMD_REASON = 0 ∧ t.core = s.core ∧
      t.flag (BRG.BUNDLE_DRAIN_STATUS_SHED (s.get FLT.SHED_CMD_TARGET)) = false)

/-- A write of 1 to FLT.FIRST.VALID clears it alone, and the next event, whatever its source and class, fills FIRST; a write of 0 leaves it. A write of 1 to FLT.OVERFLOW clears it, a write of 0 leaves it. None of these writes changes FLT.STATUS_LO or FLT.STATUS_HI. -/
def Obligations.FirstAndOverflowClear : Prop :=
  (∀ (s : State) (path : Path) (c : Instr), (c = .firstRearm path ∨ ∃ v : Word, v.toNat % 2 = 1 ∧ c = .registerWrite path (BitVec.ofNat 24 FLT.FIRST) v) →
    reaches s path FLT.FIRST = true →
    ∃ t, exec c s = .next t ∧ t.flag FLT.FIRST_VALID = false ∧ t.rd FLT.STATUS_LO = s.rd FLT.STATUS_LO ∧ t.rd FLT.STATUS_HI = s.rd FLT.STATUS_HI ∧
      t.get FLT.FIRST_CLASS = s.get FLT.FIRST_CLASS ∧ t.get FLT.FIRST_SOURCE = s.get FLT.FIRST_SOURCE ∧
      t.get FLT.FIRST_INSTANCE = s.get FLT.FIRST_INSTANCE ∧
      ∀ (src : Fin 64) (cls : Fin 4) (inst : Nat), ∃ u, exec (.faultEvent src cls inst) t = .next u ∧ u.flag FLT.FIRST_VALID = true ∧
        u.get FLT.FIRST_SOURCE = src ∧ u.get FLT.FIRST_INSTANCE = inst % 2 ^ 16) ∧
  (∀ (s : State) (path : Path) (v : Word), v.toNat % 2 = 0 → reaches s path FLT.FIRST = true →
    ∃ t, exec (.registerWrite path (BitVec.ofNat 24 FLT.FIRST) v) s = .next t ∧ t.get FLT.FIRST_VALID = s.get FLT.FIRST_VALID ∧
      t.rd FLT.STATUS_LO = s.rd FLT.STATUS_LO ∧ t.rd FLT.STATUS_HI = s.rd FLT.STATUS_HI) ∧
  (∀ (s : State) (path : Path) (v : Word), reaches s path FLT.OVERFLOW = true →
    ∃ t, exec (.registerWrite path (BitVec.ofNat 24 FLT.OVERFLOW) v) s = .next t ∧
      t.get FLT.OVERFLOW_OVERFLOW = (if v.toNat % 2 = 1 then 0 else s.get FLT.OVERFLOW_OVERFLOW) ∧
      t.rd FLT.STATUS_LO = s.rd FLT.STATUS_LO ∧ t.rd FLT.STATUS_HI = s.rd FLT.STATUS_HI)

/-! ### Management (17) -/

/-- A one-hop management message `p` of KIND `kind` with content `c` arrives on bundle `b`, where it is heard and finds its source ready; `u` is the state
once it has left the ingress buffer (R33, R41, R426, R480, R481). -/
abbrev Sys2Proof.MgArrives (s u : State) (b : Fin 4) (p : Tfp) (kind : Nat) (c : List Byte) : Prop :=
  u = s.takeRx b p ∧ p.hdr.kind = kind ∧ p.body = .msg c ∧ s.flag (BRG.BUNDLE_DRAIN_STATUS_SHED b) = false ∧ 3 ≤ s.mode ∧ s.mode ≠ 7 ∧
    s.mdma.conflicts.contains b.val = false ∧ (mgHdrOf c).pathLen = 0 ∧ p.hdr.dstDev = 0x7FF ∧ (s.srcQ Src.mgmt).full = false ∧
    (s.srcQ Src.mgmt).waiting = []

/-- An answer of kind `kind` to message `p` is queued on bundle `b` of state `t`, after `u`. -/
abbrev Sys2Proof.AnswersOn (u t : State) (b : Fin 4) (p : Tfp) (kind : Nat) : Prop :=
  ∃ q ∈ t.core.pkts, u.core.nextId ≤ q.id ∧ q.egress = 112 + b ∧ ∃ h m, q.body = .tfp ⟨h, .msg m⟩ .mgt false ∧ h.kind = kind ∧ h.dstDev = p.hdr.srcDev

/-- An answer that no request awaits only counts, from `u` to `t`, but for the ledger (R485; log entry 21). -/
abbrev Sys2Proof.LateAnswer (u t : State) : Prop :=
  t.counter 138 0 = (u.counter 138 0 + 1) % 2 ^ 48 ∧ t.regs = u.regs ∧ t.core = u.core ∧ t.mdma = u.mdma

/-- Why a memory access of the debug port ends at once: 4 no power, 3 without the right outside BARE, else 5 (R241, R513). -/
def Sys2Proof.memRefusal (s : State) : Nat := if dapPowered s = false then 4 else if s.mode ≠ 0 ∧ hasClass s .jtag 0 = false then 3 else 5

/-- A memory access of the debug port ends at once with status `st`, and nothing else changes. -/
abbrev Sys2Proof.DebugEnds (s t : State) (st n a : Nat) : Prop := t.core = s.core ∧ t.regs = s.regs ∧ t.dbg.busy = none ∧ t.dbg.result = (st, n, a, 0)

/-- A memory access of the debug port runs: its request `m`, under a tag, is in the core toward port `n` (R241, R513). -/
abbrev Sys2Proof.DebugRuns (s t : State) (op n a : Nat) (m : Tlp) : Prop :=
  t.dbg.busy = some (op, n, a) ∧ ∃ q ∈ t.core.pkts, q.id = s.core.nextId ∧ q.egress = n ∧ q.colour = 0xFFE ∧ ∃ tag, q.body = .tlp { m with tag := tag }

/-- The classes of each path in BARE. Of one-hop messages: MG_DISCOVER is answered by MG_IDENTITY, or between two managers is a conflict with UC on source 47; MG_ASSIGN sets DEVID, or where it is refused leaves it; MG_READ is answered with MG_READ_DATA, without class 1 with MG_RESULT; MG_WRITE writes its words in order up to the first refusal and answers MG_RESULT; an answer that no request awaits is only counted and put in the ledger. A non-posted request the BARs do not accept is answered with Unsupported Request; MGMT_BAR_REQUEST_REFUSED does nothing on one they accept. With no access of the path waiting, an MSP write with a good CRC answers 0xA5, or 0x3C when refused, and a read the word with its CRC; a write with a bad CRC raises CE and answers 0x5A; a status frame answers the fault pins. The debug port reports BUSY while an operation runs and reads and writes BAR0 within its rights; a memory access ends at once with 4 without power, 3 without the right outside BARE, 5 for a PortID that is no data port, 2 where the guard refuses the read; one the guard and the port allow enters the core, and its end is its result. -/
def Obligations.ManagementPaths : Prop :=
  (∀ s : State, s.mode = 0 → (∀ p, classesOf s (.pcie 0 p) = 0b101101) ∧ (∀ n p, n ≠ 0 → classesOf s (.pcie n p) = 0) ∧ classesOf s .msp = 0b1101 ∧
    (∀ b, classesOf s (.bundle b) = 0) ∧ classesOf s .jtag = (if debugOpen s then 0b101 else 0)) ∧
  (∀ (s u : State) (b : Fin 4) (p : Tfp) (c : List Byte), MgArrives s u b p 0x40 c → (u.mode ≠ 4 ∨ ofLe ((c.drop 16).take 1) ≠ 4) →
    bundleUsable u b = true → ∃ t, exec (.mgDiscoverReceive b p) s = .next t ∧ AnswersOn u t b p 0x41 ∧ t.mdma = u.mdma ∧ t.rma = u.rma) ∧
  (∀ (s u : State) (b : Fin 4) (p : Tfp) (c : List Byte), MgArrives s u b p 0x40 c → u.mode = 4 → ofLe ((c.drop 16).take 1) = 4 →
    ∃ t, ∃ v : State, exec (.mgDiscoverReceive b p) s = .next t ∧ b.val ∈ v.mdma.conflicts ∧ v.core = u.core ∧ v.regs = u.regs ∧
      t = v.raiseFault 47 UC 0xFFFF) ∧
  (∀ (s u : State) (b : Fin 4) (p : Tfp) (c : List Byte) (d : Nat), MgArrives s u b p 0x42 c → ofLe ((c.drop 16).take 2) % 2048 = d →
    ∃ t, exec (.mgAssignReceive b p) s = .next t ∧ t.mode = u.mode ∧
      (if assignRefusal u b d = 0 then t.get GLB.DEVID_DEVID = d ∧ t.flag GLB.DEVID_VALID = true else t.rd GLB.DEVID = u.rd GLB.DEVID)) ∧
  (∀ (s u : State) (b : Fin 4) (p : Tfp) (c : List Byte), MgArrives s u b p 0x44 c → bundleUsable u b = true →
    ∃ t, exec (.mgReadReceive b p) s = .next t ∧ AnswersOn u t b p (if hasClass u (.bundle b) 1 then 0x45 else 0x47) ∧ t.rma = u.rma) ∧
  (∀ (s u : State) (b : Fin 4) (p : Tfp) (c : List Byte), MgArrives s u b p 0x46 c → hasClass u (.bundle b) 1 = false → bundleUsable u b = true →
    ∃ t, exec (.mgWriteReceive b p) s = .next t ∧ AnswersOn u t b p 0x47 ∧ t.rma = u.rma ∧ t.mode = u.mode) ∧
  (∀ (s u : State) (b : Fin 4) (p : Tfp) (c : List Byte), MgArrives s u b p 0x46 c → hasClass u (.bundle b) 1 = true →
    ∃ t, ∃ v : State, exec (.mgWriteReceive b p) s = .next t ∧ v.regs = u.regs ∧ v.core = u.core ∧ v.img = u.img ∧
      t = (match v.mgWords (.bundle b) (ofLe ((c.drop 16).take 4)) 0
          ((List.range ((mgHdrOf c).count + 1)).map (fun i => BitVec.ofNat 32 (ofLe (((c.drop 16).drop (4 + 4 * i)).take 4)))) with
        | (r, done, w) => w.mgResult b p (mgHdrOf c) r done)) ∧
  (∀ (s u : State) (b : Fin 4) (p : Tfp) (c : List Byte), (∀ j ∈ u.mdma.jobs, j.msgId ≠ some (mgHdrOf c).msgId ∨ j.status ≠ none) →
    (MgArrives s u b p 0x41 c → ∃ t, exec (.mgIdentityReceive b p) s = .next t ∧ LateAnswer u t) ∧
    (MgArrives s u b p 0x45 c → ∃ t, exec (.mgReadDataReceive b p) s = .next t ∧ LateAnswer u t) ∧
    (MgArrives s u b p 0x47 c → ∃ t, exec (.mgResultReceive b p) s = .next t ∧ LateAnswer u t)) ∧
  (∀ (s : State) (n : Fin 96) (m : Tlp) (bar off : Nat), mgmtBar s (s.get (PORT.CFG_PART n)) m.addr = some (bar, off) →
    portOfPart s (s.get (PORT.CFG_PART n)) n = true → linkUp s n = true → s.flag (PORT.STATUS_SHED n) = false → s.mode ≠ 7 → tlpCls m = 1 →
    barAccepts s (s.get (PORT.CFG_PART n)) m bar off = false →
    ∃ t, exec (.mgmtBarRequestRefused n m) s = .next t ∧ t.cfg = s.cfg ∧ ∃ q ∈ t.core.pkts, q.id = s.core.nextId ∧ q.egress = n ∧
      q.body = .tlp (cplTlp m.rid m.tag 1 m.tc (mgmtRid s (s.get (PORT.CFG_PART n))) 4 0 [])) ∧
  (∀ (s : State) (n : Fin 96) (m : Tlp) (bar off : Nat), mgmtBar s (s.get (PORT.CFG_PART n)) m.addr = some (bar, off) →
    barAccepts s (s.get (PORT.CFG_PART n)) m bar off = true → ∃ t, exec (.mgmtBarRequestRefused n m) s = .next t ∧ t = s) ∧
  (∀ (s u : State) (frame : List Byte) (r : Nat), frame.head? = some 0x02 → mspAlive s = true → 9 ≤ frame.length →
    frame[8]? = some (BitVec.ofNat 8 (crc8 (frame.take 8))) → (ignored (mspAddr frame) = true ∨ waitsAt s .msp (mspAddr frame) = none) → s.tryWrite .msp (mspAddr frame) (BitVec.ofNat 32 (ofBe ((frame.drop 4).take 4))) = (r, u) →
    ∃ t, exec (.mspWrite frame) s = .next t ∧ t = u.emit (.msp [if r = 0 then 0xA5 else 0x3C])) ∧
  (∀ (s : State) (frame : List Byte), frame.head? = some 0x02 → mspAlive s = true → 9 ≤ frame.length →
    frame[8]? ≠ some (BitVec.ofNat 8 (crc8 (frame.take 8))) →
    ∃ t, exec (.mspWrite frame) s = .next t ∧ t = (if s.mode = 7 then s else s.raiseFault 48 CE 0xFFFF).emit (.msp [0x5A])) ∧
  (∀ (s u : State) (frame : List Byte) (w : Word), frame.head? = some 0x03 → mspAlive s = true → 12 ≤ frame.length →
    frame[4]? = some (BitVec.ofNat 8 (crc8 (frame.take 4))) → waitingAt s .msp = none → answers s .msp (mspAddr frame) = true → s.busRead .msp (mspAddr frame) = (w, u) →
    ∃ t, exec (.mspRead frame) s = .next t ∧
      t = u.emit (.msp ([0xA5] ++ beBytes 4 w.toNat ++ [BitVec.ofNat 8 (crc8 (beBytes 4 w.toNat))]))) ∧
  (∀ (s : State) (frame : List Byte), frame.head? = some 0x05 → mspAlive s = true → 2 ≤ frame.length →
    ∃ t, exec (.mspStatus frame) s = .next t ∧ t = s.emit (.msp [BitVec.ofNat 8 (faultPins s)])) ∧
  (∀ s : State, s.dbg.busy = none → ∃ t, exec .dapNop s = .next t ∧ t.dbg.result = (0, 0, 0, 0) ∧ t.regs = s.regs ∧ t.core = s.core) ∧
  (∀ (s : State) (x : Nat × Nat × Nat), s.dbg.busy = some x → ∃ t, exec .dapNop s = .next t ∧ t.dbg.result = (1, 0, 0, 0) ∧ t.dbg.busy = some x ∧
    t.regs = s.regs ∧ t.core = s.core) ∧
  (∀ (s : State) (off : BitVec 24), s.dbg.busy = none → waitingAt s .jtag = none →
    ∃ t, exec (.dapBar0Read off) s = .next t ∧ t.core = s.core ∧ t.dbg.result = (if dapPowered s = false then (4, 0, off.toNat, 0)
      else if occupied off.toNat = true ∧ canRead s .jtag off.toNat = false then (3, 0, off.toNat, 0)
      else (0, 0, off.toNat, (s.busRead .jtag off.toNat).1.toNat))) ∧
  (∀ (s : State) (off : BitVec 24) (val : Word), s.dbg.busy = none →
    ∃ t, exec (.dapBar0Write off val) s = .next t ∧ t.dbg.result = (if dapPowered s = false then (4, 0, off.toNat, val.toNat)
      else if ignored off.toNat = true ∨ writeAllowed s .jtag off.toNat = true then (0, 0, off.toNat, val.toNat) else (3, 0, off.toNat, val.toNat))) ∧
  (∀ (s : State) (n : BitVec 7) (a : BitVec 64) (val : Word), s.dbg.busy = none →
    (dapPowered s = false ∨ (s.mode ≠ 0 ∧ hasClass s .jtag 0 = false) ∨ 96 ≤ n.toNat ∨ 2 ≤ s.get (PORT.CFG_ROLE n.toNat)) →
    (∃ t, exec (.dapMemRead n a) s = .next t ∧ DebugEnds s t (memRefusal s) n.toNat (a.toNat / 4 * 4)) ∧
    (∃ t, exec (.dapMemWrite n a val) s = .next t ∧ DebugEnds s t (memRefusal s) n.toNat (a.toNat / 4 * 4))) ∧
  (∀ (s : State) (n : BitVec 7) (a : BitVec 64) (val : Word) (m w : Tlp) (lr lw : Bool),
    m = memTlp .memRd (a.toNat / 4 * 4) 4 (portRid s n.toNat) 0 false none [] →
    w = memTlp .memWr (a.toNat / 4 * 4) 4 (portRid s n.toNat) 0 false none (leBytes 4 val.toNat) →
    s.dbg.busy = none → dapPowered s = true → (s.mode = 0 ∨ hasClass s .jtag 0 = true) → n.toNat < 96 → s.get (PORT.CFG_ROLE n.toNat) < 2 →
    targetRefusal s n.toNat = none →
    (guardVerdict s 102 0xFFE (needOf m) (rangeOf m).1 (rangeOf m).2 = (.allow lr, 0) →
      ∃ t, exec (.dapMemRead n a) s = .next t ∧ DebugRuns s t 3 n.toNat (a.toNat / 4 * 4) m) ∧
    (guardVerdict s 102 0xFFE (needOf w) (rangeOf w).1 (rangeOf w).2 = (.allow lw, 0) →
      ∃ t, exec (.dapMemWrite n a val) s = .next t ∧ DebugRuns s t 4 n.toNat (a.toNat / 4 * 4) w)) ∧
  (∀ (s : State) (n : BitVec 7) (a : BitVec 64) (m : Tlp) (cause : Nat), m = memTlp .memRd (a.toNat / 4 * 4) 4 (portRid s n.toNat) 0 false none [] →
    s.dbg.busy = none → dapPowered s = true → (s.mode = 0 ∨ hasClass s .jtag 0 = true) → n.toNat < 96 → s.get (PORT.CFG_ROLE n.toNat) < 2 →
    guardVerdict s 102 0xFFE (needOf m) (rangeOf m).1 (rangeOf m).2 = (.refuse cause, 0) →
    ∃ t, exec (.dapMemRead n a) s = .next t ∧ t.dbg.busy = none ∧ t.dbg.result = (2, n.toNat, a.toNat / 4 * 4, 0)) ∧
  (∀ (s : State) (status : HostStatus) (data : Word) (op n a : Nat), s.dbg.busy = some (op, n, a) → readQueued s .debug = false →
    ∃ t, exec (.dapComplete status data) s = .next t ∧ t.dbg.busy = none ∧ t.core.pkts = s.core.pkts ∧
      t.dbg.result = ((if status = .ok then 0 else if status = .guard then 2 else 5), n, a, data.toNat))

/-- A write that sets ENABLE of an engine joins the checker's queue. Served there, it starts an owned engine of a legal size, not engine 0, with its four counts at 0; engine 0, and one without an owner, shows 0x03 and stays as it was. Disabled, it stops and forgets its descriptors and the reads it wants. OWNER of any but engine 0 is stored while it is disabled, else 0x03 shows. A doorbell stores SQ_TAIL; a running engine then goes on, or stops with ERR when TAIL is further than its size ahead of HEAD. A fetched descriptor joins its engine's under its index; content of a message that cannot be read fails its descriptor. A NOP completes OK; a snapshot of pages its owner may read completes OK, or with the guard's refusal of its write, any other PRIV; a message completes PRIV without class 1, else its content is wanted while fewer than 8 of the engine are out. Messages unanswered for 10 ms complete with TIMEOUT. A table error is corrected, or stops the engine with ERR; each raises its fault. -/
def Obligations.ManagementDma : Prop :=
  (∀ (s : State) (path : Path) (e : Fin 8), reaches s path (MDMA.ENG_CTRL e) = true → s.flag (MDMA.ENG_CTRL_ENABLE e) = false →
    ∃ t, exec (.mdmaEnable path e) s = .next t ∧ t.regs = s.regs ∧ t.core = s.core ∧ t.mdma = s.mdma ∧
      t.img.checks = s.img.checks ++ [.enable ⟨path, MDMA.ENG_CTRL e, strobe s (MDMA.ENG_CTRL_ENABLE e) 0x7FF⟩]) ∧
  (∀ (s u : State) (path : Path) (e : Fin 8) (val : Word) (rest : List CheckReq), s.img.checks = .enable ⟨path, MDMA.ENG_CTRL e, val⟩ :: rest →
    s.img.stalled = [] → u = { s with img := { s.img with checks := rest } } → s.flag (MDMA.ENG_CTRL_ENABLE e) = false → val.toNat.testBit 0 = true →
    e ≠ 0 → s.mode ≠ 7 → s.flag (MDMA.ENG_OWNER_VALID e) = true → 4 ≤ fieldOf val 1 4 → fieldOf val 1 4 ≤ 12 → checkState u (liveRd u) = none →
    ∃ t, exec .checkerResult s = .next t ∧ t.flag (MDMA.ENG_STATUS_RUNNING e) = true ∧ t.flag (MDMA.ENG_CTRL_ENABLE e) = true ∧
      t.rd (MDMA.ENG_SQ_TAIL e) = 0 ∧ t.rd (MDMA.ENG_SQ_HEAD e) = 0 ∧ t.rd (MDMA.ENG_CQ_HEAD e) = 0 ∧ t.rd (MDMA.ENG_CQ_TAIL e) = 0 ∧
      t.eng e = {} ∧ (∀ j ∈ t.mdma.jobs, j.eng ≠ e) ∧ t.get (MDMA.ENG_STATUS_REASON e) = 0 ∧ t.core = s.core) ∧
  (∀ (s : State) (path : Path) (e : Fin 8) (val : Word) (rest : List CheckReq), s.img.checks = .enable ⟨path, MDMA.ENG_CTRL e, val⟩ :: rest →
    s.img.stalled = [] → s.flag (MDMA.ENG_CTRL_ENABLE e) = false → val.toNat.testBit 0 = true → s.mode ≠ 7 →
    (e = 0 ∨ s.flag (MDMA.ENG_OWNER_VALID e) = false) →
    ∃ t, exec .checkerResult s = .next t ∧ t.get (MDMA.ENG_STATUS_REASON e) = 0x03 ∧
      (∀ o, o ≠ MDMA.ENG_STATUS e → o ≠ GLB.COMMIT_OFFENDER → t.rd o = s.rd o) ∧ t.mdma = s.mdma ∧ t.core = s.core) ∧
  (∀ (s : State) (path : Path) (e : Fin 8), reaches s path (MDMA.ENG_CTRL e) = true → e ≠ 0 → s.flag (MDMA.ENG_CTRL_ENABLE e) = true →
    checkPending s (MDMA.ENG_CTRL e) = false →
    ∃ t, exec (.mdmaDisable path e) s = .next t ∧ t.flag (MDMA.ENG_STATUS_RUNNING e) = false ∧ t.flag (MDMA.ENG_CTRL_ENABLE e) = false ∧
      (∀ j ∈ t.mdma.jobs, j.eng ≠ e) ∧ (∀ r ∈ t.mdma.want, r.eng ≠ e) ∧ t.eng e = {}) ∧
  (∀ (s : State) (path : Path) (e : Fin 8) (val : Word), reaches s path (MDMA.ENG_OWNER e) = true →
    ∃ t, exec (.mdmaOwnerWrite path e val) s = .next t ∧ t.core = s.core ∧ t.mdma = s.mdma ∧
      (if e = 0 ∨ s.flag (MDMA.ENG_CTRL_ENABLE e) = true then t.rd (MDMA.ENG_OWNER e) = s.rd (MDMA.ENG_OWNER e) ∧ t.get (MDMA.ENG_STATUS_REASON e) = 0x03
       else t.rd (MDMA.ENG_OWNER e) = val &&& 0x3F ∧ t.get (MDMA.ENG_STATUS_REASON e) = 0)) ∧
  (∀ (s : State) (path : Path) (e : Fin 8) (tail : BitVec 16), reaches s path (MDMA.ENG_SQ_TAIL e) = true → e ≠ 0 →
    ∃ t, ∃ u : State, exec (.mdmaDoorbell path e tail) s = .next t ∧ u.get (MDMA.ENG_SQ_TAIL_COUNT e) = tail.toNat ∧ u.core = s.core ∧ u.mdma = s.mdma ∧
      t = (if engRuns s e = false then u
           else if engSize s e < (tail.toNat + 65536 - s.get (MDMA.ENG_SQ_HEAD_COUNT e)) % 65536 then
             ((u.set (MDMA.ENG_STATUS_RUNNING e) 0).set (MDMA.ENG_STATUS_ERR e) 1).raiseFault 49 UC (s.get (MDMA.ENG_OWNER_PART e))
           else u.mdmaPump)) ∧
  (∀ (s : State) (tag : Nat) (data : List Byte) (r : MdmaRead), readQueued s (.mdmaRead tag) = false → s.mdma.reads.find? (fun x => x.tag = tag) = some r →
    r.what = 0 → r.len ≤ data.length →
    ∃ t, ∃ u : State, exec (.mdmaHostReadComplete tag .ok data) s = .next t ∧ t = u.mdmaPump ∧ (∀ x ∈ u.mdma.reads, x.tag ≠ tag) ∧
      u.mdma.jobs = s.mdma.jobs ++ [{ jobOf (data.take r.len) with id := s.mdma.nextJob, eng := r.eng, index := (s.eng r.eng).fetch }] ∧
      (u.eng r.eng).fetch = ((s.eng r.eng).fetch + 1) % 2 ^ 32) ∧
  (∀ (s : State) (tag : Nat) (status : HostStatus) (data : List Byte) (r : MdmaRead), status ≠ .ok → readQueued s (.mdmaRead tag) = false →
    s.mdma.reads.find? (fun x => x.tag = tag) = some r → r.what = 1 →
    ∃ t, ∃ u : State, exec (.mdmaHostReadComplete tag status data) s = .next t ∧ t = u.mdmaPump ∧ (∀ x ∈ u.mdma.reads, x.tag ≠ tag) ∧
      u.mdma.jobs = s.mdma.jobs.map (fun j => if j.id = r.job ∧ j.status = none then { j with status := some (if status = .guard then 2 else 3) } else j)) ∧
  (∀ (s : State) (e : Fin 8) (j : MdmaJob), nextJob? s e 3 = some j →
    ∃ t, ∃ u : State, exec (.mdmaNop e) s = .next t ∧ t = u.mdmaPump ∧ u.core = s.core ∧ u.regs = s.regs ∧
      u.mdma.jobs = s.mdma.jobs.map (fun x => if x.id = j.id then { x with started := true, status := some 0 } else x)) ∧
  (∀ (s v : State) (e : Fin 8) (j : MdmaJob) (ok : Bool), nextJob? s e 1 = some j →
    (∀ q ∈ (List.range j.count).map (fun i => (j.first + i) / 512), q < 139 ∧ pageVisible s (engPath s e) q = true) →
    s.hostWrite e j.addr ((List.range j.count).flatMap (fun i => leBytes 8 (s.counter ((j.first + i) / 512) ((j.first + i) % 512)))) = (ok, v) →
    ∃ t, exec (.mdmaSnapshot e) s = .next t ∧ t = (v.startJob j (some (if ok then 0 else 2))).mdmaPump) ∧
  (∀ (s : State) (e : Fin 8) (j : MdmaJob) (i : Nat), nextJob? s e 1 = some j → i < j.count →
    (139 ≤ (j.first + i) / 512 ∨ pageVisible s (engPath s e) ((j.first + i) / 512) = false) →
    ∃ t, exec (.mdmaSnapshot e) s = .next t ∧ t = (s.startJob j (some 4)).mdmaPump) ∧
  (∀ (s : State) (e : Fin 8) (j : MdmaJob), nextJob? s e 2 = some j → hasClass s (engPath s e) 1 = false →
    ∃ t, exec (.mdmaMsgSend e) s = .next t ∧ t = (s.startJob j (some 4)).mdmaPump) ∧
  (∀ (s : State) (e : Fin 8) (j : MdmaJob), nextJob? s e 2 = some j → hasClass s (engPath s e) 1 = true →
    (s.mdma.jobs.filter (fun x => x.eng = e.val ∧ x.op = 2 ∧ x.started ∧ x.status = none)).length < 8 →
    ∃ t, ∃ u : State, exec (.mdmaMsgSend e) s = .next t ∧ t = u.mdmaPump ∧ u.core = s.core ∧ u.regs = s.regs ∧
      u.mdma.jobs = s.mdma.jobs.map (fun x => if x.id = j.id then { x with started := true, status := none } else x) ∧
      u.mdma.want = s.mdma.want ++ (cutAt (upMrrs s (engPart s e)) 101 j.addr j.count).map (fun c => ⟨0, e, 1, j.id, c.1 - j.addr, c.1, c.2, []⟩)) ∧
  (∀ (s : State) (e : Fin 8) (j : MdmaJob), j ∈ s.mdma.jobs → j.eng = e → j.msgId.isSome = true → j.status = none → s.due j.dl = true →
    ∃ t, ∃ u : State, exec (.mdmaMsgTimeout e) s = .next t ∧ t = u.mdmaPump ∧ u.core = s.core ∧
      u.mdma.jobs = s.mdma.jobs.map (fun x => if x.eng = e.val ∧ x.msgId.isSome = true ∧ x.status = none ∧ s.due x.dl = true then
        { x with status := some 5 } else x)) ∧
  (∀ (s : State) (e : Fin 8), ∃ t, exec (.mdmaEccError e false) s = .next t ∧ t = (s.set MDMA.STATUS_ECC_CE 1).raiseFault 49 CE (s.get (MDMA.ENG_OWNER_PART e))) ∧
  (∀ (s : State) (e : Fin 8), ∃ t, ∃ u : State, exec (.mdmaEccError e true) s = .next t ∧ u.flag MDMA.STATUS_ECC_UE = true ∧
    u.flag (MDMA.ENG_STATUS_RUNNING e) = false ∧ u.flag (MDMA.ENG_STATUS_ERR e) = true ∧ u.core = s.core ∧
    t = u.raiseFault 49 UC (s.get (MDMA.ENG_OWNER_PART e)))
end

