-- ==== Sys2Proof/Laws/Bits.lean ====
section
/-! SUPPORT. The laws of bit fields: a field reads back what was written to it, and the fields beside it stay. -/
namespace Sys2Proof

theorem testBit_fieldOf (w : Word) (lo n i : Nat) : (fieldOf w lo n).testBit i = (decide (i < n) && w.getLsbD (lo + i)) := by
  simp [fieldOf, Nat.testBit_mod_two_pow, Nat.testBit_div_two_pow, BitVec.getLsbD, Nat.add_comm]

theorem fieldOf_lt (w : Word) (lo n : Nat) : fieldOf w lo n < 2 ^ n := Nat.mod_lt _ (Nat.two_pow_pos n)

theorem getLsbD_withField (w : Word) (lo n v i : Nat) (h : i < 32) :
    (withField w lo n v).getLsbD i = if lo ≤ i ∧ i < lo + n then v.testBit (i - lo) else w.getLsbD i := by
  simp only [withField, fieldMask, BitVec.getLsbD_or, BitVec.getLsbD_and, BitVec.getLsbD_not, BitVec.getLsbD_shiftLeft, BitVec.getLsbD_ofNat,
    Nat.testBit_mod_two_pow, Nat.testBit_two_pow_sub_one, h]
  by_cases h1 : lo ≤ i
  · have h3 : i - lo < 32 := by omega
    by_cases h2 : i < lo + n
    · simp [h1, h2, h3, show ¬ i < lo by omega, show i - lo < n by omega]
    · simp [h1, h2, h3, show ¬ i < lo by omega, show ¬ i - lo < n by omega]
  · simp [h1, show i < lo by omega]

/-- A field reads back what was written to it. -/
theorem fieldOf_withField_same (w : Word) (lo n v : Nat) (h : lo + n ≤ 32) : fieldOf (withField w lo n v) lo n = v % 2 ^ n := by
  apply Nat.eq_of_testBit_eq
  intro i
  rw [testBit_fieldOf, Nat.testBit_mod_two_pow]
  by_cases hi : i < n
  · rw [getLsbD_withField _ _ _ _ _ (by omega)]
    simp [hi]
  · simp [hi]

/-- Writing a field leaves every field beside it. -/
theorem fieldOf_withField_other (w : Word) (lo n v lo' n' : Nat) (h : lo' + n' ≤ 32) (d : lo' + n' ≤ lo ∨ lo + n ≤ lo') :
    fieldOf (withField w lo n v) lo' n' = fieldOf w lo' n' := by
  apply Nat.eq_of_testBit_eq
  intro i
  rw [testBit_fieldOf, testBit_fieldOf]
  by_cases hi : i < n'
  · rw [getLsbD_withField _ _ _ _ _ (by omega), if_neg (by omega)]
  · simp [hi]

end Sys2Proof
end

