-- ==== Sys2Proof/Laws/SMap.lean ====
section
/-! SUPPORT. The laws of sparse tables: a read after a write, and that every operation keeps the canonical form. -/
namespace Sys2Proof

theorem SMap.find?_drop_same {V : Type} (m : SMap V) (x : Nat) : SMap.find? (SMap.drop m x) x = none := by
  induction m with
  | nil => rfl
  | cons e m ih =>
    obtain ⟨k, v⟩ := e
    by_cases h : k = x
    · simp [SMap.drop, h, ih]
    · simp [SMap.drop, SMap.find?, h, ih]

theorem SMap.find?_drop_other {V : Type} (m : SMap V) {x y : Nat} (h : x ≠ y) :
    SMap.find? (SMap.drop m x) y = SMap.find? m y := by
  induction m with
  | nil => rfl
  | cons e m ih =>
    obtain ⟨k, v⟩ := e
    by_cases hk : k = x
    · simp [SMap.drop, SMap.find?, hk, ih, h]
    · by_cases hy : k = y
      · subst hy; simp [SMap.drop, SMap.find?, hk]
      · simp [SMap.drop, SMap.find?, hk, hy, ih]

theorem SMap.find?_drop {V : Type} (m : SMap V) (x y : Nat) :
    SMap.find? (SMap.drop m x) y = if x = y then none else SMap.find? m y := by
  split
  · next h => subst h; exact SMap.find?_drop_same m x
  · next h => exact SMap.find?_drop_other m h

/-- A key put where it was absent is found; the others are as before. -/
theorem SMap.find?_put {V : Type} (m : SMap V) (x y : Nat) (v : V) (h : SMap.find? m x = none) :
    SMap.find? (SMap.put m x v) y = if x = y then some v else SMap.find? m y := by
  induction m with
  | nil => simp [SMap.put, SMap.find?]
  | cons e m ih =>
    obtain ⟨k, w⟩ := e
    have hk : k ≠ x := by intro hk; simp [SMap.find?, hk] at h
    have hm : SMap.find? m x = none := by simpa [SMap.find?, hk] using h
    by_cases hlt : x < k
    · simp [SMap.put, SMap.find?, hlt]
    · by_cases hy : k = y
      · subst hy
        simp [SMap.put, SMap.find?, hlt, Ne.symm hk]
      · simp [SMap.put, SMap.find?, hlt, hy, ih hm]

/-- Reading any key after a write. -/
theorem SMap.get_set {V : Type} [DecidableEq V] (d : Nat → V) (m : SMap V) (x y : Nat) (v : V) :
    SMap.get d (SMap.set d m x v) y = if x = y then v else SMap.get d m y := by
  unfold SMap.set SMap.get
  by_cases hv : v = d x
  · by_cases h : x = y
    · subst h; simp [hv, SMap.find?_drop]
    · simp [hv, SMap.find?_drop, h]
  · rw [if_neg hv, SMap.find?_put _ _ _ _ (SMap.find?_drop_same m x), SMap.find?_drop]
    by_cases h : x = y <;> simp [h]

@[simp] theorem SMap.get_set_same {V : Type} [DecidableEq V] (d : Nat → V) (m : SMap V) (x : Nat) (v : V) :
    SMap.get d (SMap.set d m x v) x = v := by simp [SMap.get_set]

theorem SMap.get_set_other {V : Type} [DecidableEq V] (d : Nat → V) (m : SMap V) {x y : Nat} (v : V) (h : x ≠ y) :
    SMap.get d (SMap.set d m x v) y = SMap.get d m y := by simp [SMap.get_set, h]

@[simp] theorem SMap.get_nil {V : Type} (d : Nat → V) (x : Nat) : SMap.get d [] x = d x := rfl

/-! ### The canonical form -/

theorem SMap.mem_drop {V : Type} {m : SMap V} {x : Nat} {e : Nat × V} (h : e ∈ SMap.drop m x) : e ∈ m ∧ e.1 ≠ x := by
  induction m with
  | nil => cases h
  | cons f m ih =>
    obtain ⟨k, v⟩ := f
    by_cases hk : k = x
    · simp only [SMap.drop, hk, if_true] at h
      exact ⟨List.mem_cons_of_mem _ (ih h).1, (ih h).2⟩
    · simp only [SMap.drop, hk, if_false, List.mem_cons] at h
      rcases h with h | h
      · subst h; exact ⟨List.mem_cons_self, hk⟩
      · exact ⟨List.mem_cons_of_mem _ (ih h).1, (ih h).2⟩

theorem SMap.mem_put {V : Type} {m : SMap V} {x : Nat} {v : V} {e : Nat × V} (h : e ∈ SMap.put m x v) : e = (x, v) ∨ e ∈ m := by
  induction m with
  | nil => simpa [SMap.put] using h
  | cons f m ih =>
    obtain ⟨k, w⟩ := f
    by_cases hk : x < k
    · simpa [SMap.put, hk] using h
    · simp only [SMap.put, hk, if_false, List.mem_cons] at h ⊢
      rcases h with h | h
      · exact .inr (.inl h)
      · rcases ih h with h | h
        · exact .inl h
        · exact .inr (.inr h)

theorem SMap.sorted_drop {V : Type} {m : SMap V} (x : Nat) (h : SMap.sorted m = true) : SMap.sorted (SMap.drop m x) = true := by
  induction m with
  | nil => rfl
  | cons f m ih =>
    obtain ⟨k, w⟩ := f
    simp only [SMap.sorted, Bool.and_eq_true, List.all_eq_true, decide_eq_true_eq] at h
    by_cases hk : k = x
    · simpa [SMap.drop, hk] using ih h.2
    · simp only [SMap.drop, hk, if_false, SMap.sorted, Bool.and_eq_true, List.all_eq_true, decide_eq_true_eq]
      exact ⟨fun e he => h.1 e (SMap.mem_drop he).1, ih h.2⟩

theorem SMap.sorted_put {V : Type} {m : SMap V} (x : Nat) (v : V) (h : SMap.sorted m = true) (hx : ∀ e ∈ m, e.1 ≠ x) :
    SMap.sorted (SMap.put m x v) = true := by
  induction m with
  | nil => rfl
  | cons f m ih =>
    obtain ⟨k, w⟩ := f
    simp only [SMap.sorted, Bool.and_eq_true, List.all_eq_true, decide_eq_true_eq] at h
    have hne : k ≠ x := hx (k, w) List.mem_cons_self
    by_cases hk : x < k
    · simp only [SMap.put, hk, if_true, SMap.sorted, Bool.and_eq_true, List.all_eq_true, decide_eq_true_eq, List.mem_cons]
      refine ⟨fun e he => ?_, h⟩
      rcases he with he | he
      · subst he; exact hk
      · exact Nat.lt_trans hk (h.1 e he)
    · simp only [SMap.put, hk, if_false, SMap.sorted, Bool.and_eq_true, List.all_eq_true, decide_eq_true_eq]
      refine ⟨fun e he => ?_, ih h.2 (fun e he => hx e (List.mem_cons_of_mem _ he))⟩
      rcases SMap.mem_put he with he | he
      · subst he; omega
      · exact h.1 e he

/-- A write keeps the canonical form. -/
theorem SMap.wf_set {V : Type} [DecidableEq V] (d : Nat → V) (m : SMap V) (x : Nat) (v : V) (h : SMap.wf d m = true) :
    SMap.wf d (SMap.set d m x v) = true := by
  simp only [SMap.wf, Bool.and_eq_true, List.all_eq_true, decide_eq_true_eq] at h ⊢
  unfold SMap.set
  split
  · exact ⟨SMap.sorted_drop x h.1, fun e he => h.2 e (SMap.mem_drop he).1⟩
  · next hv =>
    refine ⟨SMap.sorted_put x v (SMap.sorted_drop x h.1) (fun e he => (SMap.mem_drop he).2), fun e he => ?_⟩
    rcases SMap.mem_put he with he | he
    · subst he; exact hv
    · exact h.2 e (SMap.mem_drop he).1

theorem SMap.sorted_filter {V : Type} {m : SMap V} (p : Nat × V → Bool) (h : SMap.sorted m = true) : SMap.sorted (m.filter p) = true := by
  induction m with
  | nil => rfl
  | cons f m ih =>
    simp only [SMap.sorted, Bool.and_eq_true, List.all_eq_true, decide_eq_true_eq] at h
    by_cases hp : p f = true
    · simp only [List.filter_cons, hp, if_true, SMap.sorted, Bool.and_eq_true, List.all_eq_true, decide_eq_true_eq]
      exact ⟨fun e he => h.1 e (List.mem_of_mem_filter he), ih h.2⟩
    · simpa [List.filter_cons, hp] using ih h.2

/-- Keeping some of the entries keeps the canonical form. -/
theorem SMap.wf_filter {V : Type} [DecidableEq V] (d : Nat → V) (m : SMap V) (p : Nat × V → Bool) (h : SMap.wf d m = true) :
    SMap.wf d (m.filter p) = true := by
  simp only [SMap.wf, Bool.and_eq_true, List.all_eq_true, decide_eq_true_eq] at h ⊢
  exact ⟨SMap.sorted_filter p h.1, fun e he => h.2 e (List.mem_of_mem_filter he)⟩

theorem SMap.wf_keep {V : Type} [DecidableEq V] (d : Nat → V) (p : Nat → Bool) (m : SMap V) (h : SMap.wf d m = true) :
    SMap.wf d (SMap.keep p m) = true := SMap.wf_filter d m _ h

theorem SMap.wf_setAll {V : Type} [DecidableEq V] (d : Nat → V) (l : List (Nat × V)) (m : SMap V) (h : SMap.wf d m = true) :
    SMap.wf d (SMap.setAll d m l) = true := by
  induction l generalizing m with
  | nil => exact h
  | cons e l ih => exact ih _ (SMap.wf_set d m e.1 e.2 h)

theorem SMap.wf_nil {V : Type} [DecidableEq V] (d : Nat → V) : SMap.wf d ([] : SMap V) = true := rfl

end Sys2Proof
end

