-- ==== Sys2Proof/Laws/State.lean ====
section
/-! SUPPORT. What each basic update of the state leaves: one lemma per field and update, each true by unfolding. -/
namespace Sys2Proof.Machine
open Sys2Proof

@[simp] theorem State.wr_pending (s : State) (o : Nat) (w : Word) : (s.wr o w).pending = s.pending := rfl
@[simp] theorem State.wr_shadow (s : State) (o : Nat) (w : Word) : (s.wr o w).shadow = s.shadow := rfl
@[simp] theorem State.wr_hiLatch (s : State) (o : Nat) (w : Word) : (s.wr o w).hiLatch = s.hiLatch := rfl
@[simp] theorem State.wr_views (s : State) (o : Nat) (w : Word) : (s.wr o w).views = s.views := rfl
@[simp] theorem State.wr_msix (s : State) (o : Nat) (w : Word) : (s.wr o w).msix = s.msix := rfl
@[simp] theorem State.wr_counters (s : State) (o : Nat) (w : Word) : (s.wr o w).counters = s.counters := rfl
@[simp] theorem State.wr_cycle (s : State) (o : Nat) (w : Word) : (s.wr o w).cycle = s.cycle := rfl
@[simp] theorem State.wr_adv (s : State) (o : Nat) (w : Word) : (s.wr o w).adv = s.adv := rfl
@[simp] theorem State.wr_free (s : State) (o : Nat) (w : Word) : (s.wr o w).free = s.free := rfl
@[simp] theorem State.wr_out (s : State) (o : Nat) (w : Word) : (s.wr o w).out = s.out := rfl
@[simp] theorem State.wr_ledger (s : State) (o : Nat) (w : Word) : (s.wr o w).ledger = s.ledger := rfl
@[simp] theorem State.wr_jrnl (s : State) (o : Nat) (w : Word) : (s.wr o w).jrnl = s.jrnl := rfl
@[simp] theorem State.wr_time (s : State) (o : Nat) (w : Word) : (s.wr o w).time = s.time := rfl
@[simp] theorem State.wr_core (s : State) (o : Nat) (w : Word) : (s.wr o w).core = s.core := rfl
@[simp] theorem State.wr_cfg (s : State) (o : Nat) (w : Word) : (s.wr o w).cfg = s.cfg := rfl
@[simp] theorem State.wr_links (s : State) (o : Nat) (w : Word) : (s.wr o w).links = s.links := rfl
@[simp] theorem State.wr_phys (s : State) (o : Nat) (w : Word) : (s.wr o w).phys = s.phys := rfl
@[simp] theorem State.wr_ports (s : State) (o : Nat) (w : Word) : (s.wr o w).ports = s.ports := rfl
@[simp] theorem State.wr_flt (s : State) (o : Nat) (w : Word) : (s.wr o w).flt = s.flt := rfl
@[simp] theorem State.wr_twin (s : State) (o : Nat) (w : Word) : (s.wr o w).twin = s.twin := rfl
@[simp] theorem State.wr_brg (s : State) (o : Nat) (w : Word) : (s.wr o w).brg = s.brg := rfl
@[simp] theorem State.wr_rma (s : State) (o : Nat) (w : Word) : (s.wr o w).rma = s.rma := rfl
@[simp] theorem State.wr_img (s : State) (o : Nat) (w : Word) : (s.wr o w).img = s.img := rfl
@[simp] theorem State.wr_fuses (s : State) (o : Nat) (w : Word) : (s.wr o w).fuses = s.fuses := rfl
@[simp] theorem State.wr_sched (s : State) (o : Nat) (w : Word) : (s.wr o w).sched = s.sched := rfl
@[simp] theorem State.wr_guard (s : State) (o : Nat) (w : Word) : (s.wr o w).guard = s.guard := rfl
@[simp] theorem State.wr_part (s : State) (o : Nat) (w : Word) : (s.wr o w).part = s.part := rfl
@[simp] theorem State.wr_slots (s : State) (o : Nat) (w : Word) : (s.wr o w).slots = s.slots := rfl
@[simp] theorem State.wr_mdma (s : State) (o : Nat) (w : Word) : (s.wr o w).mdma = s.mdma := rfl
@[simp] theorem State.wr_pwr (s : State) (o : Nat) (w : Word) : (s.wr o w).pwr = s.pwr := rfl
@[simp] theorem State.wr_dbg (s : State) (o : Nat) (w : Word) : (s.wr o w).dbg = s.dbg := rfl

@[simp] theorem State.set_pending (s : State) (f : RF) (v : Nat) : (s.set f v).pending = s.pending := rfl
@[simp] theorem State.set_shadow (s : State) (f : RF) (v : Nat) : (s.set f v).shadow = s.shadow := rfl
@[simp] theorem State.set_hiLatch (s : State) (f : RF) (v : Nat) : (s.set f v).hiLatch = s.hiLatch := rfl
@[simp] theorem State.set_views (s : State) (f : RF) (v : Nat) : (s.set f v).views = s.views := rfl
@[simp] theorem State.set_msix (s : State) (f : RF) (v : Nat) : (s.set f v).msix = s.msix := rfl
@[simp] theorem State.set_counters (s : State) (f : RF) (v : Nat) : (s.set f v).counters = s.counters := rfl
@[simp] theorem State.set_cycle (s : State) (f : RF) (v : Nat) : (s.set f v).cycle = s.cycle := rfl
@[simp] theorem State.set_adv (s : State) (f : RF) (v : Nat) : (s.set f v).adv = s.adv := rfl
@[simp] theorem State.set_free (s : State) (f : RF) (v : Nat) : (s.set f v).free = s.free := rfl
@[simp] theorem State.set_out (s : State) (f : RF) (v : Nat) : (s.set f v).out = s.out := rfl
@[simp] theorem State.set_ledger (s : State) (f : RF) (v : Nat) : (s.set f v).ledger = s.ledger := rfl
@[simp] theorem State.set_jrnl (s : State) (f : RF) (v : Nat) : (s.set f v).jrnl = s.jrnl := rfl
@[simp] theorem State.set_time (s : State) (f : RF) (v : Nat) : (s.set f v).time = s.time := rfl
@[simp] theorem State.set_core (s : State) (f : RF) (v : Nat) : (s.set f v).core = s.core := rfl
@[simp] theorem State.set_cfg (s : State) (f : RF) (v : Nat) : (s.set f v).cfg = s.cfg := rfl
@[simp] theorem State.set_links (s : State) (f : RF) (v : Nat) : (s.set f v).links = s.links := rfl
@[simp] theorem State.set_phys (s : State) (f : RF) (v : Nat) : (s.set f v).phys = s.phys := rfl
@[simp] theorem State.set_ports (s : State) (f : RF) (v : Nat) : (s.set f v).ports = s.ports := rfl
@[simp] theorem State.set_flt (s : State) (f : RF) (v : Nat) : (s.set f v).flt = s.flt := rfl
@[simp] theorem State.set_twin (s : State) (f : RF) (v : Nat) : (s.set f v).twin = s.twin := rfl
@[simp] theorem State.set_brg (s : State) (f : RF) (v : Nat) : (s.set f v).brg = s.brg := rfl
@[simp] theorem State.set_rma (s : State) (f : RF) (v : Nat) : (s.set f v).rma = s.rma := rfl
@[simp] theorem State.set_img (s : State) (f : RF) (v : Nat) : (s.set f v).img = s.img := rfl
@[simp] theorem State.set_fuses (s : State) (f : RF) (v : Nat) : (s.set f v).fuses = s.fuses := rfl
@[simp] theorem State.set_sched (s : State) (f : RF) (v : Nat) : (s.set f v).sched = s.sched := rfl
@[simp] theorem State.set_guard (s : State) (f : RF) (v : Nat) : (s.set f v).guard = s.guard := rfl
@[simp] theorem State.set_part (s : State) (f : RF) (v : Nat) : (s.set f v).part = s.part := rfl
@[simp] theorem State.set_slots (s : State) (f : RF) (v : Nat) : (s.set f v).slots = s.slots := rfl
@[simp] theorem State.set_mdma (s : State) (f : RF) (v : Nat) : (s.set f v).mdma = s.mdma := rfl
@[simp] theorem State.set_pwr (s : State) (f : RF) (v : Nat) : (s.set f v).pwr = s.pwr := rfl
@[simp] theorem State.set_dbg (s : State) (f : RF) (v : Nat) : (s.set f v).dbg = s.dbg := rfl

@[simp] theorem State.addSat_pending (s : State) (f : RF) (v : Nat) : (s.addSat f v).pending = s.pending := rfl
@[simp] theorem State.addSat_shadow (s : State) (f : RF) (v : Nat) : (s.addSat f v).shadow = s.shadow := rfl
@[simp] theorem State.addSat_hiLatch (s : State) (f : RF) (v : Nat) : (s.addSat f v).hiLatch = s.hiLatch := rfl
@[simp] theorem State.addSat_views (s : State) (f : RF) (v : Nat) : (s.addSat f v).views = s.views := rfl
@[simp] theorem State.addSat_msix (s : State) (f : RF) (v : Nat) : (s.addSat f v).msix = s.msix := rfl
@[simp] theorem State.addSat_counters (s : State) (f : RF) (v : Nat) : (s.addSat f v).counters = s.counters := rfl
@[simp] theorem State.addSat_cycle (s : State) (f : RF) (v : Nat) : (s.addSat f v).cycle = s.cycle := rfl
@[simp] theorem State.addSat_adv (s : State) (f : RF) (v : Nat) : (s.addSat f v).adv = s.adv := rfl
@[simp] theorem State.addSat_free (s : State) (f : RF) (v : Nat) : (s.addSat f v).free = s.free := rfl
@[simp] theorem State.addSat_out (s : State) (f : RF) (v : Nat) : (s.addSat f v).out = s.out := rfl
@[simp] theorem State.addSat_ledger (s : State) (f : RF) (v : Nat) : (s.addSat f v).ledger = s.ledger := rfl
@[simp] theorem State.addSat_jrnl (s : State) (f : RF) (v : Nat) : (s.addSat f v).jrnl = s.jrnl := rfl
@[simp] theorem State.addSat_time (s : State) (f : RF) (v : Nat) : (s.addSat f v).time = s.time := rfl
@[simp] theorem State.addSat_core (s : State) (f : RF) (v : Nat) : (s.addSat f v).core = s.core := rfl
@[simp] theorem State.addSat_cfg (s : State) (f : RF) (v : Nat) : (s.addSat f v).cfg = s.cfg := rfl
@[simp] theorem State.addSat_links (s : State) (f : RF) (v : Nat) : (s.addSat f v).links = s.links := rfl
@[simp] theorem State.addSat_phys (s : State) (f : RF) (v : Nat) : (s.addSat f v).phys = s.phys := rfl
@[simp] theorem State.addSat_ports (s : State) (f : RF) (v : Nat) : (s.addSat f v).ports = s.ports := rfl
@[simp] theorem State.addSat_flt (s : State) (f : RF) (v : Nat) : (s.addSat f v).flt = s.flt := rfl
@[simp] theorem State.addSat_twin (s : State) (f : RF) (v : Nat) : (s.addSat f v).twin = s.twin := rfl
@[simp] theorem State.addSat_brg (s : State) (f : RF) (v : Nat) : (s.addSat f v).brg = s.brg := rfl
@[simp] theorem State.addSat_rma (s : State) (f : RF) (v : Nat) : (s.addSat f v).rma = s.rma := rfl
@[simp] theorem State.addSat_img (s : State) (f : RF) (v : Nat) : (s.addSat f v).img = s.img := rfl
@[simp] theorem State.addSat_fuses (s : State) (f : RF) (v : Nat) : (s.addSat f v).fuses = s.fuses := rfl
@[simp] theorem State.addSat_sched (s : State) (f : RF) (v : Nat) : (s.addSat f v).sched = s.sched := rfl
@[simp] theorem State.addSat_guard (s : State) (f : RF) (v : Nat) : (s.addSat f v).guard = s.guard := rfl
@[simp] theorem State.addSat_part (s : State) (f : RF) (v : Nat) : (s.addSat f v).part = s.part := rfl
@[simp] theorem State.addSat_slots (s : State) (f : RF) (v : Nat) : (s.addSat f v).slots = s.slots := rfl
@[simp] theorem State.addSat_mdma (s : State) (f : RF) (v : Nat) : (s.addSat f v).mdma = s.mdma := rfl
@[simp] theorem State.addSat_pwr (s : State) (f : RF) (v : Nat) : (s.addSat f v).pwr = s.pwr := rfl
@[simp] theorem State.addSat_dbg (s : State) (f : RF) (v : Nat) : (s.addSat f v).dbg = s.dbg := rfl

@[simp] theorem State.wr64_pending (s : State) (o v : Nat) : (s.wr64 o v).pending = s.pending := rfl
@[simp] theorem State.wr64_shadow (s : State) (o v : Nat) : (s.wr64 o v).shadow = s.shadow := rfl
@[simp] theorem State.wr64_hiLatch (s : State) (o v : Nat) : (s.wr64 o v).hiLatch = s.hiLatch := rfl
@[simp] theorem State.wr64_views (s : State) (o v : Nat) : (s.wr64 o v).views = s.views := rfl
@[simp] theorem State.wr64_msix (s : State) (o v : Nat) : (s.wr64 o v).msix = s.msix := rfl
@[simp] theorem State.wr64_counters (s : State) (o v : Nat) : (s.wr64 o v).counters = s.counters := rfl
@[simp] theorem State.wr64_cycle (s : State) (o v : Nat) : (s.wr64 o v).cycle = s.cycle := rfl
@[simp] theorem State.wr64_adv (s : State) (o v : Nat) : (s.wr64 o v).adv = s.adv := rfl
@[simp] theorem State.wr64_free (s : State) (o v : Nat) : (s.wr64 o v).free = s.free := rfl
@[simp] theorem State.wr64_out (s : State) (o v : Nat) : (s.wr64 o v).out = s.out := rfl
@[simp] theorem State.wr64_ledger (s : State) (o v : Nat) : (s.wr64 o v).ledger = s.ledger := rfl
@[simp] theorem State.wr64_jrnl (s : State) (o v : Nat) : (s.wr64 o v).jrnl = s.jrnl := rfl
@[simp] theorem State.wr64_time (s : State) (o v : Nat) : (s.wr64 o v).time = s.time := rfl
@[simp] theorem State.wr64_core (s : State) (o v : Nat) : (s.wr64 o v).core = s.core := rfl
@[simp] theorem State.wr64_cfg (s : State) (o v : Nat) : (s.wr64 o v).cfg = s.cfg := rfl
@[simp] theorem State.wr64_links (s : State) (o v : Nat) : (s.wr64 o v).links = s.links := rfl
@[simp] theorem State.wr64_phys (s : State) (o v : Nat) : (s.wr64 o v).phys = s.phys := rfl
@[simp] theorem State.wr64_ports (s : State) (o v : Nat) : (s.wr64 o v).ports = s.ports := rfl
@[simp] theorem State.wr64_flt (s : State) (o v : Nat) : (s.wr64 o v).flt = s.flt := rfl
@[simp] theorem State.wr64_twin (s : State) (o v : Nat) : (s.wr64 o v).twin = s.twin := rfl
@[simp] theorem State.wr64_brg (s : State) (o v : Nat) : (s.wr64 o v).brg = s.brg := rfl
@[simp] theorem State.wr64_rma (s : State) (o v : Nat) : (s.wr64 o v).rma = s.rma := rfl
@[simp] theorem State.wr64_img (s : State) (o v : Nat) : (s.wr64 o v).img = s.img := rfl
@[simp] theorem State.wr64_fuses (s : State) (o v : Nat) : (s.wr64 o v).fuses = s.fuses := rfl
@[simp] theorem State.wr64_sched (s : State) (o v : Nat) : (s.wr64 o v).sched = s.sched := rfl
@[simp] theorem State.wr64_guard (s : State) (o v : Nat) : (s.wr64 o v).guard = s.guard := rfl
@[simp] theorem State.wr64_part (s : State) (o v : Nat) : (s.wr64 o v).part = s.part := rfl
@[simp] theorem State.wr64_slots (s : State) (o v : Nat) : (s.wr64 o v).slots = s.slots := rfl
@[simp] theorem State.wr64_mdma (s : State) (o v : Nat) : (s.wr64 o v).mdma = s.mdma := rfl
@[simp] theorem State.wr64_pwr (s : State) (o v : Nat) : (s.wr64 o v).pwr = s.pwr := rfl
@[simp] theorem State.wr64_dbg (s : State) (o v : Nat) : (s.wr64 o v).dbg = s.dbg := rfl

@[simp] theorem State.wrShd_pending (s : State) (o : Nat) (w : Word) : (s.wrShd o w).pending = s.pending := rfl
@[simp] theorem State.wrShd_regs (s : State) (o : Nat) (w : Word) : (s.wrShd o w).regs = s.regs := rfl
@[simp] theorem State.wrShd_hiLatch (s : State) (o : Nat) (w : Word) : (s.wrShd o w).hiLatch = s.hiLatch := rfl
@[simp] theorem State.wrShd_views (s : State) (o : Nat) (w : Word) : (s.wrShd o w).views = s.views := rfl
@[simp] theorem State.wrShd_msix (s : State) (o : Nat) (w : Word) : (s.wrShd o w).msix = s.msix := rfl
@[simp] theorem State.wrShd_counters (s : State) (o : Nat) (w : Word) : (s.wrShd o w).counters = s.counters := rfl
@[simp] theorem State.wrShd_cycle (s : State) (o : Nat) (w : Word) : (s.wrShd o w).cycle = s.cycle := rfl
@[simp] theorem State.wrShd_adv (s : State) (o : Nat) (w : Word) : (s.wrShd o w).adv = s.adv := rfl
@[simp] theorem State.wrShd_free (s : State) (o : Nat) (w : Word) : (s.wrShd o w).free = s.free := rfl
@[simp] theorem State.wrShd_out (s : State) (o : Nat) (w : Word) : (s.wrShd o w).out = s.out := rfl
@[simp] theorem State.wrShd_ledger (s : State) (o : Nat) (w : Word) : (s.wrShd o w).ledger = s.ledger := rfl
@[simp] theorem State.wrShd_jrnl (s : State) (o : Nat) (w : Word) : (s.wrShd o w).jrnl = s.jrnl := rfl
@[simp] theorem State.wrShd_time (s : State) (o : Nat) (w : Word) : (s.wrShd o w).time = s.time := rfl
@[simp] theorem State.wrShd_core (s : State) (o : Nat) (w : Word) : (s.wrShd o w).core = s.core := rfl
@[simp] theorem State.wrShd_cfg (s : State) (o : Nat) (w : Word) : (s.wrShd o w).cfg = s.cfg := rfl
@[simp] theorem State.wrShd_links (s : State) (o : Nat) (w : Word) : (s.wrShd o w).links = s.links := rfl
@[simp] theorem State.wrShd_phys (s : State) (o : Nat) (w : Word) : (s.wrShd o w).phys = s.phys := rfl
@[simp] theorem State.wrShd_ports (s : State) (o : Nat) (w : Word) : (s.wrShd o w).ports = s.ports := rfl
@[simp] theorem State.wrShd_flt (s : State) (o : Nat) (w : Word) : (s.wrShd o w).flt = s.flt := rfl
@[simp] theorem State.wrShd_twin (s : State) (o : Nat) (w : Word) : (s.wrShd o w).twin = s.twin := rfl
@[simp] theorem State.wrShd_brg (s : State) (o : Nat) (w : Word) : (s.wrShd o w).brg = s.brg := rfl
@[simp] theorem State.wrShd_rma (s : State) (o : Nat) (w : Word) : (s.wrShd o w).rma = s.rma := rfl
@[simp] theorem State.wrShd_img (s : State) (o : Nat) (w : Word) : (s.wrShd o w).img = s.img := rfl
@[simp] theorem State.wrShd_fuses (s : State) (o : Nat) (w : Word) : (s.wrShd o w).fuses = s.fuses := rfl
@[simp] theorem State.wrShd_sched (s : State) (o : Nat) (w : Word) : (s.wrShd o w).sched = s.sched := rfl
@[simp] theorem State.wrShd_guard (s : State) (o : Nat) (w : Word) : (s.wrShd o w).guard = s.guard := rfl
@[simp] theorem State.wrShd_part (s : State) (o : Nat) (w : Word) : (s.wrShd o w).part = s.part := rfl
@[simp] theorem State.wrShd_slots (s : State) (o : Nat) (w : Word) : (s.wrShd o w).slots = s.slots := rfl
@[simp] theorem State.wrShd_mdma (s : State) (o : Nat) (w : Word) : (s.wrShd o w).mdma = s.mdma := rfl
@[simp] theorem State.wrShd_pwr (s : State) (o : Nat) (w : Word) : (s.wrShd o w).pwr = s.pwr := rfl
@[simp] theorem State.wrShd_dbg (s : State) (o : Nat) (w : Word) : (s.wrShd o w).dbg = s.dbg := rfl

@[simp] theorem State.emit_pending (s : State) (o : Output) : (s.emit o).pending = s.pending := rfl
@[simp] theorem State.emit_regs (s : State) (o : Output) : (s.emit o).regs = s.regs := rfl
@[simp] theorem State.emit_shadow (s : State) (o : Output) : (s.emit o).shadow = s.shadow := rfl
@[simp] theorem State.emit_hiLatch (s : State) (o : Output) : (s.emit o).hiLatch = s.hiLatch := rfl
@[simp] theorem State.emit_views (s : State) (o : Output) : (s.emit o).views = s.views := rfl
@[simp] theorem State.emit_msix (s : State) (o : Output) : (s.emit o).msix = s.msix := rfl
@[simp] theorem State.emit_counters (s : State) (o : Output) : (s.emit o).counters = s.counters := rfl
@[simp] theorem State.emit_cycle (s : State) (o : Output) : (s.emit o).cycle = s.cycle := rfl
@[simp] theorem State.emit_adv (s : State) (o : Output) : (s.emit o).adv = s.adv := rfl
@[simp] theorem State.emit_free (s : State) (o : Output) : (s.emit o).free = s.free := rfl
@[simp] theorem State.emit_ledger (s : State) (o : Output) : (s.emit o).ledger = s.ledger := rfl
@[simp] theorem State.emit_jrnl (s : State) (o : Output) : (s.emit o).jrnl = s.jrnl := rfl
@[simp] theorem State.emit_time (s : State) (o : Output) : (s.emit o).time = s.time := rfl
@[simp] theorem State.emit_core (s : State) (o : Output) : (s.emit o).core = s.core := rfl
@[simp] theorem State.emit_cfg (s : State) (o : Output) : (s.emit o).cfg = s.cfg := rfl
@[simp] theorem State.emit_links (s : State) (o : Output) : (s.emit o).links = s.links := rfl
@[simp] theorem State.emit_phys (s : State) (o : Output) : (s.emit o).phys = s.phys := rfl
@[simp] theorem State.emit_ports (s : State) (o : Output) : (s.emit o).ports = s.ports := rfl
@[simp] theorem State.emit_flt (s : State) (o : Output) : (s.emit o).flt = s.flt := rfl
@[simp] theorem State.emit_twin (s : State) (o : Output) : (s.emit o).twin = s.twin := rfl
@[simp] theorem State.emit_brg (s : State) (o : Output) : (s.emit o).brg = s.brg := rfl
@[simp] theorem State.emit_rma (s : State) (o : Output) : (s.emit o).rma = s.rma := rfl
@[simp] theorem State.emit_img (s : State) (o : Output) : (s.emit o).img = s.img := rfl
@[simp] theorem State.emit_fuses (s : State) (o : Output) : (s.emit o).fuses = s.fuses := rfl
@[simp] theorem State.emit_sched (s : State) (o : Output) : (s.emit o).sched = s.sched := rfl
@[simp] theorem State.emit_guard (s : State) (o : Output) : (s.emit o).guard = s.guard := rfl
@[simp] theorem State.emit_part (s : State) (o : Output) : (s.emit o).part = s.part := rfl
@[simp] theorem State.emit_slots (s : State) (o : Output) : (s.emit o).slots = s.slots := rfl
@[simp] theorem State.emit_mdma (s : State) (o : Output) : (s.emit o).mdma = s.mdma := rfl
@[simp] theorem State.emit_pwr (s : State) (o : Output) : (s.emit o).pwr = s.pwr := rfl
@[simp] theorem State.emit_dbg (s : State) (o : Output) : (s.emit o).dbg = s.dbg := rfl

@[simp] theorem State.count_pending (s : State) (q k n : Nat) : (s.count q k n).pending = s.pending := rfl
@[simp] theorem State.count_regs (s : State) (q k n : Nat) : (s.count q k n).regs = s.regs := rfl
@[simp] theorem State.count_shadow (s : State) (q k n : Nat) : (s.count q k n).shadow = s.shadow := rfl
@[simp] theorem State.count_hiLatch (s : State) (q k n : Nat) : (s.count q k n).hiLatch = s.hiLatch := rfl
@[simp] theorem State.count_views (s : State) (q k n : Nat) : (s.count q k n).views = s.views := rfl
@[simp] theorem State.count_msix (s : State) (q k n : Nat) : (s.count q k n).msix = s.msix := rfl
@[simp] theorem State.count_cycle (s : State) (q k n : Nat) : (s.count q k n).cycle = s.cycle := rfl
@[simp] theorem State.count_adv (s : State) (q k n : Nat) : (s.count q k n).adv = s.adv := rfl
@[simp] theorem State.count_free (s : State) (q k n : Nat) : (s.count q k n).free = s.free := rfl
@[simp] theorem State.count_out (s : State) (q k n : Nat) : (s.count q k n).out = s.out := rfl
@[simp] theorem State.count_ledger (s : State) (q k n : Nat) : (s.count q k n).ledger = s.ledger := rfl
@[simp] theorem State.count_jrnl (s : State) (q k n : Nat) : (s.count q k n).jrnl = s.jrnl := rfl
@[simp] theorem State.count_time (s : State) (q k n : Nat) : (s.count q k n).time = s.time := rfl
@[simp] theorem State.count_core (s : State) (q k n : Nat) : (s.count q k n).core = s.core := rfl
@[simp] theorem State.count_cfg (s : State) (q k n : Nat) : (s.count q k n).cfg = s.cfg := rfl
@[simp] theorem State.count_links (s : State) (q k n : Nat) : (s.count q k n).links = s.links := rfl
@[simp] theorem State.count_phys (s : State) (q k n : Nat) : (s.count q k n).phys = s.phys := rfl
@[simp] theorem State.count_ports (s : State) (q k n : Nat) : (s.count q k n).ports = s.ports := rfl
@[simp] theorem State.count_flt (s : State) (q k n : Nat) : (s.count q k n).flt = s.flt := rfl
@[simp] theorem State.count_twin (s : State) (q k n : Nat) : (s.count q k n).twin = s.twin := rfl
@[simp] theorem State.count_brg (s : State) (q k n : Nat) : (s.count q k n).brg = s.brg := rfl
@[simp] theorem State.count_rma (s : State) (q k n : Nat) : (s.count q k n).rma = s.rma := rfl
@[simp] theorem State.count_img (s : State) (q k n : Nat) : (s.count q k n).img = s.img := rfl
@[simp] theorem State.count_fuses (s : State) (q k n : Nat) : (s.count q k n).fuses = s.fuses := rfl
@[simp] theorem State.count_sched (s : State) (q k n : Nat) : (s.count q k n).sched = s.sched := rfl
@[simp] theorem State.count_guard (s : State) (q k n : Nat) : (s.count q k n).guard = s.guard := rfl
@[simp] theorem State.count_part (s : State) (q k n : Nat) : (s.count q k n).part = s.part := rfl
@[simp] theorem State.count_slots (s : State) (q k n : Nat) : (s.count q k n).slots = s.slots := rfl
@[simp] theorem State.count_mdma (s : State) (q k n : Nat) : (s.count q k n).mdma = s.mdma := rfl
@[simp] theorem State.count_pwr (s : State) (q k n : Nat) : (s.count q k n).pwr = s.pwr := rfl
@[simp] theorem State.count_dbg (s : State) (q k n : Nat) : (s.count q k n).dbg = s.dbg := rfl

@[simp] theorem State.setSrcQ_pending (s : State) (k : Nat) (q : SrcQ) : (s.setSrcQ k q).pending = s.pending := rfl
@[simp] theorem State.setSrcQ_regs (s : State) (k : Nat) (q : SrcQ) : (s.setSrcQ k q).regs = s.regs := rfl
@[simp] theorem State.setSrcQ_shadow (s : State) (k : Nat) (q : SrcQ) : (s.setSrcQ k q).shadow = s.shadow := rfl
@[simp] theorem State.setSrcQ_hiLatch (s : State) (k : Nat) (q : SrcQ) : (s.setSrcQ k q).hiLatch = s.hiLatch := rfl
@[simp] theorem State.setSrcQ_views (s : State) (k : Nat) (q : SrcQ) : (s.setSrcQ k q).views = s.views := rfl
@[simp] theorem State.setSrcQ_msix (s : State) (k : Nat) (q : SrcQ) : (s.setSrcQ k q).msix = s.msix := rfl
@[simp] theorem State.setSrcQ_counters (s : State) (k : Nat) (q : SrcQ) : (s.setSrcQ k q).counters = s.counters := rfl
@[simp] theorem State.setSrcQ_cycle (s : State) (k : Nat) (q : SrcQ) : (s.setSrcQ k q).cycle = s.cycle := rfl
@[simp] theorem State.setSrcQ_adv (s : State) (k : Nat) (q : SrcQ) : (s.setSrcQ k q).adv = s.adv := rfl
@[simp] theorem State.setSrcQ_free (s : State) (k : Nat) (q : SrcQ) : (s.setSrcQ k q).free = s.free := rfl
@[simp] theorem State.setSrcQ_out (s : State) (k : Nat) (q : SrcQ) : (s.setSrcQ k q).out = s.out := rfl
@[simp] theorem State.setSrcQ_jrnl (s : State) (k : Nat) (q : SrcQ) : (s.setSrcQ k q).jrnl = s.jrnl := rfl
@[simp] theorem State.setSrcQ_time (s : State) (k : Nat) (q : SrcQ) : (s.setSrcQ k q).time = s.time := rfl
@[simp] theorem State.setSrcQ_core (s : State) (k : Nat) (q : SrcQ) : (s.setSrcQ k q).core = s.core := rfl
@[simp] theorem State.setSrcQ_cfg (s : State) (k : Nat) (q : SrcQ) : (s.setSrcQ k q).cfg = s.cfg := rfl
@[simp] theorem State.setSrcQ_links (s : State) (k : Nat) (q : SrcQ) : (s.setSrcQ k q).links = s.links := rfl
@[simp] theorem State.setSrcQ_phys (s : State) (k : Nat) (q : SrcQ) : (s.setSrcQ k q).phys = s.phys := rfl
@[simp] theorem State.setSrcQ_ports (s : State) (k : Nat) (q : SrcQ) : (s.setSrcQ k q).ports = s.ports := rfl
@[simp] theorem State.setSrcQ_flt (s : State) (k : Nat) (q : SrcQ) : (s.setSrcQ k q).flt = s.flt := rfl
@[simp] theorem State.setSrcQ_twin (s : State) (k : Nat) (q : SrcQ) : (s.setSrcQ k q).twin = s.twin := rfl
@[simp] theorem State.setSrcQ_brg (s : State) (k : Nat) (q : SrcQ) : (s.setSrcQ k q).brg = s.brg := rfl
@[simp] theorem State.setSrcQ_rma (s : State) (k : Nat) (q : SrcQ) : (s.setSrcQ k q).rma = s.rma := rfl
@[simp] theorem State.setSrcQ_img (s : State) (k : Nat) (q : SrcQ) : (s.setSrcQ k q).img = s.img := rfl
@[simp] theorem State.setSrcQ_fuses (s : State) (k : Nat) (q : SrcQ) : (s.setSrcQ k q).fuses = s.fuses := rfl
@[simp] theorem State.setSrcQ_sched (s : State) (k : Nat) (q : SrcQ) : (s.setSrcQ k q).sched = s.sched := rfl
@[simp] theorem State.setSrcQ_guard (s : State) (k : Nat) (q : SrcQ) : (s.setSrcQ k q).guard = s.guard := rfl
@[simp] theorem State.setSrcQ_part (s : State) (k : Nat) (q : SrcQ) : (s.setSrcQ k q).part = s.part := rfl
@[simp] theorem State.setSrcQ_slots (s : State) (k : Nat) (q : SrcQ) : (s.setSrcQ k q).slots = s.slots := rfl
@[simp] theorem State.setSrcQ_mdma (s : State) (k : Nat) (q : SrcQ) : (s.setSrcQ k q).mdma = s.mdma := rfl
@[simp] theorem State.setSrcQ_pwr (s : State) (k : Nat) (q : SrcQ) : (s.setSrcQ k q).pwr = s.pwr := rfl
@[simp] theorem State.setSrcQ_dbg (s : State) (k : Nat) (q : SrcQ) : (s.setSrcQ k q).dbg = s.dbg := rfl

@[simp] theorem State.post_pending (s : State) (k : Nat) (e : Ev) : (s.post k e).pending = s.pending := rfl
@[simp] theorem State.post_regs (s : State) (k : Nat) (e : Ev) : (s.post k e).regs = s.regs := rfl
@[simp] theorem State.post_shadow (s : State) (k : Nat) (e : Ev) : (s.post k e).shadow = s.shadow := rfl
@[simp] theorem State.post_hiLatch (s : State) (k : Nat) (e : Ev) : (s.post k e).hiLatch = s.hiLatch := rfl
@[simp] theorem State.post_views (s : State) (k : Nat) (e : Ev) : (s.post k e).views = s.views := rfl
@[simp] theorem State.post_msix (s : State) (k : Nat) (e : Ev) : (s.post k e).msix = s.msix := rfl
@[simp] theorem State.post_counters (s : State) (k : Nat) (e : Ev) : (s.post k e).counters = s.counters := rfl
@[simp] theorem State.post_cycle (s : State) (k : Nat) (e : Ev) : (s.post k e).cycle = s.cycle := rfl
@[simp] theorem State.post_adv (s : State) (k : Nat) (e : Ev) : (s.post k e).adv = s.adv := rfl
@[simp] theorem State.post_free (s : State) (k : Nat) (e : Ev) : (s.post k e).free = s.free := rfl
@[simp] theorem State.post_out (s : State) (k : Nat) (e : Ev) : (s.post k e).out = s.out := rfl
@[simp] theorem State.post_jrnl (s : State) (k : Nat) (e : Ev) : (s.post k e).jrnl = s.jrnl := rfl
@[simp] theorem State.post_time (s : State) (k : Nat) (e : Ev) : (s.post k e).time = s.time := rfl
@[simp] theorem State.post_core (s : State) (k : Nat) (e : Ev) : (s.post k e).core = s.core := rfl
@[simp] theorem State.post_cfg (s : State) (k : Nat) (e : Ev) : (s.post k e).cfg = s.cfg := rfl
@[simp] theorem State.post_links (s : State) (k : Nat) (e : Ev) : (s.post k e).links = s.links := rfl
@[simp] theorem State.post_phys (s : State) (k : Nat) (e : Ev) : (s.post k e).phys = s.phys := rfl
@[simp] theorem State.post_ports (s : State) (k : Nat) (e : Ev) : (s.post k e).ports = s.ports := rfl
@[simp] theorem State.post_flt (s : State) (k : Nat) (e : Ev) : (s.post k e).flt = s.flt := rfl
@[simp] theorem State.post_twin (s : State) (k : Nat) (e : Ev) : (s.post k e).twin = s.twin := rfl
@[simp] theorem State.post_brg (s : State) (k : Nat) (e : Ev) : (s.post k e).brg = s.brg := rfl
@[simp] theorem State.post_rma (s : State) (k : Nat) (e : Ev) : (s.post k e).rma = s.rma := rfl
@[simp] theorem State.post_img (s : State) (k : Nat) (e : Ev) : (s.post k e).img = s.img := rfl
@[simp] theorem State.post_fuses (s : State) (k : Nat) (e : Ev) : (s.post k e).fuses = s.fuses := rfl
@[simp] theorem State.post_sched (s : State) (k : Nat) (e : Ev) : (s.post k e).sched = s.sched := rfl
@[simp] theorem State.post_guard (s : State) (k : Nat) (e : Ev) : (s.post k e).guard = s.guard := rfl
@[simp] theorem State.post_part (s : State) (k : Nat) (e : Ev) : (s.post k e).part = s.part := rfl
@[simp] theorem State.post_slots (s : State) (k : Nat) (e : Ev) : (s.post k e).slots = s.slots := rfl
@[simp] theorem State.post_mdma (s : State) (k : Nat) (e : Ev) : (s.post k e).mdma = s.mdma := rfl
@[simp] theorem State.post_pwr (s : State) (k : Nat) (e : Ev) : (s.post k e).pwr = s.pwr := rfl
@[simp] theorem State.post_dbg (s : State) (k : Nat) (e : Ev) : (s.post k e).dbg = s.dbg := rfl

@[simp] theorem State.hold_pending (s : State) (k : Nat) (h : Held) : (s.hold k h).pending = s.pending := rfl
@[simp] theorem State.hold_regs (s : State) (k : Nat) (h : Held) : (s.hold k h).regs = s.regs := rfl
@[simp] theorem State.hold_shadow (s : State) (k : Nat) (h : Held) : (s.hold k h).shadow = s.shadow := rfl
@[simp] theorem State.hold_hiLatch (s : State) (k : Nat) (h : Held) : (s.hold k h).hiLatch = s.hiLatch := rfl
@[simp] theorem State.hold_views (s : State) (k : Nat) (h : Held) : (s.hold k h).views = s.views := rfl
@[simp] theorem State.hold_msix (s : State) (k : Nat) (h : Held) : (s.hold k h).msix = s.msix := rfl
@[simp] theorem State.hold_counters (s : State) (k : Nat) (h : Held) : (s.hold k h).counters = s.counters := rfl
@[simp] theorem State.hold_cycle (s : State) (k : Nat) (h : Held) : (s.hold k h).cycle = s.cycle := rfl
@[simp] theorem State.hold_adv (s : State) (k : Nat) (h : Held) : (s.hold k h).adv = s.adv := rfl
@[simp] theorem State.hold_free (s : State) (k : Nat) (h : Held) : (s.hold k h).free = s.free := rfl
@[simp] theorem State.hold_out (s : State) (k : Nat) (h : Held) : (s.hold k h).out = s.out := rfl
@[simp] theorem State.hold_jrnl (s : State) (k : Nat) (h : Held) : (s.hold k h).jrnl = s.jrnl := rfl
@[simp] theorem State.hold_time (s : State) (k : Nat) (h : Held) : (s.hold k h).time = s.time := rfl
@[simp] theorem State.hold_core (s : State) (k : Nat) (h : Held) : (s.hold k h).core = s.core := rfl
@[simp] theorem State.hold_cfg (s : State) (k : Nat) (h : Held) : (s.hold k h).cfg = s.cfg := rfl
@[simp] theorem State.hold_links (s : State) (k : Nat) (h : Held) : (s.hold k h).links = s.links := rfl
@[simp] theorem State.hold_phys (s : State) (k : Nat) (h : Held) : (s.hold k h).phys = s.phys := rfl
@[simp] theorem State.hold_ports (s : State) (k : Nat) (h : Held) : (s.hold k h).ports = s.ports := rfl
@[simp] theorem State.hold_flt (s : State) (k : Nat) (h : Held) : (s.hold k h).flt = s.flt := rfl
@[simp] theorem State.hold_twin (s : State) (k : Nat) (h : Held) : (s.hold k h).twin = s.twin := rfl
@[simp] theorem State.hold_brg (s : State) (k : Nat) (h : Held) : (s.hold k h).brg = s.brg := rfl
@[simp] theorem State.hold_rma (s : State) (k : Nat) (h : Held) : (s.hold k h).rma = s.rma := rfl
@[simp] theorem State.hold_img (s : State) (k : Nat) (h : Held) : (s.hold k h).img = s.img := rfl
@[simp] theorem State.hold_fuses (s : State) (k : Nat) (h : Held) : (s.hold k h).fuses = s.fuses := rfl
@[simp] theorem State.hold_sched (s : State) (k : Nat) (h : Held) : (s.hold k h).sched = s.sched := rfl
@[simp] theorem State.hold_guard (s : State) (k : Nat) (h : Held) : (s.hold k h).guard = s.guard := rfl
@[simp] theorem State.hold_part (s : State) (k : Nat) (h : Held) : (s.hold k h).part = s.part := rfl
@[simp] theorem State.hold_slots (s : State) (k : Nat) (h : Held) : (s.hold k h).slots = s.slots := rfl
@[simp] theorem State.hold_mdma (s : State) (k : Nat) (h : Held) : (s.hold k h).mdma = s.mdma := rfl
@[simp] theorem State.hold_pwr (s : State) (k : Nat) (h : Held) : (s.hold k h).pwr = s.pwr := rfl
@[simp] theorem State.hold_dbg (s : State) (k : Nat) (h : Held) : (s.hold k h).dbg = s.dbg := rfl

@[simp] theorem State.cfgWr_pending (s : State) (fn dw : Nat) (w : Word) : (s.cfgWr fn dw w).pending = s.pending := rfl
@[simp] theorem State.cfgWr_regs (s : State) (fn dw : Nat) (w : Word) : (s.cfgWr fn dw w).regs = s.regs := rfl
@[simp] theorem State.cfgWr_shadow (s : State) (fn dw : Nat) (w : Word) : (s.cfgWr fn dw w).shadow = s.shadow := rfl
@[simp] theorem State.cfgWr_hiLatch (s : State) (fn dw : Nat) (w : Word) : (s.cfgWr fn dw w).hiLatch = s.hiLatch := rfl
@[simp] theorem State.cfgWr_views (s : State) (fn dw : Nat) (w : Word) : (s.cfgWr fn dw w).views = s.views := rfl
@[simp] theorem State.cfgWr_msix (s : State) (fn dw : Nat) (w : Word) : (s.cfgWr fn dw w).msix = s.msix := rfl
@[simp] theorem State.cfgWr_counters (s : State) (fn dw : Nat) (w : Word) : (s.cfgWr fn dw w).counters = s.counters := rfl
@[simp] theorem State.cfgWr_cycle (s : State) (fn dw : Nat) (w : Word) : (s.cfgWr fn dw w).cycle = s.cycle := rfl
@[simp] theorem State.cfgWr_adv (s : State) (fn dw : Nat) (w : Word) : (s.cfgWr fn dw w).adv = s.adv := rfl
@[simp] theorem State.cfgWr_free (s : State) (fn dw : Nat) (w : Word) : (s.cfgWr fn dw w).free = s.free := rfl
@[simp] theorem State.cfgWr_out (s : State) (fn dw : Nat) (w : Word) : (s.cfgWr fn dw w).out = s.out := rfl
@[simp] theorem State.cfgWr_ledger (s : State) (fn dw : Nat) (w : Word) : (s.cfgWr fn dw w).ledger = s.ledger := rfl
@[simp] theorem State.cfgWr_jrnl (s : State) (fn dw : Nat) (w : Word) : (s.cfgWr fn dw w).jrnl = s.jrnl := rfl
@[simp] theorem State.cfgWr_time (s : State) (fn dw : Nat) (w : Word) : (s.cfgWr fn dw w).time = s.time := rfl
@[simp] theorem State.cfgWr_core (s : State) (fn dw : Nat) (w : Word) : (s.cfgWr fn dw w).core = s.core := rfl
@[simp] theorem State.cfgWr_links (s : State) (fn dw : Nat) (w : Word) : (s.cfgWr fn dw w).links = s.links := rfl
@[simp] theorem State.cfgWr_phys (s : State) (fn dw : Nat) (w : Word) : (s.cfgWr fn dw w).phys = s.phys := rfl
@[simp] theorem State.cfgWr_ports (s : State) (fn dw : Nat) (w : Word) : (s.cfgWr fn dw w).ports = s.ports := rfl
@[simp] theorem State.cfgWr_flt (s : State) (fn dw : Nat) (w : Word) : (s.cfgWr fn dw w).flt = s.flt := rfl
@[simp] theorem State.cfgWr_twin (s : State) (fn dw : Nat) (w : Word) : (s.cfgWr fn dw w).twin = s.twin := rfl
@[simp] theorem State.cfgWr_brg (s : State) (fn dw : Nat) (w : Word) : (s.cfgWr fn dw w).brg = s.brg := rfl
@[simp] theorem State.cfgWr_rma (s : State) (fn dw : Nat) (w : Word) : (s.cfgWr fn dw w).rma = s.rma := rfl
@[simp] theorem State.cfgWr_img (s : State) (fn dw : Nat) (w : Word) : (s.cfgWr fn dw w).img = s.img := rfl
@[simp] theorem State.cfgWr_fuses (s : State) (fn dw : Nat) (w : Word) : (s.cfgWr fn dw w).fuses = s.fuses := rfl
@[simp] theorem State.cfgWr_sched (s : State) (fn dw : Nat) (w : Word) : (s.cfgWr fn dw w).sched = s.sched := rfl
@[simp] theorem State.cfgWr_guard (s : State) (fn dw : Nat) (w : Word) : (s.cfgWr fn dw w).guard = s.guard := rfl
@[simp] theorem State.cfgWr_part (s : State) (fn dw : Nat) (w : Word) : (s.cfgWr fn dw w).part = s.part := rfl
@[simp] theorem State.cfgWr_slots (s : State) (fn dw : Nat) (w : Word) : (s.cfgWr fn dw w).slots = s.slots := rfl
@[simp] theorem State.cfgWr_mdma (s : State) (fn dw : Nat) (w : Word) : (s.cfgWr fn dw w).mdma = s.mdma := rfl
@[simp] theorem State.cfgWr_pwr (s : State) (fn dw : Nat) (w : Word) : (s.cfgWr fn dw w).pwr = s.pwr := rfl
@[simp] theorem State.cfgWr_dbg (s : State) (fn dw : Nat) (w : Word) : (s.cfgWr fn dw w).dbg = s.dbg := rfl

@[simp] theorem State.setPaux_pending (s : State) (n : Nat) (a : PortAux) : (s.setPaux n a).pending = s.pending := rfl
@[simp] theorem State.setPaux_regs (s : State) (n : Nat) (a : PortAux) : (s.setPaux n a).regs = s.regs := rfl
@[simp] theorem State.setPaux_shadow (s : State) (n : Nat) (a : PortAux) : (s.setPaux n a).shadow = s.shadow := rfl
@[simp] theorem State.setPaux_hiLatch (s : State) (n : Nat) (a : PortAux) : (s.setPaux n a).hiLatch = s.hiLatch := rfl
@[simp] theorem State.setPaux_views (s : State) (n : Nat) (a : PortAux) : (s.setPaux n a).views = s.views := rfl
@[simp] theorem State.setPaux_msix (s : State) (n : Nat) (a : PortAux) : (s.setPaux n a).msix = s.msix := rfl
@[simp] theorem State.setPaux_counters (s : State) (n : Nat) (a : PortAux) : (s.setPaux n a).counters = s.counters := rfl
@[simp] theorem State.setPaux_cycle (s : State) (n : Nat) (a : PortAux) : (s.setPaux n a).cycle = s.cycle := rfl
@[simp] theorem State.setPaux_adv (s : State) (n : Nat) (a : PortAux) : (s.setPaux n a).adv = s.adv := rfl
@[simp] theorem State.setPaux_free (s : State) (n : Nat) (a : PortAux) : (s.setPaux n a).free = s.free := rfl
@[simp] theorem State.setPaux_out (s : State) (n : Nat) (a : PortAux) : (s.setPaux n a).out = s.out := rfl
@[simp] theorem State.setPaux_ledger (s : State) (n : Nat) (a : PortAux) : (s.setPaux n a).ledger = s.ledger := rfl
@[simp] theorem State.setPaux_jrnl (s : State) (n : Nat) (a : PortAux) : (s.setPaux n a).jrnl = s.jrnl := rfl
@[simp] theorem State.setPaux_time (s : State) (n : Nat) (a : PortAux) : (s.setPaux n a).time = s.time := rfl
@[simp] theorem State.setPaux_core (s : State) (n : Nat) (a : PortAux) : (s.setPaux n a).core = s.core := rfl
@[simp] theorem State.setPaux_cfg (s : State) (n : Nat) (a : PortAux) : (s.setPaux n a).cfg = s.cfg := rfl
@[simp] theorem State.setPaux_links (s : State) (n : Nat) (a : PortAux) : (s.setPaux n a).links = s.links := rfl
@[simp] theorem State.setPaux_phys (s : State) (n : Nat) (a : PortAux) : (s.setPaux n a).phys = s.phys := rfl
@[simp] theorem State.setPaux_flt (s : State) (n : Nat) (a : PortAux) : (s.setPaux n a).flt = s.flt := rfl
@[simp] theorem State.setPaux_twin (s : State) (n : Nat) (a : PortAux) : (s.setPaux n a).twin = s.twin := rfl
@[simp] theorem State.setPaux_brg (s : State) (n : Nat) (a : PortAux) : (s.setPaux n a).brg = s.brg := rfl
@[simp] theorem State.setPaux_rma (s : State) (n : Nat) (a : PortAux) : (s.setPaux n a).rma = s.rma := rfl
@[simp] theorem State.setPaux_img (s : State) (n : Nat) (a : PortAux) : (s.setPaux n a).img = s.img := rfl
@[simp] theorem State.setPaux_fuses (s : State) (n : Nat) (a : PortAux) : (s.setPaux n a).fuses = s.fuses := rfl
@[simp] theorem State.setPaux_sched (s : State) (n : Nat) (a : PortAux) : (s.setPaux n a).sched = s.sched := rfl
@[simp] theorem State.setPaux_guard (s : State) (n : Nat) (a : PortAux) : (s.setPaux n a).guard = s.guard := rfl
@[simp] theorem State.setPaux_part (s : State) (n : Nat) (a : PortAux) : (s.setPaux n a).part = s.part := rfl
@[simp] theorem State.setPaux_slots (s : State) (n : Nat) (a : PortAux) : (s.setPaux n a).slots = s.slots := rfl
@[simp] theorem State.setPaux_mdma (s : State) (n : Nat) (a : PortAux) : (s.setPaux n a).mdma = s.mdma := rfl
@[simp] theorem State.setPaux_pwr (s : State) (n : Nat) (a : PortAux) : (s.setPaux n a).pwr = s.pwr := rfl
@[simp] theorem State.setPaux_dbg (s : State) (n : Nat) (a : PortAux) : (s.setPaux n a).dbg = s.dbg := rfl

@[simp] theorem State.setPhy_pending (s : State) (b : Nat) (p : Phy) : (s.setPhy b p).pending = s.pending := rfl
@[simp] theorem State.setPhy_regs (s : State) (b : Nat) (p : Phy) : (s.setPhy b p).regs = s.regs := rfl
@[simp] theorem State.setPhy_shadow (s : State) (b : Nat) (p : Phy) : (s.setPhy b p).shadow = s.shadow := rfl
@[simp] theorem State.setPhy_hiLatch (s : State) (b : Nat) (p : Phy) : (s.setPhy b p).hiLatch = s.hiLatch := rfl
@[simp] theorem State.setPhy_views (s : State) (b : Nat) (p : Phy) : (s.setPhy b p).views = s.views := rfl
@[simp] theorem State.setPhy_msix (s : State) (b : Nat) (p : Phy) : (s.setPhy b p).msix = s.msix := rfl
@[simp] theorem State.setPhy_counters (s : State) (b : Nat) (p : Phy) : (s.setPhy b p).counters = s.counters := rfl
@[simp] theorem State.setPhy_cycle (s : State) (b : Nat) (p : Phy) : (s.setPhy b p).cycle = s.cycle := rfl
@[simp] theorem State.setPhy_adv (s : State) (b : Nat) (p : Phy) : (s.setPhy b p).adv = s.adv := rfl
@[simp] theorem State.setPhy_free (s : State) (b : Nat) (p : Phy) : (s.setPhy b p).free = s.free := rfl
@[simp] theorem State.setPhy_out (s : State) (b : Nat) (p : Phy) : (s.setPhy b p).out = s.out := rfl
@[simp] theorem State.setPhy_ledger (s : State) (b : Nat) (p : Phy) : (s.setPhy b p).ledger = s.ledger := rfl
@[simp] theorem State.setPhy_jrnl (s : State) (b : Nat) (p : Phy) : (s.setPhy b p).jrnl = s.jrnl := rfl
@[simp] theorem State.setPhy_time (s : State) (b : Nat) (p : Phy) : (s.setPhy b p).time = s.time := rfl
@[simp] theorem State.setPhy_core (s : State) (b : Nat) (p : Phy) : (s.setPhy b p).core = s.core := rfl
@[simp] theorem State.setPhy_cfg (s : State) (b : Nat) (p : Phy) : (s.setPhy b p).cfg = s.cfg := rfl
@[simp] theorem State.setPhy_links (s : State) (b : Nat) (p : Phy) : (s.setPhy b p).links = s.links := rfl
@[simp] theorem State.setPhy_ports (s : State) (b : Nat) (p : Phy) : (s.setPhy b p).ports = s.ports := rfl
@[simp] theorem State.setPhy_flt (s : State) (b : Nat) (p : Phy) : (s.setPhy b p).flt = s.flt := rfl
@[simp] theorem State.setPhy_twin (s : State) (b : Nat) (p : Phy) : (s.setPhy b p).twin = s.twin := rfl
@[simp] theorem State.setPhy_brg (s : State) (b : Nat) (p : Phy) : (s.setPhy b p).brg = s.brg := rfl
@[simp] theorem State.setPhy_rma (s : State) (b : Nat) (p : Phy) : (s.setPhy b p).rma = s.rma := rfl
@[simp] theorem State.setPhy_img (s : State) (b : Nat) (p : Phy) : (s.setPhy b p).img = s.img := rfl
@[simp] theorem State.setPhy_fuses (s : State) (b : Nat) (p : Phy) : (s.setPhy b p).fuses = s.fuses := rfl
@[simp] theorem State.setPhy_sched (s : State) (b : Nat) (p : Phy) : (s.setPhy b p).sched = s.sched := rfl
@[simp] theorem State.setPhy_guard (s : State) (b : Nat) (p : Phy) : (s.setPhy b p).guard = s.guard := rfl
@[simp] theorem State.setPhy_part (s : State) (b : Nat) (p : Phy) : (s.setPhy b p).part = s.part := rfl
@[simp] theorem State.setPhy_slots (s : State) (b : Nat) (p : Phy) : (s.setPhy b p).slots = s.slots := rfl
@[simp] theorem State.setPhy_mdma (s : State) (b : Nat) (p : Phy) : (s.setPhy b p).mdma = s.mdma := rfl
@[simp] theorem State.setPhy_pwr (s : State) (b : Nat) (p : Phy) : (s.setPhy b p).pwr = s.pwr := rfl
@[simp] theorem State.setPhy_dbg (s : State) (b : Nat) (p : Phy) : (s.setPhy b p).dbg = s.dbg := rfl

@[simp] theorem State.setSaux_pending (s : State) (n : Nat) (a : SlotAux) : (s.setSaux n a).pending = s.pending := rfl
@[simp] theorem State.setSaux_regs (s : State) (n : Nat) (a : SlotAux) : (s.setSaux n a).regs = s.regs := rfl
@[simp] theorem State.setSaux_shadow (s : State) (n : Nat) (a : SlotAux) : (s.setSaux n a).shadow = s.shadow := rfl
@[simp] theorem State.setSaux_hiLatch (s : State) (n : Nat) (a : SlotAux) : (s.setSaux n a).hiLatch = s.hiLatch := rfl
@[simp] theorem State.setSaux_views (s : State) (n : Nat) (a : SlotAux) : (s.setSaux n a).views = s.views := rfl
@[simp] theorem State.setSaux_msix (s : State) (n : Nat) (a : SlotAux) : (s.setSaux n a).msix = s.msix := rfl
@[simp] theorem State.setSaux_counters (s : State) (n : Nat) (a : SlotAux) : (s.setSaux n a).counters = s.counters := rfl
@[simp] theorem State.setSaux_cycle (s : State) (n : Nat) (a : SlotAux) : (s.setSaux n a).cycle = s.cycle := rfl
@[simp] theorem State.setSaux_adv (s : State) (n : Nat) (a : SlotAux) : (s.setSaux n a).adv = s.adv := rfl
@[simp] theorem State.setSaux_free (s : State) (n : Nat) (a : SlotAux) : (s.setSaux n a).free = s.free := rfl
@[simp] theorem State.setSaux_out (s : State) (n : Nat) (a : SlotAux) : (s.setSaux n a).out = s.out := rfl
@[simp] theorem State.setSaux_ledger (s : State) (n : Nat) (a : SlotAux) : (s.setSaux n a).ledger = s.ledger := rfl
@[simp] theorem State.setSaux_jrnl (s : State) (n : Nat) (a : SlotAux) : (s.setSaux n a).jrnl = s.jrnl := rfl
@[simp] theorem State.setSaux_time (s : State) (n : Nat) (a : SlotAux) : (s.setSaux n a).time = s.time := rfl
@[simp] theorem State.setSaux_core (s : State) (n : Nat) (a : SlotAux) : (s.setSaux n a).core = s.core := rfl
@[simp] theorem State.setSaux_cfg (s : State) (n : Nat) (a : SlotAux) : (s.setSaux n a).cfg = s.cfg := rfl
@[simp] theorem State.setSaux_links (s : State) (n : Nat) (a : SlotAux) : (s.setSaux n a).links = s.links := rfl
@[simp] theorem State.setSaux_phys (s : State) (n : Nat) (a : SlotAux) : (s.setSaux n a).phys = s.phys := rfl
@[simp] theorem State.setSaux_ports (s : State) (n : Nat) (a : SlotAux) : (s.setSaux n a).ports = s.ports := rfl
@[simp] theorem State.setSaux_flt (s : State) (n : Nat) (a : SlotAux) : (s.setSaux n a).flt = s.flt := rfl
@[simp] theorem State.setSaux_twin (s : State) (n : Nat) (a : SlotAux) : (s.setSaux n a).twin = s.twin := rfl
@[simp] theorem State.setSaux_brg (s : State) (n : Nat) (a : SlotAux) : (s.setSaux n a).brg = s.brg := rfl
@[simp] theorem State.setSaux_rma (s : State) (n : Nat) (a : SlotAux) : (s.setSaux n a).rma = s.rma := rfl
@[simp] theorem State.setSaux_img (s : State) (n : Nat) (a : SlotAux) : (s.setSaux n a).img = s.img := rfl
@[simp] theorem State.setSaux_fuses (s : State) (n : Nat) (a : SlotAux) : (s.setSaux n a).fuses = s.fuses := rfl
@[simp] theorem State.setSaux_sched (s : State) (n : Nat) (a : SlotAux) : (s.setSaux n a).sched = s.sched := rfl
@[simp] theorem State.setSaux_guard (s : State) (n : Nat) (a : SlotAux) : (s.setSaux n a).guard = s.guard := rfl
@[simp] theorem State.setSaux_part (s : State) (n : Nat) (a : SlotAux) : (s.setSaux n a).part = s.part := rfl
@[simp] theorem State.setSaux_mdma (s : State) (n : Nat) (a : SlotAux) : (s.setSaux n a).mdma = s.mdma := rfl
@[simp] theorem State.setSaux_pwr (s : State) (n : Nat) (a : SlotAux) : (s.setSaux n a).pwr = s.pwr := rfl
@[simp] theorem State.setSaux_dbg (s : State) (n : Nat) (a : SlotAux) : (s.setSaux n a).dbg = s.dbg := rfl

@[simp] theorem State.setPkt_pending (s : State) (p : Pkt) : (s.setPkt p).pending = s.pending := rfl
@[simp] theorem State.setPkt_regs (s : State) (p : Pkt) : (s.setPkt p).regs = s.regs := rfl
@[simp] theorem State.setPkt_shadow (s : State) (p : Pkt) : (s.setPkt p).shadow = s.shadow := rfl
@[simp] theorem State.setPkt_hiLatch (s : State) (p : Pkt) : (s.setPkt p).hiLatch = s.hiLatch := rfl
@[simp] theorem State.setPkt_views (s : State) (p : Pkt) : (s.setPkt p).views = s.views := rfl
@[simp] theorem State.setPkt_msix (s : State) (p : Pkt) : (s.setPkt p).msix = s.msix := rfl
@[simp] theorem State.setPkt_counters (s : State) (p : Pkt) : (s.setPkt p).counters = s.counters := rfl
@[simp] theorem State.setPkt_cycle (s : State) (p : Pkt) : (s.setPkt p).cycle = s.cycle := rfl
@[simp] theorem State.setPkt_adv (s : State) (p : Pkt) : (s.setPkt p).adv = s.adv := rfl
@[simp] theorem State.setPkt_free (s : State) (p : Pkt) : (s.setPkt p).free = s.free := rfl
@[simp] theorem State.setPkt_out (s : State) (p : Pkt) : (s.setPkt p).out = s.out := rfl
@[simp] theorem State.setPkt_ledger (s : State) (p : Pkt) : (s.setPkt p).ledger = s.ledger := rfl
@[simp] theorem State.setPkt_jrnl (s : State) (p : Pkt) : (s.setPkt p).jrnl = s.jrnl := rfl
@[simp] theorem State.setPkt_time (s : State) (p : Pkt) : (s.setPkt p).time = s.time := rfl
@[simp] theorem State.setPkt_cfg (s : State) (p : Pkt) : (s.setPkt p).cfg = s.cfg := rfl
@[simp] theorem State.setPkt_links (s : State) (p : Pkt) : (s.setPkt p).links = s.links := rfl
@[simp] theorem State.setPkt_phys (s : State) (p : Pkt) : (s.setPkt p).phys = s.phys := rfl
@[simp] theorem State.setPkt_ports (s : State) (p : Pkt) : (s.setPkt p).ports = s.ports := rfl
@[simp] theorem State.setPkt_flt (s : State) (p : Pkt) : (s.setPkt p).flt = s.flt := rfl
@[simp] theorem State.setPkt_twin (s : State) (p : Pkt) : (s.setPkt p).twin = s.twin := rfl
@[simp] theorem State.setPkt_brg (s : State) (p : Pkt) : (s.setPkt p).brg = s.brg := rfl
@[simp] theorem State.setPkt_rma (s : State) (p : Pkt) : (s.setPkt p).rma = s.rma := rfl
@[simp] theorem State.setPkt_img (s : State) (p : Pkt) : (s.setPkt p).img = s.img := rfl
@[simp] theorem State.setPkt_fuses (s : State) (p : Pkt) : (s.setPkt p).fuses = s.fuses := rfl
@[simp] theorem State.setPkt_sched (s : State) (p : Pkt) : (s.setPkt p).sched = s.sched := rfl
@[simp] theorem State.setPkt_guard (s : State) (p : Pkt) : (s.setPkt p).guard = s.guard := rfl
@[simp] theorem State.setPkt_part (s : State) (p : Pkt) : (s.setPkt p).part = s.part := rfl
@[simp] theorem State.setPkt_slots (s : State) (p : Pkt) : (s.setPkt p).slots = s.slots := rfl
@[simp] theorem State.setPkt_mdma (s : State) (p : Pkt) : (s.setPkt p).mdma = s.mdma := rfl
@[simp] theorem State.setPkt_pwr (s : State) (p : Pkt) : (s.setPkt p).pwr = s.pwr := rfl
@[simp] theorem State.setPkt_dbg (s : State) (p : Pkt) : (s.setPkt p).dbg = s.dbg := rfl

@[simp] theorem State.setRing_pending (s : State) (r : Nat) (g : Ring) : (s.setRing r g).pending = s.pending := rfl
@[simp] theorem State.setRing_regs (s : State) (r : Nat) (g : Ring) : (s.setRing r g).regs = s.regs := rfl
@[simp] theorem State.setRing_shadow (s : State) (r : Nat) (g : Ring) : (s.setRing r g).shadow = s.shadow := rfl
@[simp] theorem State.setRing_hiLatch (s : State) (r : Nat) (g : Ring) : (s.setRing r g).hiLatch = s.hiLatch := rfl
@[simp] theorem State.setRing_views (s : State) (r : Nat) (g : Ring) : (s.setRing r g).views = s.views := rfl
@[simp] theorem State.setRing_msix (s : State) (r : Nat) (g : Ring) : (s.setRing r g).msix = s.msix := rfl
@[simp] theorem State.setRing_counters (s : State) (r : Nat) (g : Ring) : (s.setRing r g).counters = s.counters := rfl
@[simp] theorem State.setRing_cycle (s : State) (r : Nat) (g : Ring) : (s.setRing r g).cycle = s.cycle := rfl
@[simp] theorem State.setRing_adv (s : State) (r : Nat) (g : Ring) : (s.setRing r g).adv = s.adv := rfl
@[simp] theorem State.setRing_free (s : State) (r : Nat) (g : Ring) : (s.setRing r g).free = s.free := rfl
@[simp] theorem State.setRing_out (s : State) (r : Nat) (g : Ring) : (s.setRing r g).out = s.out := rfl
@[simp] theorem State.setRing_ledger (s : State) (r : Nat) (g : Ring) : (s.setRing r g).ledger = s.ledger := rfl
@[simp] theorem State.setRing_jrnl (s : State) (r : Nat) (g : Ring) : (s.setRing r g).jrnl = s.jrnl := rfl
@[simp] theorem State.setRing_time (s : State) (r : Nat) (g : Ring) : (s.setRing r g).time = s.time := rfl
@[simp] theorem State.setRing_core (s : State) (r : Nat) (g : Ring) : (s.setRing r g).core = s.core := rfl
@[simp] theorem State.setRing_cfg (s : State) (r : Nat) (g : Ring) : (s.setRing r g).cfg = s.cfg := rfl
@[simp] theorem State.setRing_links (s : State) (r : Nat) (g : Ring) : (s.setRing r g).links = s.links := rfl
@[simp] theorem State.setRing_phys (s : State) (r : Nat) (g : Ring) : (s.setRing r g).phys = s.phys := rfl
@[simp] theorem State.setRing_ports (s : State) (r : Nat) (g : Ring) : (s.setRing r g).ports = s.ports := rfl
@[simp] theorem State.setRing_flt (s : State) (r : Nat) (g : Ring) : (s.setRing r g).flt = s.flt := rfl
@[simp] theorem State.setRing_twin (s : State) (r : Nat) (g : Ring) : (s.setRing r g).twin = s.twin := rfl
@[simp] theorem State.setRing_brg (s : State) (r : Nat) (g : Ring) : (s.setRing r g).brg = s.brg := rfl
@[simp] theorem State.setRing_img (s : State) (r : Nat) (g : Ring) : (s.setRing r g).img = s.img := rfl
@[simp] theorem State.setRing_fuses (s : State) (r : Nat) (g : Ring) : (s.setRing r g).fuses = s.fuses := rfl
@[simp] theorem State.setRing_sched (s : State) (r : Nat) (g : Ring) : (s.setRing r g).sched = s.sched := rfl
@[simp] theorem State.setRing_guard (s : State) (r : Nat) (g : Ring) : (s.setRing r g).guard = s.guard := rfl
@[simp] theorem State.setRing_part (s : State) (r : Nat) (g : Ring) : (s.setRing r g).part = s.part := rfl
@[simp] theorem State.setRing_slots (s : State) (r : Nat) (g : Ring) : (s.setRing r g).slots = s.slots := rfl
@[simp] theorem State.setRing_mdma (s : State) (r : Nat) (g : Ring) : (s.setRing r g).mdma = s.mdma := rfl
@[simp] theorem State.setRing_pwr (s : State) (r : Nat) (g : Ring) : (s.setRing r g).pwr = s.pwr := rfl
@[simp] theorem State.setRing_dbg (s : State) (r : Nat) (g : Ring) : (s.setRing r g).dbg = s.dbg := rfl

@[simp] theorem State.setMemKey_pending (s : State) (i : Nat) (k : Key) : (s.setMemKey i k).pending = s.pending := rfl
@[simp] theorem State.setMemKey_regs (s : State) (i : Nat) (k : Key) : (s.setMemKey i k).regs = s.regs := rfl
@[simp] theorem State.setMemKey_shadow (s : State) (i : Nat) (k : Key) : (s.setMemKey i k).shadow = s.shadow := rfl
@[simp] theorem State.setMemKey_hiLatch (s : State) (i : Nat) (k : Key) : (s.setMemKey i k).hiLatch = s.hiLatch := rfl
@[simp] theorem State.setMemKey_views (s : State) (i : Nat) (k : Key) : (s.setMemKey i k).views = s.views := rfl
@[simp] theorem State.setMemKey_msix (s : State) (i : Nat) (k : Key) : (s.setMemKey i k).msix = s.msix := rfl
@[simp] theorem State.setMemKey_counters (s : State) (i : Nat) (k : Key) : (s.setMemKey i k).counters = s.counters := rfl
@[simp] theorem State.setMemKey_cycle (s : State) (i : Nat) (k : Key) : (s.setMemKey i k).cycle = s.cycle := rfl
@[simp] theorem State.setMemKey_adv (s : State) (i : Nat) (k : Key) : (s.setMemKey i k).adv = s.adv := rfl
@[simp] theorem State.setMemKey_free (s : State) (i : Nat) (k : Key) : (s.setMemKey i k).free = s.free := rfl
@[simp] theorem State.setMemKey_out (s : State) (i : Nat) (k : Key) : (s.setMemKey i k).out = s.out := rfl
@[simp] theorem State.setMemKey_ledger (s : State) (i : Nat) (k : Key) : (s.setMemKey i k).ledger = s.ledger := rfl
@[simp] theorem State.setMemKey_jrnl (s : State) (i : Nat) (k : Key) : (s.setMemKey i k).jrnl = s.jrnl := rfl
@[simp] theorem State.setMemKey_time (s : State) (i : Nat) (k : Key) : (s.setMemKey i k).time = s.time := rfl
@[simp] theorem State.setMemKey_core (s : State) (i : Nat) (k : Key) : (s.setMemKey i k).core = s.core := rfl
@[simp] theorem State.setMemKey_cfg (s : State) (i : Nat) (k : Key) : (s.setMemKey i k).cfg = s.cfg := rfl
@[simp] theorem State.setMemKey_links (s : State) (i : Nat) (k : Key) : (s.setMemKey i k).links = s.links := rfl
@[simp] theorem State.setMemKey_phys (s : State) (i : Nat) (k : Key) : (s.setMemKey i k).phys = s.phys := rfl
@[simp] theorem State.setMemKey_ports (s : State) (i : Nat) (k : Key) : (s.setMemKey i k).ports = s.ports := rfl
@[simp] theorem State.setMemKey_flt (s : State) (i : Nat) (k : Key) : (s.setMemKey i k).flt = s.flt := rfl
@[simp] theorem State.setMemKey_twin (s : State) (i : Nat) (k : Key) : (s.setMemKey i k).twin = s.twin := rfl
@[simp] theorem State.setMemKey_brg (s : State) (i : Nat) (k : Key) : (s.setMemKey i k).brg = s.brg := rfl
@[simp] theorem State.setMemKey_img (s : State) (i : Nat) (k : Key) : (s.setMemKey i k).img = s.img := rfl
@[simp] theorem State.setMemKey_fuses (s : State) (i : Nat) (k : Key) : (s.setMemKey i k).fuses = s.fuses := rfl
@[simp] theorem State.setMemKey_sched (s : State) (i : Nat) (k : Key) : (s.setMemKey i k).sched = s.sched := rfl
@[simp] theorem State.setMemKey_guard (s : State) (i : Nat) (k : Key) : (s.setMemKey i k).guard = s.guard := rfl
@[simp] theorem State.setMemKey_part (s : State) (i : Nat) (k : Key) : (s.setMemKey i k).part = s.part := rfl
@[simp] theorem State.setMemKey_slots (s : State) (i : Nat) (k : Key) : (s.setMemKey i k).slots = s.slots := rfl
@[simp] theorem State.setMemKey_mdma (s : State) (i : Nat) (k : Key) : (s.setMemKey i k).mdma = s.mdma := rfl
@[simp] theorem State.setMemKey_pwr (s : State) (i : Nat) (k : Key) : (s.setMemKey i k).pwr = s.pwr := rfl
@[simp] theorem State.setMemKey_dbg (s : State) (i : Nat) (k : Key) : (s.setMemKey i k).dbg = s.dbg := rfl

@[simp] theorem State.setEng_pending (s : State) (e : Nat) (g : MdmaEng) : (s.setEng e g).pending = s.pending := rfl
@[simp] theorem State.setEng_regs (s : State) (e : Nat) (g : MdmaEng) : (s.setEng e g).regs = s.regs := rfl
@[simp] theorem State.setEng_shadow (s : State) (e : Nat) (g : MdmaEng) : (s.setEng e g).shadow = s.shadow := rfl
@[simp] theorem State.setEng_hiLatch (s : State) (e : Nat) (g : MdmaEng) : (s.setEng e g).hiLatch = s.hiLatch := rfl
@[simp] theorem State.setEng_views (s : State) (e : Nat) (g : MdmaEng) : (s.setEng e g).views = s.views := rfl
@[simp] theorem State.setEng_msix (s : State) (e : Nat) (g : MdmaEng) : (s.setEng e g).msix = s.msix := rfl
@[simp] theorem State.setEng_counters (s : State) (e : Nat) (g : MdmaEng) : (s.setEng e g).counters = s.counters := rfl
@[simp] theorem State.setEng_cycle (s : State) (e : Nat) (g : MdmaEng) : (s.setEng e g).cycle = s.cycle := rfl
@[simp] theorem State.setEng_adv (s : State) (e : Nat) (g : MdmaEng) : (s.setEng e g).adv = s.adv := rfl
@[simp] theorem State.setEng_free (s : State) (e : Nat) (g : MdmaEng) : (s.setEng e g).free = s.free := rfl
@[simp] theorem State.setEng_out (s : State) (e : Nat) (g : MdmaEng) : (s.setEng e g).out = s.out := rfl
@[simp] theorem State.setEng_ledger (s : State) (e : Nat) (g : MdmaEng) : (s.setEng e g).ledger = s.ledger := rfl
@[simp] theorem State.setEng_jrnl (s : State) (e : Nat) (g : MdmaEng) : (s.setEng e g).jrnl = s.jrnl := rfl
@[simp] theorem State.setEng_time (s : State) (e : Nat) (g : MdmaEng) : (s.setEng e g).time = s.time := rfl
@[simp] theorem State.setEng_core (s : State) (e : Nat) (g : MdmaEng) : (s.setEng e g).core = s.core := rfl
@[simp] theorem State.setEng_cfg (s : State) (e : Nat) (g : MdmaEng) : (s.setEng e g).cfg = s.cfg := rfl
@[simp] theorem State.setEng_links (s : State) (e : Nat) (g : MdmaEng) : (s.setEng e g).links = s.links := rfl
@[simp] theorem State.setEng_phys (s : State) (e : Nat) (g : MdmaEng) : (s.setEng e g).phys = s.phys := rfl
@[simp] theorem State.setEng_ports (s : State) (e : Nat) (g : MdmaEng) : (s.setEng e g).ports = s.ports := rfl
@[simp] theorem State.setEng_flt (s : State) (e : Nat) (g : MdmaEng) : (s.setEng e g).flt = s.flt := rfl
@[simp] theorem State.setEng_twin (s : State) (e : Nat) (g : MdmaEng) : (s.setEng e g).twin = s.twin := rfl
@[simp] theorem State.setEng_brg (s : State) (e : Nat) (g : MdmaEng) : (s.setEng e g).brg = s.brg := rfl
@[simp] theorem State.setEng_rma (s : State) (e : Nat) (g : MdmaEng) : (s.setEng e g).rma = s.rma := rfl
@[simp] theorem State.setEng_img (s : State) (e : Nat) (g : MdmaEng) : (s.setEng e g).img = s.img := rfl
@[simp] theorem State.setEng_fuses (s : State) (e : Nat) (g : MdmaEng) : (s.setEng e g).fuses = s.fuses := rfl
@[simp] theorem State.setEng_sched (s : State) (e : Nat) (g : MdmaEng) : (s.setEng e g).sched = s.sched := rfl
@[simp] theorem State.setEng_guard (s : State) (e : Nat) (g : MdmaEng) : (s.setEng e g).guard = s.guard := rfl
@[simp] theorem State.setEng_part (s : State) (e : Nat) (g : MdmaEng) : (s.setEng e g).part = s.part := rfl
@[simp] theorem State.setEng_slots (s : State) (e : Nat) (g : MdmaEng) : (s.setEng e g).slots = s.slots := rfl
@[simp] theorem State.setEng_pwr (s : State) (e : Nat) (g : MdmaEng) : (s.setEng e g).pwr = s.pwr := rfl
@[simp] theorem State.setEng_dbg (s : State) (e : Nat) (g : MdmaEng) : (s.setEng e g).dbg = s.dbg := rfl

@[simp] theorem State.latch_pending (s : State) (p : Path) (o : Nat) (w : Word) : (s.latch p o w).pending = s.pending := rfl
@[simp] theorem State.latch_regs (s : State) (p : Path) (o : Nat) (w : Word) : (s.latch p o w).regs = s.regs := rfl
@[simp] theorem State.latch_shadow (s : State) (p : Path) (o : Nat) (w : Word) : (s.latch p o w).shadow = s.shadow := rfl
@[simp] theorem State.latch_views (s : State) (p : Path) (o : Nat) (w : Word) : (s.latch p o w).views = s.views := rfl
@[simp] theorem State.latch_msix (s : State) (p : Path) (o : Nat) (w : Word) : (s.latch p o w).msix = s.msix := rfl
@[simp] theorem State.latch_counters (s : State) (p : Path) (o : Nat) (w : Word) : (s.latch p o w).counters = s.counters := rfl
@[simp] theorem State.latch_cycle (s : State) (p : Path) (o : Nat) (w : Word) : (s.latch p o w).cycle = s.cycle := rfl
@[simp] theorem State.latch_adv (s : State) (p : Path) (o : Nat) (w : Word) : (s.latch p o w).adv = s.adv := rfl
@[simp] theorem State.latch_free (s : State) (p : Path) (o : Nat) (w : Word) : (s.latch p o w).free = s.free := rfl
@[simp] theorem State.latch_out (s : State) (p : Path) (o : Nat) (w : Word) : (s.latch p o w).out = s.out := rfl
@[simp] theorem State.latch_ledger (s : State) (p : Path) (o : Nat) (w : Word) : (s.latch p o w).ledger = s.ledger := rfl
@[simp] theorem State.latch_jrnl (s : State) (p : Path) (o : Nat) (w : Word) : (s.latch p o w).jrnl = s.jrnl := rfl
@[simp] theorem State.latch_time (s : State) (p : Path) (o : Nat) (w : Word) : (s.latch p o w).time = s.time := rfl
@[simp] theorem State.latch_core (s : State) (p : Path) (o : Nat) (w : Word) : (s.latch p o w).core = s.core := rfl
@[simp] theorem State.latch_cfg (s : State) (p : Path) (o : Nat) (w : Word) : (s.latch p o w).cfg = s.cfg := rfl
@[simp] theorem State.latch_links (s : State) (p : Path) (o : Nat) (w : Word) : (s.latch p o w).links = s.links := rfl
@[simp] theorem State.latch_phys (s : State) (p : Path) (o : Nat) (w : Word) : (s.latch p o w).phys = s.phys := rfl
@[simp] theorem State.latch_ports (s : State) (p : Path) (o : Nat) (w : Word) : (s.latch p o w).ports = s.ports := rfl
@[simp] theorem State.latch_flt (s : State) (p : Path) (o : Nat) (w : Word) : (s.latch p o w).flt = s.flt := rfl
@[simp] theorem State.latch_twin (s : State) (p : Path) (o : Nat) (w : Word) : (s.latch p o w).twin = s.twin := rfl
@[simp] theorem State.latch_brg (s : State) (p : Path) (o : Nat) (w : Word) : (s.latch p o w).brg = s.brg := rfl
@[simp] theorem State.latch_rma (s : State) (p : Path) (o : Nat) (w : Word) : (s.latch p o w).rma = s.rma := rfl
@[simp] theorem State.latch_img (s : State) (p : Path) (o : Nat) (w : Word) : (s.latch p o w).img = s.img := rfl
@[simp] theorem State.latch_fuses (s : State) (p : Path) (o : Nat) (w : Word) : (s.latch p o w).fuses = s.fuses := rfl
@[simp] theorem State.latch_sched (s : State) (p : Path) (o : Nat) (w : Word) : (s.latch p o w).sched = s.sched := rfl
@[simp] theorem State.latch_guard (s : State) (p : Path) (o : Nat) (w : Word) : (s.latch p o w).guard = s.guard := rfl
@[simp] theorem State.latch_part (s : State) (p : Path) (o : Nat) (w : Word) : (s.latch p o w).part = s.part := rfl
@[simp] theorem State.latch_slots (s : State) (p : Path) (o : Nat) (w : Word) : (s.latch p o w).slots = s.slots := rfl
@[simp] theorem State.latch_mdma (s : State) (p : Path) (o : Nat) (w : Word) : (s.latch p o w).mdma = s.mdma := rfl
@[simp] theorem State.latch_pwr (s : State) (p : Path) (o : Nat) (w : Word) : (s.latch p o w).pwr = s.pwr := rfl
@[simp] theorem State.latch_dbg (s : State) (p : Path) (o : Nat) (w : Word) : (s.latch p o w).dbg = s.dbg := rfl

end Sys2Proof.Machine
end

