-- ==== Sys2Proof/Laws/Ops.lean ====
section
/-! SUPPORT. What the shared operations do to the words and fields they touch and to those they do not; what a register write on a path
does; what an event does to its source. -/
namespace Sys2Proof.Machine
open Sys2Proof

/-! ### Words and fields -/

@[simp] theorem State.rd_wr_same (s : State) (o : Nat) (w : Word) : (s.wr o w).rd o = w := by simp [State.rd, State.wr]

theorem State.rd_wr_other (s : State) {o p : Nat} (w : Word) (h : o ≠ p) : (s.wr o w).rd p = s.rd p := by
  simp [State.rd, State.wr, SMap.get_set_other _ _ _ h]

theorem State.rd_congr {s t : State} (h : t.regs = s.regs) (o : Nat) : t.rd o = s.rd o := by simp [State.rd, h]

theorem State.get_congr {s t : State} (h : t.regs = s.regs) (f : RF) : t.get f = s.get f := by simp [State.get, State.rd, h]

theorem State.flag_congr {s t : State} (h : t.regs = s.regs) (f : RF) : t.flag f = s.flag f := by simp [State.flag, State.get_congr h]

/-- A field reads back what was set. -/
theorem State.get_set_same (s : State) (f : RF) (v : Nat) (h : f.lo + f.n ≤ 32) : (s.set f v).get f = v % 2 ^ f.n := by
  simp [State.get, State.set, fieldOf_withField_same _ _ _ _ h]

/-- Setting a field leaves every field of another word. -/
theorem State.get_set_word (s : State) {f g : RF} (v : Nat) (h : f.off ≠ g.off) : (s.set f v).get g = s.get g := by
  simp [State.get, State.set, State.rd_wr_other _ _ h]

/-- Setting a field leaves every field beside it in its word. -/
theorem State.get_set_beside (s : State) {f g : RF} (v : Nat) (hg : g.lo + g.n ≤ 32) (h : g.lo + g.n ≤ f.lo ∨ f.lo + f.n ≤ g.lo) :
    (s.set f v).get g = s.get g := by
  by_cases ho : f.off = g.off
  · simp only [State.get, State.set, ho, State.rd_wr_same]
    exact fieldOf_withField_other _ _ _ _ _ _ hg h
  · exact State.get_set_word s v ho

theorem State.rd_set_other (s : State) {f : RF} {o : Nat} (v : Nat) (h : f.off ≠ o) : (s.set f v).rd o = s.rd o :=
  State.rd_wr_other _ _ h

theorem State.get_lt (s : State) (f : RF) : s.get f < 2 ^ f.n := fieldOf_lt _ _ _

/-! ### Events (R33) -/

/-- An event raised on a source enters that source's queues and no other's. -/
theorem State.srcQ_post_same (s : State) (k : Nat) (e : Ev) : (s.post k e).srcQ k = (s.srcQ k).push e s.time.ft (Src.requestDriven k) := by
  simp [State.srcQ, State.post, State.setSrcQ]

theorem State.srcQ_post_other (s : State) {k j : Nat} (e : Ev) (h : k ≠ j) : (s.post k e).srcQ j = s.srcQ j := by
  simp [State.srcQ, State.post, State.setSrcQ, SMap.get_set_other _ _ _ h]

/-! ### A register write on a path (R33, R79, R476) -/

/-- A write that finds nothing in its way is carried out. -/
theorem State.writing_admitted (s : State) (path : Path) (off : Nat) (val : Word) (f : State → State) (h1 : stalls s = false)
    (h2 : waitsAt s path off = none) (h3 : ¬ (s.pwr.up < 6 ∨ (s.mode = 7 ∧ ¬ (path = .msp ∧ parkedOk off = true)))) (h4 : writeAllowed s path off = true) :
    s.writing path off val f = f s := by
  simp only [State.writing, h1, h2, State.guarded]
  rw [if_neg (by simp), if_neg h3, if_pos h4]

/-- A write its path may not make changes nothing of what it would have written: it is refused by `privRefused` alone. -/
theorem State.writing_refused (s : State) (path : Path) (off : Nat) (val : Word) (f : State → State) (h1 : stalls s = false)
    (h2 : waitsAt s path off = none) (h3 : ¬ (s.pwr.up < 6 ∨ (s.mode = 7 ∧ ¬ (path = .msp ∧ parkedOk off = true)))) (h4 : writeAllowed s path off = false) :
    s.writing path off val f = s.privRefused path off val.toNat := by
  simp only [State.writing, h1, h2, State.guarded]
  rw [if_neg (by simp), if_neg h3, if_neg (by simp [h4])]

end Sys2Proof.Machine
end

