-- ==== Sys2Proof/Tests/Slice0.lean ====
section
/-! SUPPORT. Tests: a term that each check of WellFormed refuses, and, for every clause of every obligation that has hypotheses, a
concrete state and operands that meet all of them together (`witness_<obligation>_<clause>`). No expected value here is a device's
result; the witnesses of the remote-memory clauses use a key of no bytes, so that the kernel has little to compute. -/
set_option Elab.async false
set_option maxRecDepth 100000
namespace Sys2Proof
open Sys2Proof.Machine

/-! ### WellFormed refuses what does not fit its field -/

/-- A read TLP that is well formed. -/
def aTlp : Tlp := { kind := .memRd, lenDw := 1, firstBe := 15 }

theorem test_wf_tlp : (Instr.tlpIngress 0 aTlp).wf = true := by decide
theorem test_wf_refuses_read_with_data : (Instr.tlpIngress 0 { aTlp with data := [0] }).wf = false := by decide
theorem test_wf_refuses_short_write_data : (Instr.tlpIngress 0 { aTlp with kind := .memWr, lenDw := 2, data := [0, 0, 0, 0] }).wf = false := by decide
theorem test_wf_refuses_odd_message_data : (Instr.tlpIngress 0 { aTlp with kind := .msg, data := [0] }).wf = false := by decide
theorem test_wf_refuses_length_zero : (Instr.tlpIngress 0 { aTlp with lenDw := 0 }).wf = false := by decide
theorem test_wf_refuses_address : (Instr.tlpIngress 0 { aTlp with addr := 2 ^ 64 }).wf = false := by decide
theorem test_wf_refuses_byte_enables : (Instr.tlpIngress 0 { aTlp with lastBe := 16 }).wf = false := by decide
theorem test_wf_refuses_rid : (Instr.boundConfigAccess 0 { aTlp with rid := 65536 }).wf = false := by decide
theorem test_wf_refuses_tag : (Instr.inCompletionReceive 0 { aTlp with tag := 16384 }).wf = false := by decide
theorem test_wf_refuses_tc : (Instr.tlpIngress 0 { aTlp with tc := 8 }).wf = false := by decide
theorem test_wf_refuses_config_dword : (Instr.mgmtConfigAccess 0 { aTlp with dword := 1024 }).wf = false := by decide
theorem test_wf_refuses_message_code : (Instr.tlpIngress 0 { aTlp with msgCode := 256 }).wf = false := by decide
theorem test_wf_refuses_pasid : (Instr.tlpIngress 0 { aTlp with pasid := some ⟨2 ^ 20, false, false⟩ }).wf = false := by decide

/-- A TFP packet with the body `b`. -/
def aTfpOf (b : TfpBody) : Tfp := ⟨{ kind := 0x10 }, b⟩

theorem test_wf_tfp : (Instr.brPostedReceive 0 (aTfpOf (.req { op := 0 } [0, 0, 0, 0]))).wf = true := by decide
theorem test_wf_refuses_header : (Instr.twRoleReceive 0 ⟨{ kind := 256 }, .msg []⟩).wf = false := by decide
theorem test_wf_refuses_header_device : (Instr.twRoleReceive 0 ⟨{ kind := 1, dstDev := 2048 }, .msg []⟩).wf = false := by decide
theorem test_wf_refuses_header_port : (Instr.twRoleReceive 0 ⟨{ kind := 1, srcPort := 128 }, .msg []⟩).wf = false := by decide
theorem test_wf_refuses_header_generation : (Instr.twRoleReceive 0 ⟨{ kind := 1, gen := 2 ^ 25 }, .msg []⟩).wf = false := by decide
theorem test_wf_refuses_header_xid : (Instr.twRoleReceive 0 ⟨{ kind := 1, xid := 16384 }, .msg []⟩).wf = false := by decide
theorem test_wf_refuses_request_op : (Instr.brNpReceive 0 (aTfpOf (.req { op := 16 } []))).wf = false := by decide
theorem test_wf_refuses_request_length : (Instr.brNpReceive 0 (aTfpOf (.req { op := 0, lenDw := 1024 } []))).wf = false := by decide
theorem test_wf_refuses_request_address : (Instr.brNpReceive 0 (aTfpOf (.req { op := 0, addr := 2 ^ 64 } []))).wf = false := by decide
theorem test_wf_refuses_request_pasid : (Instr.brNpReceive 0 (aTfpOf (.req { op := 0, pasid := some ⟨2 ^ 20, false, false⟩ } []))).wf = false := by decide
theorem test_wf_refuses_answer : (Instr.brCplReceive 0 (aTfpOf (.ans { status := 8 } []))).wf = false := by decide
theorem test_wf_refuses_notice : (Instr.brRwfReceive 0 (aTfpOf (.notice ⟨2048, 0, 0, 0⟩))).wf = false := by decide
theorem test_wf_refuses_sideband : (Instr.sbPollReceive 0 (aTfpOf (.sideband ⟨0, 65536, 0⟩))).wf = false := by decide
theorem test_wf_refuses_rma_tag : (Instr.rmaPacketReceive 0 (aTfpOf (.rma ⟨0, 0, 0, false, 0, 0⟩ [] []))).wf = false := by decide
theorem test_wf_refuses_rma_psn : (Instr.rmaAckReceive 0 (aTfpOf (.rma ⟨0, 0, 0, false, 2 ^ 24, 0⟩ [] (List.replicate 16 0)))).wf = false := by decide

/-- A sequenced packet with sequence number `q` and `n` flits. -/
def aSequenced (q n : Nat) : LinkPacket := { chan := .req, flits := n, pad := 0, seq := q, np := false, crcOk := true, p := aTfpOf (.msg []) }

theorem test_wf_link_packet : (Instr.linkPacketReceive 0 (aSequenced 65535 1)).wf = true := by decide
theorem test_wf_refuses_sequence : (Instr.linkPacketReceive 0 (aSequenced 65536 1)).wf = false := by decide
theorem test_wf_refuses_no_flits : (Instr.linkPacketReceive 0 (aSequenced 0 0)).wf = false := by decide
theorem test_wf_refuses_linked_packet :
    (Instr.linkPacketReceive 0 { aSequenced 0 1 with p := aTfpOf (.ans { status := 8 } []) }).wf = false := by decide
theorem test_wf_refuses_time_kind : (Instr.syncReceive 0 { kind := 4 }).wf = false := by decide
theorem test_wf_refuses_time_stamp : (Instr.delayRespReceive 0 { kind := 2, tRx := 2 ^ 64 }).wf = false := by decide
theorem test_wf_refuses_train : (Instr.trainReceive 0 { devid := 2048 } true).wf = false := by decide
theorem test_wf_refuses_lane : (Instr.superblockReceive 0 [⟨15, 0, []⟩, ⟨16, 0, []⟩]).wf = false := by decide
theorem test_wf_refuses_phase : (Instr.superblockReceive 0 [⟨15, 64, []⟩]).wf = false := by decide
theorem test_wf_refuses_empty_frame : (Instr.mspWrite []).wf = false ∧ (Instr.mspRead []).wf = false ∧ (Instr.mspStatus []).wf = false := by decide
theorem test_wf_refuses_unaligned :
    (Instr.registerWrite .msp 2 0).wf = false ∧ (Instr.dapBar0Read 1).wf = false ∧ (Instr.dapMemRead 0 3).wf = false ∧
    (Instr.dapMemWrite 0 2 0).wf = false := by decide
theorem test_wf_refuses_fifth_controller : (Instr.pmbusAlertPoll [none, none, none, none, none]).wf = false := by decide
theorem test_wf_reads_word : (Instr.registerWrite .msp 0x10008 0).wf = true := by decide

/-- A device that runs in mode `m`, whose MSP, port 0 and bundle 0 hold every class, with the fields of `l` set. -/
def lab (m : Nat) (l : List (RF × Nat)) : State :=
  l.foldl (fun s e => s.set e.1 e.2)
    (({ State.reset with pwr := { State.reset.pwr with up := 8 }, part := { State.reset.part with privs := [⟨2, 0, 63⟩, ⟨0, 0, 63⟩, ⟨1, 112, 63⟩] } }).set
      GLB.MODE_CURRENT m)

/-- The state with its time block changed. -/
def Machine.State.withTime (s : State) (t : Time) : State := { s with time := t }
/-- An image with the tables `t`. -/
def anImage (t : Tables) : Image := ⟨1, 0, 0, 0, [], List.replicate 48 0, t⟩

/-- The state with an active image whose bundle 0 has role `r` (3 fabric, 4 twin). -/
def Machine.State.bundled (s : State) (r : Nat) : State :=
  { s with img := { s.img with active := some (anImage { lanes := [(0, ⟨112, 0, 5, 0, r, 0, 0, 0xFF, 0, 0xFF⟩)] }) } }

/-- A time-of-day record (R98): header 0x5AA5, type 1, SECONDS 5, flags 1, and its CRC. -/
def aTodRecord : List Byte :=
  let b : List Byte := [0xA5, 0x5A, 1, 0x10, 5, 0, 0, 0, 1, 0, 0, 0, 0, 0]
  b ++ leBytes 2 (crc16 b)

/-- The state with the owners of the OWNER section. -/
def Machine.State.owned (s : State) (l : List OwnerEnt) : State := { s with part := { s.part with owners := l } }

/-- The state with the packets `l` in the core. -/
def Machine.State.holding (s : State) (l : List Pkt) : State := { s with core := { pkts := l, nextId := 10 } }

/-- A posted write of one dword from port 5 to port 95, in its VOQ. -/
def aPkt : Pkt :=
  { id := 0, body := .tlp { kind := .memWr, data := [1, 2, 3, 4] }, dest := 23, egress := 95, tc := 0, kind := 0, ro := false, colour := 0, gens := [],
    sub := none, ingress := 5, cells := 1, place := .voq, origin := .port 5 }

/-- A TFP packet of a kind, to this device. -/
def aTfp (kind : Nat) (b : TfpBody) : Tfp := ⟨{ kind := kind, dstDev := 5, srcDev := 9 }, b⟩

/-- A sent packet that awaits its acknowledgement. -/
def aSent : Sent := { seq := 0, p := aTfp 0x40 (.msg []), chan := .mgt, np := false, flits := 1, out := true }

/-- The state with bundle `b`'s link-layer state beside its registers. -/
def Machine.State.linked (s : State) (b : Nat) (l : Link) : State := { s with links := SMap.set (fun _ => {}) s.links b l }

/-- A training frame (R263) of type 3 with WIDTH 2. -/
def aFrame : List Byte := let l : List Byte := [0xB4, 6, 0, 0, 0x40, 0, 0]; l ++ leBytes 1 (crc8 l)

/-- A device that takes bridged traffic: DevID 5. -/
def bridging (m : Nat) (l : List (RF × Nat)) : State := lab m ([(GLB.DEVID_DEVID, 5), (GLB.DEVID_VALID, 1)] ++ l)

/-- An MSP write frame (R483): address and value 0, with its CRC. -/
def aWriteFrame : List Byte := let l : List Byte := [2, 0, 0, 0, 0, 0, 0, 0]; l ++ leBytes 1 (crc8 l)

/-- An MSP read frame (R483): address 0, with its CRC. -/
def aReadFrame : List Byte := let l : List Byte := [3, 0, 0, 0]; l ++ leBytes 1 (crc8 l) ++ List.replicate 7 0

/-! ### Tables with few entries -/

/-- A word behind the indirect windows that nothing has written reads 0. -/
theorem rd_unlisted (s : State) (p : Nat → Bool) (h : s.regs.all (fun e => !p e.1) = true) {o : Nat} (ho : p o = true) (hi : 2 ^ 24 ≤ o) :
    s.rd o = 0 := by
  have hf : ∀ m : SMap Word, m.all (fun e => !p e.1) = true → SMap.find? m o = none := by
    intro m
    induction m with
    | nil => intro; rfl
    | cons e m ih =>
      intro hm
      simp only [List.all_cons, Bool.and_eq_true] at hm
      have : e.1 ≠ o := by intro c; simp [c, ho] at hm
      simp [SMap.find?, this, ih hm.2]
  have hr : resetWord o = 0 := by
    unfold resetWord
    repeat rw [if_neg (by omega)]
  simp [State.rd, SMap.get, hf _ h, hr]

/-- A table whose entries nothing has written is empty. -/
theorem filter_none {n : Nat} {q : Nat → Bool} (h : ∀ i, i < n → q i = false) : (List.range n).filter q = [] := by
  simp only [List.filter_eq_nil_iff, List.mem_range]
  intro i hi; simp [h i hi]

/-- A table of which only entry 0 has been written holds that entry. -/
theorem filter_first {n : Nat} {q : Nat → Bool} (h0 : q 0 = true) (h : ∀ i, 0 < i → i ≤ n → q i = false) : (List.range (n + 1)).filter q = [0] := by
  rw [List.range_succ_eq_map, List.filter_cons_of_pos h0]
  congr 1
  simp only [List.filter_eq_nil_iff, List.mem_map]
  rintro i ⟨j, hj, rfl⟩
  simp [h (j + 1) (by omega) (by have := List.mem_range.mp hj; omega)]

/-- No word of the range is listed. -/
def clear (s : State) (lo hi : Nat) : Bool := s.regs.all (fun e => !(decide (lo ≤ e.1) && decide (e.1 < hi)))

theorem gf_clear {s : State} {lo hi : Nat} (h : clear s lo hi = true) (f : RF) (h1 : lo ≤ f.off) (h2 : f.off < hi) (h3 : 2 ^ 24 ≤ f.off) :
    gf (liveRd s) f = 0 := by
  have : s.rd f.off = 0 := rd_unlisted s (fun o => decide (lo ≤ o) && decide (o < hi)) h (by simp <;> omega) h3
  show fieldOf (s.rd f.off) f.lo f.n = 0
  rw [this]
  simp [fieldOf]

theorem rdColours_none {s : State} (h : clear s 0x1060000 0x1068000 = true) : rdColours (liveRd s) = [] := by
  unfold rdColours
  rw [filter_none, List.map_nil]
  intro i hi
  rw [gf_clear h _ (by simp [Colour.VALID, Colour.word] <;> omega) (by simp [Colour.VALID, Colour.word] <;> omega) (by simp [Colour.VALID, Colour.word] <;> omega)]
  rfl

theorem rdBinds_none {s : State} (h : clear s 0x1070000 0x1090000 = true) : rdBinds (liveRd s) = [] := by
  unfold rdBinds
  rw [filter_none, List.map_nil]
  intro i hi
  rw [gf_clear h _ (by simp [Bind.VALID, Bind.word] <;> omega) (by simp [Bind.VALID, Bind.word] <;> omega) (by simp [Bind.VALID, Bind.word] <;> omega)]
  rfl

theorem rdWins_none {s : State} (h : clear s 0x10E0000 0x10F0000 = true) : rdWins (liveRd s) = [] := by
  unfold rdWins
  rw [filter_none, List.map_nil]
  intro i hi
  rw [gf_clear h _ (by simp [Win.VALID, Win.word] <;> omega) (by simp [Win.VALID, Win.word] <;> omega) (by simp [Win.VALID, Win.word] <;> omega)]
  rfl

theorem rdSubs_none {s : State} (h : clear s 0x1000000 0x1020000 = true) : rdSubs (liveRd s) = [] := by
  unfold rdSubs
  rw [filter_none, List.map_nil]
  intro i hi
  rw [gf_clear h _ (by simp [Sub.ENABLE, Sub.word] <;> omega) (by simp [Sub.ENABLE, Sub.word] <;> omega) (by simp [Sub.ENABLE, Sub.word] <;> omega)]
  rfl

theorem rdRegions_none {s : State} (h : clear s 0x10A0000 0x10E0000 = true) : rdRegions (liveRd s) = [] := by
  unfold rdRegions
  rw [filter_none, List.map_nil]
  intro i hi
  rw [gf_clear h _ (by simp [Region.VALID, Region.word] <;> omega) (by simp [Region.VALID, Region.word] <;> omega) (by simp [Region.VALID, Region.word] <;> omega)]
  rfl

theorem rdRegions_first {s : State} (h : clear s 0x10A0020 0x10E0000 = true) (h0 : gf (liveRd s) (Region.VALID 0) = 1) :
    rdRegions (liveRd s) = [(0, rdRegion (liveRd s) 0)] := by
  unfold rdRegions
  have : (List.range 8192).filter (fun i => gf (liveRd s) (Region.VALID i) = 1) = [0] :=
    filter_first (n := 8191) (by simp [h0]) (fun i hi hb => by
      rw [gf_clear h _ (by simp [Region.VALID, Region.word] <;> omega) (by simp [Region.VALID, Region.word] <;> omega)
        (by simp [Region.VALID, Region.word] <;> omega)]
      rfl)
  rw [this]
  rfl

/-! Where a table is empty, the functions that search it answer without it. -/

theorem colourOf_plain {s : State} (hc : rdColours (liveRd s) = []) (hb : rdBinds (liveRd s) = []) (n rid : Nat) :
    colourOf s n rid = match portPart s n with | some p => s.get (PART.TABLE_CTRL_COLOUR p) | none => 0 := by
  unfold colourOf
  rw [hc, hb]
  rfl

theorem bundleColour_plain {s : State} (hc : rdColours (liveRd s) = []) (b c : Nat) : bundleColour s b c = c := by
  unfold bundleColour
  rw [hc]
  rfl

theorem hitOf_plain {s : State} (hb : rdBinds (liveRd s) = []) (hw : rdWins (liveRd s) = []) (p n : Nat) (t : Tlp) (h : t.kind = .memWr) :
    hitOf s p n t = match mgmtBar s p t.addr with
      | some _ => .mgmt
      | none => match addrRoute s p n t.addr false with
        | some m => .port m
        | none => .none_ := by
  unfold hitOf bindAt windowAt
  rw [hb, hw]
  simp only [h, reduceCtorEq, or_self, if_false, decide_false, List.find?_nil]
  all_goals
    cases mgmtBar s p t.addr with
    | some _ => rfl
    | none => cases addrRoute s p n t.addr false <;> rfl

theorem hitFor_plain {s : State} (hb : rdBinds (liveRd s) = []) (hw : rdWins (liveRd s) = []) (hm : s.flag CORE.CTRL_MC_EN = false) (n : Nat) (q : Requester)
    (h : q.tlp.kind = .memWr) : hitFor s n q = match mgmtBar s q.part q.tlp.addr with
      | some _ => .mgmt
      | none => match addrRoute s q.part n q.tlp.addr false with
        | some m => .port m
        | none => .none_ := by
  have h1 : multicastAt s q.part n q.tlp.addr = .none_ := by unfold multicastAt; rw [hm]; rfl
  have h2 : byAddress q.tlp = true := by unfold byAddress; rw [h]
  unfold hitFor
  rw [if_neg (fun c => c h2), h1]
  exact hitOf_plain hb hw _ _ _ h

theorem enginePkt_plain {s : State} (hs : rdSubs (liveRd s) = []) (t : Tlp) (n : Nat) (o : Origin) (l : Bool) :
    enginePkt s t n o l = { enginePkt s t n o l with sub := none } := by
  unfold enginePkt matchSub
  rw [hs]
  rfl

theorem cfgHit_below {s : State} (p : Nat) (t : Tlp) (h1 : t.cfgType1 = true)
    (h2 : ¬ ((busRange s (upFn p)).1 = 0 ∨ t.dest / 256 < (busRange s (upFn p)).1 ∨ (busRange s (upFn p)).2 < t.dest / 256))
    (h3 : t.dest / 256 ≠ (busRange s (upFn p)).1)
    (h4 : (vdspsOf s p 1).find? (fun d => belowFn s (33 * p + d) (t.dest / 256)) = none) :
    cfgHit s p t = match bindOfHostRid s p t.dest with
      | some (i, b) => if boundPresent s b then .bound i b else .none_
      | none => if t.dest % 256 = 0 ∧ boundBus s p (t.dest / 256) then .placeholder else .none_ := by
  unfold cfgHit
  simp only [h1, not_true_eq_false, if_false, if_neg h2, if_neg h3, h4] <;> rfl

/-- Only entry 0 of the binding table has been written. -/
theorem rdBinds_first {s : State} (h : clear s 0x1070020 0x1090000 = true) (h0 : gf (liveRd s) (Bind.VALID 0) = 1) :
    rdBinds (liveRd s) = [(0, rdBind (liveRd s) 0)] := by
  unfold rdBinds
  have : (List.range 4096).filter (fun i => gf (liveRd s) (Bind.VALID i) = 1) = [0] :=
    filter_first (n := 4095) (by simp [h0]) (fun i hi hb => by
      rw [gf_clear h _ (by simp [Bind.VALID, Bind.word] <;> omega) (by simp [Bind.VALID, Bind.word] <;> omega)
        (by simp [Bind.VALID, Bind.word] <;> omega)]
      rfl)
  rw [this]
  rfl

/-- The fields of a guard region, entry 0, that grants every right on the low 2^32 bytes in every view. -/
def openRegion : List (RF × Nat) :=
  [(Region.VALID 0, 1), (Region.MATCH 0, 1), (Region.READ 0, 1), (Region.WRITE 0, 1), (Region.ATOMIC 0, 1), (Region.END_HI 0, 1)]

theorem regions_first {s : State} (h : clear s 0x10A0020 0x10E0000 = true) (h0 : gf (liveRd s) (Region.VALID 0) = 1) (hl : s.guard.lost = []) :
    regionsInForce s = [rdRegion (liveRd s) 0] := by
  unfold regionsInForce
  rw [rdRegions_first h h0, hl]
  rfl

theorem regions_none {s : State} (h : clear s 0x10A0000 0x10E0000 = true) : regionsInForce s = [] := by
  unfold regionsInForce
  rw [rdRegions_none h]
  rfl

/-- Two members of partition 0, port 5 downstream and port 95 upstream, under a guard that allows everything. -/
def aSwitch (l : List (RF × Nat)) : State :=
  lab 3 ([(CORE.PORTBUF_SHARE 5, 64), (PORT.CFG_ROLE 5, 0), (PORT.CFG_SHARED 5, 0), (PORT.CFG_PART 5, 0), (PORT.STATUS_LINK_UP 5, 1), (PORT.STATUS_DRAIN_STATE 5, 0),
    (PORT.CFG_ROLE 95, 1), (PORT.CFG_SHARED 95, 0), (PORT.CFG_PART 95, 0), (PORT.STATUS_LINK_UP 95, 1), (PORT.STATUS_DRAIN_STATE 95, 0),
    (PART.TABLE_CTRL_UPSTREAM 0, 95), (PART.TABLE_CTRL_COLOUR 0, 7)] ++ l)

theorem aSwitch_part : (aSwitch openRegion).get (PORT.CFG_PART ((5 : Fin 96) : Nat)) = 0 := by decide +kernel

theorem aSwitch_hit : hitFor (aSwitch openRegion) 5 ⟨0, { kind := .memWr }, .port 5, false⟩ = .port 95 := by
  rw [hitFor_plain (rdBinds_none (by decide +kernel)) (rdWins_none (by decide +kernel)) (by decide +kernel) _ _ rfl]
  decide +kernel

theorem aSwitch_colour : colourOf (aSwitch openRegion) 5 0 = 7 := by
  rw [colourOf_plain (rdColours_none (by decide +kernel)) (rdBinds_none (by decide +kernel))]
  decide +kernel

theorem aSwitch_guard : guardVerdict (aSwitch openRegion) 5 7 .write 0 4 = (.allow false, 0) := by
  unfold guardVerdict
  rw [regions_first (by decide +kernel) (by decide +kernel) rfl]
  decide +kernel

/-- The same switch with no guard region, port 5's refusal record full. -/
def aClosedSwitch : State := aSwitch [(GUARD.UNIT_REC_INFO_VALID 5, 1)]

theorem aClosedSwitch_part : aClosedSwitch.get (PORT.CFG_PART ((5 : Fin 96) : Nat)) = 0 := by decide +kernel

theorem aClosedSwitch_hit : hitFor aClosedSwitch 5 ⟨0, { kind := .memWr }, .port 5, false⟩ ≠ .mgmt := by
  rw [hitFor_plain (rdBinds_none (by decide +kernel)) (rdWins_none (by decide +kernel)) (by decide +kernel) _ _ rfl]
  decide +kernel

theorem aClosedSwitch_guard : guardVerdict aClosedSwitch 5 (colourOf aClosedSwitch 5 0) .write 0 4 = (.refuse 0, 0) := by
  rw [colourOf_plain (rdColours_none (by decide +kernel)) (rdBinds_none (by decide +kernel))]
  unfold guardVerdict
  rw [regions_none (by decide +kernel)]
  decide +kernel

/-- A request that its guard allows without a LOCK pass leaves the state as it is. -/
theorem guardCheck_allowed {s : State} {u c addr len rid : Nat} {need : Need} {np lock : Bool} (h : guardVerdict s u c need addr len = (.allow lock, 0)) :
    s.guardCheck u c need np addr len rid = (some lock, s) := by
  unfold State.guardCheck
  rw [h]
  rfl

/-- A device whose journal drain has one entry to write, to partition 0 through upstream port 95. -/
def aDrain : State := aSwitch ([(JRNL.CTRL_DRAIN_EN, 1), (JRNL.WR_INDEX_V, 1), (JRNL.RING_CFG_SIZE_EXP, 4)] ++ openRegion)

theorem aDrain_guard : guardVerdict aDrain 100 0xFFF .write 0 128 = (.allow false, 0) := by
  unfold guardVerdict
  rw [regions_first (by decide +kernel) (by decide +kernel) rfl]
  decide +kernel

/-- That device with the entry on its way to the ring. -/
def aDrained : State :=
  (aDrain.enter { enginePkt aDrain (memTlp .memWr 0 128 (upRid aDrain 0) 0 false none (delivered aDrain 0)) 95 (.mdmaWrite 8) false with sub := none }).wr
    JRNL.RING_TAIL 1

theorem aDrain_one : aDrain.drainOne (delivered aDrain 0) = (true, aDrained) := by
  unfold State.drainOne
  have h : ∀ t : Tlp, guardVerdict aDrain 100 0xFFF .write 0 128 = (.allow false, 0) → t.kind = .memWr → t.addr = 0 → t.lenDw = 32 →
      aDrain.guardCheck 100 0xFFF (needOf t) false (rangeOf t).1 (rangeOf t).2 t.rid = (some false, aDrain) := by
    intro t hg hk ha hl
    refine guardCheck_allowed ?_
    simp only [needOf, rangeOf, hk, ha, hl]
    exact hg
  simp only [show aDrain.get JRNL.RING_CFG_PART = 0 by decide +kernel, show upstreamOf aDrain 0 = 95 by decide +kernel,
    show (aDrain.rd JRNL.RING_TAIL).toNat = 0 by decide +kernel,
    show aDrain.rd64 JRNL.RING_BASE_LO / 4096 * 4096 + 128 * (0 % drainSize aDrain) = 0 by decide +kernel]
  rw [h _ aDrain_guard rfl rfl rfl]
  dsimp only
  rw [if_neg (by decide +kernel), enginePkt_plain (rdSubs_none (by decide +kernel))]
  rfl

/-- A device that takes bridged traffic, with upstream port 95 and an open guard. -/
def aBridge : State :=
  bridging 3 ([(PORT.CFG_ROLE 95, 1), (PORT.CFG_SHARED 95, 0), (PORT.CFG_PART 95, 0), (PORT.STATUS_LINK_UP 95, 1), (PORT.STATUS_DRAIN_STATE 95, 0)] ++ openRegion)


theorem aBridge_guard (need : Need) (h : need = .read ∨ need = .write) : guardVerdict aBridge 99 7 need 0 4 = (.allow false, 0) := by
  rcases h with rfl | rfl <;>
  · unfold guardVerdict
    rw [regions_first (by decide +kernel) (by decide +kernel) rfl]
    decide +kernel

theorem aBridge_colour : bundleColour aBridge 3 7 = 7 := by
  rw [bundleColour_plain (rdColours_none (by decide +kernel))]


/-- The request of the bridged witnesses reaches port 95 in colour 7. -/
theorem aBridge_issues (k : TlpKind) (h : k = .memRd ∨ k = .memWr) (op kind : Nat) (ho : kindOfOp op = some k) :
    IssuedTo aBridge 3 ⟨{ kind := kind, dstDev := 5, srcDev := 9, dstPort := 95, window := 2046, colour := 7 }, .req { op := op } []⟩ { op := op } [] k 95 false := by
  refine ⟨rfl, ho, by simp, rfl, by decide +kernel, ⟨by decide +kernel, by decide +kernel⟩, ?_⟩
  show guardVerdict aBridge 99 (bundleColour aBridge 3 7) _ _ _ = _
  rw [aBridge_colour]
  rcases h with rfl | rfl
  · exact aBridge_guard .read (.inl rfl)
  · exact aBridge_guard .write (.inr rfl)

/-- A bridged request of a kind and OP, for port 95. -/
def aRequest (kind op : Nat) : Tfp := ⟨{ kind := kind, dstDev := 5, srcDev := 9, dstPort := 95, window := 2046, colour := 7 }, .req { op := op } []⟩

theorem aBridge_arrives (kind op : Nat) : ArrivesHere aBridge aBridge 3 (aRequest kind op) kind :=
  ⟨rfl, rfl, by decide +kernel, by decide +kernel, by decide +kernel, by decide +kernel, by decide +kernel, (by decide +kernel : 5 = ownDev aBridge), by simp [aRequest]⟩

/-- A partition whose bus 2 lies below the vDSP of shared port 5, where one function, not function 0, is bound. -/
def aBound : State :=
  { lab 3 [(PORT.CFG_ROLE 95, 1), (PORT.CFG_PART 95, 0), (PORT.STATUS_LINK_UP 95, 1), (PORT.STATUS_DRAIN_STATE 95, 0), (PORT.STATUS_LINK_UP 5, 1),
      (PORT.STATUS_DRAIN_STATE 5, 0), (PART.VDSP_KIND 0 1, 2), (PART.VDSP_PORTID 0 1, 5), (PART.VDSP_PRESENT 0 1, 1), (Bind.VALID 0, 1), (Bind.PART 0, 0),
      (Bind.TARGET 0, 5), (Bind.HOST_RID 0, 1)] with
    cfg := [(1024 * 1 + 6, 0x020200), (1024 * upFn 0 + 6, 0xFF0100)] }

theorem aBound_binds : rdBinds (liveRd aBound) = [(0, rdBind (liveRd aBound) 0)] := rdBinds_first (by decide +kernel) (by decide +kernel)

theorem aBound_part : aBound.get (PORT.CFG_PART ((95 : Fin 96) : Nat)) = 0 := by decide +kernel

/-- The placeholder function of that bus, and the bound function. -/
theorem aBound_placeholder : cfgHit aBound 0 { kind := .cfgRd, cfgType1 := true, dest := 0x200 } = .placeholder := by
  rw [cfgHit_below _ _ rfl (by decide +kernel) (by decide +kernel) (by decide +kernel)]
  unfold bindOfHostRid boundBus
  rw [aBound_binds]
  decide +kernel

theorem aBound_function {d : Nat} (hd : d = 0 ∨ d = 4) :
    cfgHit aBound 0 { kind := .cfgRd, cfgType1 := true, dest := 0x201, dword := d } = .bound 0 (rdBind (liveRd aBound) 0) := by
  rcases hd with rfl | rfl <;>
  · rw [cfgHit_below _ _ rfl (by decide +kernel) (by decide +kernel) (by decide +kernel)]
    unfold bindOfHostRid
    rw [aBound_binds]
    decide +kernel

/-! ### The checker on a device without tables -/

theorem firstFail_none : ∀ {l : List (Bool × Fail)}, (∀ e ∈ l, e.1 = false) → firstFail l = none
  | [], _ => rfl
  | (b, f) :: l, h => by
    have hb : b = false := h (b, f) (by simp)
    subst hb
    exact firstFail_none (l := l) (fun e he => h e (by simp [he]))

theorem lockBad_live (s : State) : lockBad s (liveRd s) = none := by
  unfold lockBad
  rw [List.find?_eq_none]
  intro i _
  simp
  grind

theorem windowBusy_live (s : State) : windowBusy s (liveRd s) = none := by
  unfold windowBusy
  rw [List.find?_eq_none]
  intro i _
  simp

theorem subBusy_live (s : State) : subBusy s (liveRd s) = none := by
  unfold subBusy
  rw [List.min?_eq_none_iff]
  simp

theorem busyTests_live (s : State) : busyTests s (liveRd s) = none := by
  unfold busyTests
  rw [windowBusy_live, subBusy_live]
  rfl

theorem earlyTests_live (s : State) : earlyTests s (liveRd s) = fun _ => none := by
  funext k
  unfold earlyTests
  rw [lockBad_live, windowBusy_live, subBusy_live]
  simp


/-- The tables of a running device whose register tables nothing has written. -/
def plainTables (s : State) : Tables :=
  let t := imageTables s
  { mode := s.mode, lanes := t.lanes, parts := rdParts (liveRd s), privs := t.privs, colours := [], regions := [], binds := [], windows := [], routes := [],
    prefix_ := some (gf (liveRd s) SCHED.WHEEL_SLOT_EXP, gf (liveRd s) SCHED.SAMPLE_PERIOD_US), subs := [], gates := rdGates (liveRd s),
    slots := t.slots.map (fun e => (e.2.channel, rdSlot (liveRd s) e.2.channel)), owners := numbered s.part.owners }

/-- No route has been written: each resets to no bundle and no transit. -/
theorem rdRoutes_none {s : State} (h : clear s 0x181000 0x183000 = true) : rdRoutes (liveRd s) = [] := by
  unfold rdRoutes
  rw [filter_none, List.map_nil]
  intro d hd
  have hf : ∀ m : SMap Word, m.all (fun e => !(decide (0x181000 ≤ e.1) && decide (e.1 < 0x183000))) = true → SMap.find? m (BRG.ROUTE d) = none := by
    intro m
    induction m with
    | nil => intro; rfl
    | cons e m ih =>
      intro hm
      simp only [List.all_cons, Bool.and_eq_true] at hm
      have : e.1 ≠ BRG.ROUTE d := by
        intro c
        have h1 : 0x181000 ≤ BRG.ROUTE d := by unfold BRG.ROUTE; omega
        have h2 : BRG.ROUTE d < 0x183000 := by unfold BRG.ROUTE; omega
        rw [c] at hm
        simp [h1, h2] at hm
      simp [SMap.find?, this, ih hm.2]
  have hr : s.rd (BRG.ROUTE d) = 0x83F := by
    have : resetWord (BRG.ROUTE d) = 0x83F := by
      unfold resetWord BRG.ROUTE
      repeat rw [if_neg (by omega)]
      rw [if_pos (by omega)]
      repeat rw [if_neg (by omega)]
      rw [if_pos (by omega)]
    show (SMap.find? s.regs (BRG.ROUTE d)).getD (resetWord (BRG.ROUTE d)) = 0x83F
    rw [hf _ h, this]
    rfl
  have g : ∀ lo n, gf (liveRd s) ⟨BRG.ROUTE d, lo, n⟩ = fieldOf 0x83F lo n := by
    intro lo n
    show fieldOf (s.rd (BRG.ROUTE d)) lo n = _
    rw [hr]
  rw [show BRG.ROUTE_PRIMARY d = ⟨BRG.ROUTE d, _, _⟩ from rfl, show BRG.ROUTE_ALTERNATE d = ⟨BRG.ROUTE d, _, _⟩ from rfl,
    show BRG.ROUTE_TRANSIT d = ⟨BRG.ROUTE d, _, _⟩ from rfl, g, g, g]
  decide

/-- No word of the tables behind the indirect windows or of the routes has been written. -/
def untouched (s : State) : Bool :=
  [(0x1000000, 0x1020000), (0x1060000, 0x1068000), (0x1070000, 0x1090000), (0x10A0000, 0x10E0000), (0x10E0000, 0x10F0000), (0x181000, 0x183000)].all
    (fun e => clear s e.1 e.2)

theorem rdTables_plain {s : State} (h : untouched s = true) : rdTables s (liveRd s) = plainTables s := by
  simp only [untouched, List.all_cons, List.all_nil, Bool.and_true, Bool.and_eq_true] at h
  obtain ⟨h1, h2, h3, h4, h5, h6⟩ := h
  unfold rdTables plainTables
  rw [rdSubs_none h1, rdColours_none h2, rdBinds_none h3, rdRegions_none h4, rdWins_none h5, rdRoutes_none h6]

theorem checkState_plain {s : State} (h : rdTables s (liveRd s) = plainTables s)
    (h1 : sectionTests false (plainTables s) (if s.flag GLB.DEVID_VALID then some (ownDev s) else none) (fun _ => none) = none)
    (h2 : registerTests s (plainTables s) (liveRd s) = none) (h3 : crossTests false (plainTables s) = none) : checkState s (liveRd s) = none := by
  unfold checkState
  rw [earlyTests_live, h]
  dsimp only
  rw [h1, h2, h3]
  rfl

theorem genBusy_nothing (s : State) : genBusy s [] = none := rfl

/-- A commit that changes nothing passes where the tables as they are pass. -/
theorem commitCheck_nothing {s : State} {atEpoch : Bool} {epoch : Nat} (h : checkState s (liveRd s) = none)
    (he : (if atEpoch then epochTests s epoch (usFt 50) else none) = none) : commitCheck s [] atEpoch epoch = none := by
  unfold commitCheck
  rw [genBusy_nothing, show appliedRd s [] = liveRd s from rfl, h, he]
  rfl

/-- A device whose clock is locked, before any table is written. -/
def aPlain : State := lab 3 [(TIME.STATUS_STATE, 2)]

theorem aPlain_passes : checkState aPlain (liveRd aPlain) = none :=
  checkState_plain (rdTables_plain (by decide +kernel)) (by decide +kernel) (by decide +kernel) (by decide +kernel)

/-- Devices whose checker has the enable of a bundle, a ring and an engine at the head of its queue. -/
def aBundle : State := { ((lab 3 []).bundled 3).owned [⟨6, 0, 8, 0⟩] with img := { active := some (anImage { lanes := [(0, ⟨112, 0, 5, 0, 3, 0, 0, 0xFF, 0, 0xFF⟩)] }) } }
def aRing : State := lab 3 [(RMA.RING_OWNER_VALID 63, 1)]
def anEngine : State := lab 3 [(MDMA.ENG_OWNER_VALID 7, 1)]

theorem aBundle_passes : checkState aBundle (liveRd aBundle) = none :=
  checkState_plain (rdTables_plain (by decide +kernel)) (by decide +kernel) (by decide +kernel) (by decide +kernel)

theorem aRing_passes : checkState aRing (liveRd aRing) = none :=
  checkState_plain (rdTables_plain (by decide +kernel)) (by decide +kernel) (by decide +kernel) (by decide +kernel)

theorem anEngine_passes : checkState anEngine (liveRd anEngine) = none :=
  checkState_plain (rdTables_plain (by decide +kernel)) (by decide +kernel) (by decide +kernel) (by decide +kernel)

/-! ### A full sync that ends with the same hash -/

theorem shaRound_length (k : ShaKind) {v : List Nat} (h : v.length = 8) (kw : Nat × Nat) : (shaRound k v kw).length = 8 := by
  unfold shaRound
  split
  · rfl
  · exact h

theorem shaRounds_length (k : ShaKind) (l : List (Nat × Nat)) : ∀ {v : List Nat}, v.length = 8 → (l.foldl (shaRound k) v).length = 8 := by
  induction l with
  | nil => exact fun h => h
  | cons a l ih => exact fun h => ih (shaRound_length k h a)

theorem shaBlocks_length (k : ShaKind) (l : List (List Byte)) : ∀ {v : List Nat}, v.length = 8 → (l.foldl (shaBlock k) v).length = 8 := by
  induction l with
  | nil => exact fun h => h
  | cons a l ih =>
    refine fun h => ih ?_
    unfold shaBlock
    rw [List.length_map, List.length_zip, shaRounds_length k _ h, h]
    rfl

theorem leBytes_length (k : Nat) : ∀ v : Nat, (leBytes k v).length = k := by
  induction k with
  | zero => exact fun _ => rfl
  | succ k ih => exact fun v => by rw [leBytes, List.length_cons, ih]

theorem sha256_length (m : List Byte) : (sha256 m).length = 32 := by
  unfold sha256 shaDigest
  rw [List.length_flatMap]
  have h := shaBlocks_length sha256Kind (groups sha256Kind.blk ((shaPad sha256Kind m).length / sha256Kind.blk) (shaPad sha256Kind m)) (v := sha256Iv) rfl
  have e : ∀ l : List Nat, (l.map (fun x => (beBytes (sha256Kind.w / 8) x).length)).sum = 4 * l.length := by
    intro l
    induction l with
    | nil => rfl
    | cons a l ih => rw [List.map_cons, List.sum_cons, ih, List.length_cons]; rw [beBytes, List.length_reverse, leBytes_length]; show 4 + _ = _; omega
  rw [e, h]

/-- A paired device whose full sync is about to end. -/
def aSyncing : State := { (lab 3 [(TWIN.STATUS_PAIR, 3)]).bundled 4 with twin := { enable := true } }

/-- The body of TW_SYNC_DONE that gives the device's own hash. -/
def aDone : List Byte := [0, 0, 0, 0] ++ stateHash (aSyncing.twinEvent .roleMsg [0x67, 0]).takeGens

theorem aDone_seq : (aSyncing.twinEvent .roleMsg [0x67, 0]).takeGens = (aSyncing.twinEvent .roleMsg [0x67, ofLe (aDone.take 4)]).takeGens := by
  rw [show ofLe (aDone.take 4) = 0 from rfl]

theorem aDone_hash : stateHash (aSyncing.twinEvent .roleMsg [0x67, 0]).takeGens = (aDone.drop 4).take 32 := by
  show _ = (stateHash (aSyncing.twinEvent .roleMsg [0x67, 0]).takeGens).take 32
  exact (List.take_of_length_le (Nat.le_of_eq (sha256_length _))).symm

/-- A late answer of each kind reaches the device that waits for none (the three cases of the clause on late answers). -/
theorem witness_ManagementPaths_7_kinds (k : Nat) : MgArrives (lab 3 []) ((lab 3 []).takeRx 3 ⟨{ kind := k, dstDev := 0x7FF }, .msg (List.replicate 16 0)⟩) 3
    ⟨{ kind := k, dstDev := 0x7FF }, .msg (List.replicate 16 0)⟩ k (List.replicate 16 0) :=
  ⟨rfl, rfl, rfl, by decide +kernel, by decide +kernel, by decide +kernel, rfl, by decide +kernel, rfl, by decide +kernel, by decide +kernel⟩

/-! ### Every clause with hypotheses is met -/

theorem witness_IdleStepIsOneCycle_0 : ∃ (s : State),
    s.pending = [] := ⟨State.reset, by decide +kernel⟩

theorem witness_StepKeepsCanonicalStores_0 : ∃ (s : State) (t : State),
    Canonical s ∧ step s = .next t := ⟨State.reset, _, ⟨by decide, by decide, by decide, by decide, by decide⟩, rfl⟩

theorem witness_StepKeepsShape_0 : ∃ (s : State) (t : State),
    Shaped s ∧ step s = .next t := ⟨State.reset, _, ⟨by decide +kernel, by decide +kernel⟩, rfl⟩

theorem witness_StepNeverUndoesFuses_0 : ∃ (s : State) (t : State),
    step s = .next t := ⟨State.reset, _, rfl⟩

theorem witness_RegisterWordsAndFields_1 : ∃ (s : State) (f : RF) (v : Nat),
    f.lo + f.n ≤ 32 := ⟨State.reset, (⟨0, 31, 1⟩), 1, by decide +kernel⟩

theorem witness_RegisterWordsAndFields_2 : ∃ (s : State) (f : RF) (g : RF) (v : Nat),
    g.lo + g.n ≤ 32 ∧ (f.off ≠ g.off ∨ g.lo + g.n ≤ f.lo ∨ f.lo + f.n ≤ g.lo) := ⟨State.reset, (⟨0, 0, 16⟩), (⟨0, 16, 16⟩), 3, by decide +kernel, by decide +kernel⟩

theorem witness_AonTickAdvancesTheCopy_0 : ∃ (s : State),
    2 ≤ s.pwr.up := ⟨{ State.reset with pwr := { up := 2 } }, by decide +kernel⟩

theorem witness_SnapshotPtmPulseAndWakeAlarm_0 : ∃ (s : State) (path : Path),
    reaches s path TIME.CTRL = true := ⟨(lab 3 []), .msp, by decide +kernel⟩

theorem witness_SnapshotPtmPulseAndWakeAlarm_1 : ∃ (s : State) (n : Fin 96),
    s.flag TIME.CTRL_PTM_EN = true ∧ s.get (PORT.CFG_ROLE n) < 2 ∧ linkUp s n = true ∧ s.time.ptm.contains n.val = false := by
  refine ⟨(lab 3 [(TIME.CTRL_PTM_EN, 1), (PORT.CFG_ROLE 95, 0), (PORT.STATUS_LINK_UP 95, 1)]), 95, ?_⟩
  and_intros <;> decide +kernel

theorem witness_SnapshotPtmPulseAndWakeAlarm_2 : ∃ (s : State) (n : Fin 96),
    s.flag TIME.CTRL_PTM_EN = true ∧ s.get (PORT.CFG_ROLE n) < 2 ∧ linkUp s n = true ∧ s.time.ptm.contains n.val = true := by
  refine ⟨(lab 3 [(TIME.CTRL_PTM_EN, 1), (PORT.CFG_ROLE 95, 0), (PORT.STATUS_LINK_UP 95, 1)]).withTime { ptm := [95] }, 95, ?_⟩
  and_intros <;> decide +kernel

theorem witness_SnapshotPtmPulseAndWakeAlarm_3 : ∃ (s : State) (r : Nat),
    s.time.ppsRise = some r ∧ r + usFt 1000 ≤ s.time.ft ∧ 3 ≤ s.time.ft % 2 ^ 32 := ⟨(lab 3 []).withTime { ft := 2 ^ 32 + usFt 1000, ppsRise := some (2 ^ 32) }, (2 ^ 32), by decide +kernel, by decide +kernel, by decide +kernel⟩

theorem witness_SnapshotPtmPulseAndWakeAlarm_4 : ∃ (s : State),
    s.time.ft % 2 ^ 32 < 3 ∧ s.time.ppsRise = none ∧ s.time.lastPps < s.time.ft / 2 ^ 32 ∧ s.time.src.ppsOut = true ∧ s.mode ≠ 0 ∧ s.mode ≠ 7 := by
  refine ⟨(lab 3 []).withTime { ft := 2 ^ 32, src := { ppsOut := true } }, ?_⟩
  and_intros <;> decide +kernel

theorem witness_SnapshotPtmPulseAndWakeAlarm_5 : ∃ (s : State),
    2 ≤ s.pwr.up ∧ s.flag TIME.WAKE_CTRL_ARM = true ∧ s.time.wakeDone = false ∧ s.rd64 TIME.WAKE_AT_LO ≤ wakeFt s ∧ s.mode ≠ 7 ∧ s.get PWR.STATUS_PARK_STEP = 0 := by
  refine ⟨(lab 3 [(TIME.WAKE_CTRL_ARM, 1)]), ?_⟩
  and_intros <;> decide +kernel

theorem witness_TimeSetNeedsSourceTwo_0 : ∃ (s : State) (path : Path),
    reaches s path TIME.CTRL = true ∧ s.time.src.source = 2 := ⟨(lab 3 []), .msp, by decide +kernel, by decide +kernel⟩

theorem witness_TimeSetNeedsSourceTwo_1 : ∃ (s : State) (path : Path),
    reaches s path TIME.CTRL = true ∧ s.time.src.source ≠ 2 := ⟨(lab 3 []).withTime { src := { source := 0 } }, .msp, by decide +kernel, by decide +kernel⟩

theorem witness_AlarmsFireAndObeyTheirOwner_0 : ∃ (s : State) (n : Fin 16),
    alarmDue s n = true ∧ s.flag (TIME.ALARM_CTRL_PERIODIC n) = false := ⟨(lab 3 [(TIME.ALARM_CTRL_ENABLE 15, 1)]), 15, by decide +kernel, by decide +kernel⟩

theorem witness_AlarmsFireAndObeyTheirOwner_1 : ∃ (s : State) (n : Fin 16),
    alarmDue s n = true ∧ s.flag (TIME.ALARM_CTRL_PERIODIC n) = true ∧ s.time.ft + alarmPeriod s n < 2 ^ 64 := ⟨(lab 3 [(TIME.ALARM_CTRL_ENABLE 0, 1), (TIME.ALARM_CTRL_PERIODIC 0, 1)]).withTime { ft := 2 ^ 64 - 4297 }, 0, by decide +kernel, by decide +kernel, by decide +kernel⟩

theorem witness_AlarmsFireAndObeyTheirOwner_2 : ∃ (s : State) (p : Fin 32) (q : Fin 96) (n : Fin 16) (val : Word),
    reaches s (.pcie q p) (TIME.ALARM_CTRL n) = true ∧ alarmOwner s n = some (0xA, p.val) ∧ checkPending s (TIME.ALARM_CTRL n) = false ∧ val.toNat.testBit 0 = true ∧ s.flag (TIME.ALARM_CTRL_ENABLE n) = false := by
  refine ⟨{ lab 3 [] with part := { owners := [⟨2, 15, 0xA, 31⟩] } }, 31, 5, 15, 1, ?_⟩
  and_intros <;> decide +kernel

theorem witness_AlarmsFireAndObeyTheirOwner_3 : ∃ (s : State) (p : Fin 32) (q : Fin 96) (n : Fin 16) (val : Word),
    reaches s (.pcie q p) (TIME.ALARM_CTRL n) = true ∧ alarmOwner s n = some (0xA, p.val) ∧ checkPending s (TIME.ALARM_CTRL n) = false ∧ (val.toNat.testBit 0 = false ∨ s.flag (TIME.ALARM_CTRL_ENABLE n) = true) := by
  refine ⟨{ lab 3 [(TIME.ALARM_CTRL_ENABLE 15, 1)] with part := { owners := [⟨2, 15, 0xA, 31⟩] } }, 31, 5, 15, 1, ?_⟩
  and_intros <;> decide +kernel

theorem witness_AlarmsFireAndObeyTheirOwner_4 : ∃ (s : State) (path : Path) (n : Fin 16) (val : Word),
    s.mode ≠ 7 ∧ alarmOwner s n = none ∧ val.toNat.testBit 0 = true := ⟨(lab 3 []), .msp, 15, 1, by decide +kernel, by decide +kernel, by decide +kernel⟩

theorem witness_PinsOfTheReference_0 : ∃ (s : State) (sec : Nat) (at_ : Nat),
    s.time.src.source = 0 ∧ s.mode ≠ 7 ∧ s.time.edgeSec = some sec ∧ s.time.edgeAt = some at_ ∧ usFt 100 < ((s.adv - at_ : Nat) - (roundDiv (s.adv - at_) (2 ^ 32) * 2 ^ 32 : Nat) : Int).natAbs := by
  refine ⟨{ (lab 3 []).withTime { src := { source := 0 }, edgeSec := some 7, edgeAt := some 0 } with adv := 2 ^ 32 + 2 ^ 31 }, 7, 0, ?_⟩
  and_intros <;> decide +kernel

theorem witness_PinsOfTheReference_1 : ∃ (s : State) (sec : Nat) (at_ : Nat),
    s.time.src.source = 0 ∧ s.mode ≠ 7 ∧ s.time.acq = false ∧ s.time.edgeSec = some sec ∧ s.time.edgeAt = some at_ ∧ 1 ≤ roundDiv (s.adv - at_) (2 ^ 32) ∧ ((s.adv - at_ : Nat) - (roundDiv (s.adv - at_) (2 ^ 32) * 2 ^ 32 : Nat) : Int).natAbs ≤ usFt 100 := by
  refine ⟨{ (lab 3 []).withTime { src := { source := 0 }, edgeSec := some 7, edgeAt := some 0, acq := false } with adv := 2 ^ 32 + usFt 100 }, 7, 0, ?_⟩
  and_intros <;> decide +kernel

theorem witness_PinsOfTheReference_2 : ∃ (s : State) (bytes : List Byte),
    s.time.src.source = 0 ∧ s.mode ≠ 7 ∧ recordValid s bytes = true := ⟨{ (lab 3 []).withTime { src := { source := 0 }, anyEdge := some 0 } with adv := 2 ^ 31 }, aTodRecord, by decide +kernel, by decide +kernel, by decide +kernel⟩

theorem witness_PinsOfTheReference_3 : ∃ (s : State) (bytes : List Byte),
    s.time.src.source = 0 ∧ s.mode ≠ 7 ∧ recordValid s bytes = false ∧ ofLe ((bytes.drop 2).take 1) = 1 := by
  refine ⟨(lab 3 []).withTime { src := { source := 0 } }, (List.replicate 16 1), ?_⟩
  and_intros <;> decide +kernel

theorem witness_PinsOfTheReference_4 : ∃ (s : State) (at_ : Nat),
    s.time.src.source = 0 ∧ s.time.edgeAt = some at_ ∧ at_ + (s.time.missed + 1) * 2 ^ 32 + usFt 100 < s.adv := ⟨{ (lab 3 []).withTime { src := { source := 0 }, edgeAt := some 0 } with adv := 2 ^ 32 + usFt 100 + 1 }, 0, by decide +kernel, by decide +kernel, by decide +kernel⟩

theorem witness_PinsOfTheReference_5 : ∃ (s : State) (r : Nat),
    s.time.src.source = 0 ∧ s.time.acq = false ∧ s.time.recAt = some r ∧ r + 3 * 2 ^ 32 ≤ s.adv := by
  refine ⟨{ (lab 3 []).withTime { src := { source := 0 }, acq := false, recAt := some 0 } with adv := 3 * 2 ^ 32 }, 0, ?_⟩
  and_intros <;> decide +kernel

theorem witness_TimeOverTheFabric_0 : ∃ (s : State) (b : Fin 4),
    ftState s ≠ 0 ∧ s.time.syncAt = none ∧ s.mode ≠ 7 ∧ bundleRole s b [3, 4] = true ∧ upstreamBundle s ≠ some b.val ∧ linkActive s b = true := by
  refine ⟨(lab 3 [(TIME.STATUS_STATE, 2), (FBL.LL_STATUS_STATE 0, 2)]).bundled 3, 0, ?_⟩
  and_intros <;> decide +kernel

theorem witness_TimeOverTheFabric_1 : ∃ (s : State) (b : Fin 4) (f : TimeFlit),
    f.kind = 0 ∧ s.time.src.source = 1 ∧ upstreamBundle s = some b.val := ⟨(lab 3 []).withTime { src := { source := 1, upstream := 4 } }, 3, { kind := 0 }, by decide +kernel, by decide +kernel, by decide +kernel⟩

theorem witness_TimeOverTheFabric_2 : ∃ (s : State) (b : Fin 4) (f : TimeFlit),
    f.kind = 0 ∧ s.time.src.source = 1 ∧ upstreamBundle s ≠ some b.val := ⟨(lab 3 []).withTime { src := { source := 1, upstream := 4 } }, 2, { kind := 0 }, by decide +kernel, by decide +kernel, by decide +kernel⟩

theorem witness_TimeOverTheFabric_3 : ∃ (s : State) (b : Fin 4) (f : TimeFlit),
    f.kind = 1 := ⟨(lab 3 []), 3, { kind := 1 }, by decide +kernel⟩

theorem witness_TimeOverTheFabric_4 : ∃ (s : State) (b : Fin 4) (f : TimeFlit) (tx : Nat) (eb : Nat) (arr : Nat) (t1 : Nat),
    f.kind = 2 ∧ s.time.src.source = 1 ∧ s.time.sync = some (b.val, f.seq, tx, eb, arr) ∧ s.time.reqTx = some t1 := by
  refine ⟨(lab 3 []).withTime { src := { source := 1 }, sync := some (3, 65535, 5, 6, 7), reqTx := some 9 }, 3, { kind := 2, seq := 65535 }, 5, 6, 7, 9, ?_⟩
  and_intros <;> decide +kernel

theorem witness_TimeOverTheFabric_5 : ∃ (s : State),
    s.time.src.source = 1 ∧ upstreamBundle s = none := ⟨(lab 3 []).withTime { src := { source := 1, upstream := 5 } }, by decide +kernel, by decide +kernel⟩

theorem witness_TimeOverTheFabric_6 : ∃ (s : State),
    ftState s = 1 ∧ s.flag TIME.STATUS_HOLD_PHASE = false ∧ usFt 10000000 ≤ heldFt s := ⟨{ lab 3 [(TIME.STATUS_STATE, 1)] with adv := usFt 10000000 }, by decide +kernel, by decide +kernel, by decide +kernel⟩

theorem witness_PortCommands_0 : ∃ (s : State) (path : Path) (n : Fin 96),
    reaches s path (PORT.CTRL n) = true ∧ portPending s n = false ∧ s.flag (PORT.CTRL_ENABLE n) = false ∧ ctrlRefusal s n (strobe s (PORT.CTRL_ENABLE n) 0xC0F) = none := by
  refine ⟨(lab 3 [(PORT.CFG_ROLE 95, 0)]), .msp, 95, ?_⟩
  and_intros <;> decide +kernel

theorem witness_PortCommands_1 : ∃ (s : State) (path : Path) (n : Fin 96),
    reaches s path (PORT.CTRL n) = true ∧ portPending s n = false ∧ s.flag (PORT.CTRL_ENABLE n) = true ∧ s.get (PORT.STATUS_DRAIN_STATE n) = 2 ∧ ctrlRefusal s n (unset s (PORT.CTRL_ENABLE n) 0xC0F) = none := by
  refine ⟨(lab 3 [(PORT.CTRL_ENABLE 0, 1), (PORT.STATUS_DRAIN_STATE 0, 2)]), .msp, 0, ?_⟩
  and_intros <;> decide +kernel

theorem witness_PortCommands_2 : ∃ (s : State) (path : Path) (n : Fin 96),
    reaches s path (PORT.CTRL n) = true ∧ portPending s n = false ∧ s.get (PORT.STATUS_DRAIN_STATE n) = 0 ∧ ctrlRefusal s n (strobe s (PORT.CTRL_DRAIN n) 0xC0F) = none := by
  refine ⟨(lab 3 [(PORT.CFG_ROLE 95, 0), (PORT.CTRL_ENABLE 95, 1), (PORT.STATUS_DRAIN_STATE 95, 0)]), .msp, 95, ?_⟩
  and_intros <;> decide +kernel

theorem witness_PortCommands_3 : ∃ (s : State) (path : Path) (n : Fin 96),
    reaches s path (PORT.CTRL n) = true ∧ portPending s n = false ∧ s.get (PORT.STATUS_DRAIN_STATE n) = 1 ∧ ctrlRefusal s n (strobe s (PORT.CTRL_REOPEN n) 0xC0F) = none := by
  refine ⟨(lab 3 [(PORT.CFG_ROLE 95, 0), (PORT.CTRL_ENABLE 95, 1), (PORT.STATUS_DRAIN_STATE 95, 1)]), .msp, 95, ?_⟩
  and_intros <;> decide +kernel

theorem witness_PortCommands_4 : ∃ (s : State) (path : Path) (n : Fin 96),
    reaches s path (PORT.CTRL n) = true ∧ portPending s n = false ∧ linkUp s n = true ∧ ctrlRefusal s n (strobe s (PORT.CTRL_RETRAIN n) 0xC0F) = none := by
  refine ⟨(lab 3 [(PORT.CFG_ROLE 95, 0), (PORT.CTRL_ENABLE 95, 1), (PORT.STATUS_LINK_UP 95, 1)]), .msp, 95, ?_⟩
  and_intros <;> decide +kernel

theorem witness_PortCommands_5 : ∃ (s : State) (path : Path) (n : Fin 96),
    reaches s path (PORT.CTRL n) = true ∧ portPending s n = false ∧ ctrlRefusal s n (strobe s (PORT.CTRL_SHED n) 0xC0F) = none := ⟨(lab 3 [(PORT.CTRL_ENABLE 0, 1)]), .msp, 0, by decide +kernel, by decide +kernel, by decide +kernel⟩

theorem witness_PortCommands_6 : ∃ (s : State) (path : Path) (n : Fin 96),
    reaches s path (PORT.CTRL n) = true ∧ portPending s n = false ∧ (s.paux n).collector = true ∧ ctrlRefusal s n (strobe s (PORT.CTRL_UNSHED n) 0xC0F) = none := by
  refine ⟨(lab 3 [(PORT.CTRL_ENABLE 0, 1)]).setPaux 0 { collector := true }, .msp, 0, ?_⟩
  and_intros <;> decide +kernel

theorem witness_PortCommands_7 : ∃ (s : State) (path : Path) (n : Fin 96),
    reaches s path (PORT.CTRL n) = true ∧ portPending s n = false ∧ s.get (PORT.CFG_ROLE n) = 0 ∧ ctrlRefusal s n (strobe s (PORT.CTRL_HOT_RESET n) 0xC0F) = none := by
  refine ⟨(lab 3 [(PORT.CFG_ROLE 0, 0), (PORT.CTRL_ENABLE 0, 1)]), .msp, 0, ?_⟩
  and_intros <;> decide +kernel

theorem witness_PortCommands_8 : ∃ (s : State) (path : Path) (n : Fin 96),
    reaches s path (PORT.CTRL n) = true ∧ portPending s n = false ∧ s.flag (PORT.CTRL_PERST_HOLD n) = false ∧ ctrlRefusal s n (strobe s (PORT.CTRL_PERST_HOLD n) 0xC0F) = none := by
  refine ⟨(lab 3 [(PORT.CFG_ROLE 0, 0)]), .msp, 0, ?_⟩
  and_intros <;> decide +kernel

theorem witness_PortCommands_9 : ∃ (s : State) (path : Path) (n : Fin 96),
    reaches s path (PORT.CTRL n) = true ∧ portPending s n = false ∧ s.flag (PORT.CTRL_PERST_HOLD n) = true ∧ ctrlRefusal s n (unset s (PORT.CTRL_PERST_HOLD n) 0xC0F) = none := by
  refine ⟨(lab 3 [(PORT.CFG_ROLE 0, 0), (PORT.CTRL_PERST_HOLD 0, 1)]), .msp, 0, ?_⟩
  and_intros <;> decide +kernel

theorem witness_RefusedPortWriteChangesNothing_0 : ∃ (s : State) (path : Path) (n : Fin 96) (val : Word) (code : Nat) (ty : EvType),
    portPending s n = false ∧ ctrlRefusal s n val = some (code, ty) := ⟨(lab 3 [(PORT.CFG_ROLE 0, 1)]), .msp, 0, 0x200, 0x42, .enableResult, by decide +kernel, by decide +kernel⟩

theorem witness_PortEvents_0 : ∃ (s : State) (n : Fin 96),
    s.mode ≠ 0 ∧ s.mode ≠ 7 ∧ s.get (PORT.CFG_ROLE n) = 0 ∧ s.get (PORT.CFG2_PERST n) ≠ 0xFF ∧ perstWaited s n = true ∧ refclkWaited s (s.get (PORT.CFG_OCTET n)) = true ∧ s.flag (PORT.CTRL_ENABLE n) = true ∧ s.flag (PORT.CTRL_PERST_HOLD n) = false := by
  refine ⟨{ (lab 3 [(PORT.CFG_ROLE 95, 0), (PORT.CFG2_PERST 95, 0), (PORT.CFG_SLOT 95, 0xFF), (LANE.STATUS_REFCLK_OK 0, 1), (PORT.CFG_OCTET 95, 0), (PORT.CTRL_ENABLE 95, 1)]).setPaux 95 { enableAt := some 0 } with adv := usFt 100000, pwr := { up := 8, refclkAt := [(0, some 0)] } }, 95, ?_⟩
  and_intros <;> decide +kernel

theorem witness_PortEvents_2 : ∃ (s : State) (n : Fin 96) (rate : Fin 8) (width : Fin 8) (flit : Bool) (eq : BitVec 16) (pol : BitVec 16) (det : BitVec 16) (rev : Bool),
    linkPermits s n rate width flit = true ∧ rate.val = rateCap s n ∧ width.val = s.get (PORT.CFG_WIDTH n) := ⟨(lab 3 [(PORT.CFG_ROLE 0, 1), (PORT.CTRL_ENABLE 0, 1), (PORT.CFG_RATE 0, 6), (PORT.CFG_WIDTH 0, 4)]), 0, 6, 4, true, 0, 1, 0xFFFF, true, by decide +kernel, by decide +kernel, by decide +kernel⟩

theorem witness_PortEvents_3 : ∃ (s : State) (n : Fin 96) (rate : Fin 8) (width : Fin 8) (flit : Bool) (eq : BitVec 16) (pol : BitVec 16) (det : BitVec 16) (rev : Bool),
    linkPermits s n rate width flit = true ∧ ((eq ≠ 0 ∧ rate.val < rateCap s n) ∨ width.val < s.get (PORT.CFG_WIDTH n)) := ⟨(lab 3 [(PORT.CFG_ROLE 0, 1), (PORT.CTRL_ENABLE 0, 1), (PORT.CFG_RATE 0, 6), (PORT.CFG_WIDTH 0, 4)]), 0, 5, 3, false, 0, 0, 0xFF, false, by decide +kernel, by decide +kernel⟩

theorem witness_PortEvents_4 : ∃ (s : State) (n : Fin 96) (rate : Fin 8) (width : Fin 8) (flit : Bool),
    linkUp s n = true ∧ linkPermits s n rate width flit = true ∧ s.get (PORT.STATUS_FLIT n) = bit flit := ⟨(lab 3 [(PORT.CFG_ROLE 95, 0), (PORT.STATUS_LINK_UP 95, 1), (PORT.CTRL_ENABLE 95, 1), (PORT.CFG_RATE 95, 6), (PORT.CFG_WIDTH 95, 4)]), 95, 1, 0, false, by decide +kernel, by decide +kernel, by decide +kernel⟩

theorem witness_PortEvents_5 : ∃ (s : State) (n : Fin 96) (rate : Fin 8) (width : Fin 8) (flit : Bool),
    linkUp s n = true ∧ s.flag (PORT.STATUS_FLIT n) = true ∧ width.val ≤ s.get (PORT.STATUS_CUR_WIDTH n) := ⟨(lab 3 [(PORT.CFG_ROLE 0, 1), (PORT.STATUS_LINK_UP 0, 1), (PORT.STATUS_FLIT 0, 1), (PORT.STATUS_CUR_WIDTH 0, 4)]), 0, 6, 2, true, by decide +kernel, by decide +kernel, by decide +kernel⟩

theorem witness_PortEvents_6 : ∃ (s : State) (n : Fin 96) (rate : Fin 8) (width : Fin 8) (flit : Bool) (st : Fin 10),
    linkUp s n = true ∧ 3 ≤ st.val ∧ st.val ≤ 5 := ⟨(lab 3 [(PORT.CFG_ROLE 0, 1), (PORT.STATUS_LINK_UP 0, 1)]), 0, 6, 2, true, 5, by decide +kernel, by decide +kernel, by decide +kernel⟩

theorem witness_PortEvents_7 : ∃ (s : State) (n : Fin 96),
    linkUp s n = true ∧ s.get (PORT.CFG_ROLE n) = 0 := ⟨(lab 3 [(PORT.CFG_ROLE 95, 0), (PORT.STATUS_LINK_UP 95, 1)]), 95, by decide +kernel, by decide +kernel⟩

theorem witness_PortEvents_8 : ∃ (s : State) (n : Fin 96),
    linkUp s n = true ∧ s.get (PORT.CFG_ROLE n) ≠ 0 := ⟨(lab 3 [(PORT.CFG_ROLE 0, 1), (PORT.STATUS_LINK_UP 0, 1)]), 0, by decide +kernel, by decide +kernel⟩

theorem witness_PortEvents_9 : ∃ (s : State) (n : Fin 96) (dl : Bool),
    s.get (PORT.CFG_ROLE n) = 1 ∧ s.mode ≠ 7 := ⟨(lab 3 [(PORT.CFG_ROLE 0, 1), (PORT.STATUS_LINK_UP 0, 1)]), 0, true, by decide +kernel, by decide +kernel⟩

theorem witness_PortEvents_10 : ∃ (s : State) (n : Fin 96),
    s.get (PORT.STATUS_DRAIN_STATE n) = 1 ∧ drained s n = true := ⟨(lab 3 [(PORT.STATUS_DRAIN_STATE 95, 1)]), 95, by decide +kernel, by decide +kernel⟩

theorem witness_PortEvents_11 : ∃ (s : State) (n : Fin 96),
    s.get (PORT.STATUS_DRAIN_STATE n) = 1 ∧ s.due (s.paux n).drainDl = true := ⟨{ (lab 3 [(PORT.STATUS_DRAIN_STATE 95, 1)]).setPaux 95 { drainDl := some 5 } with adv := 5 }, 95, by decide +kernel, by decide +kernel⟩

theorem witness_PortEvents_12 : ∃ (s : State) (n : Fin 96),
    s.get (PORT.CFG_ROLE n) = 0 ∧ s.mode ≠ 7 ∧ dpcEnabled s n = true := ⟨{ lab 3 [(PORT.CFG_ROLE 95, 0), (PORT.STATUS_LINK_UP 95, 1)] with cfg := [(1024 * (1056 + 95) + 0xA1, 0x10000)] }, 95, by decide +kernel, by decide +kernel, by decide +kernel⟩

theorem witness_PortEvents_13 : ∃ (s : State) (n : Fin 96),
    s.flag (PORT.STATUS_DPC n) = true := ⟨(lab 3 [(PORT.CFG_ROLE 95, 0), (PORT.STATUS_DPC 95, 1)]), 95, by decide +kernel⟩

theorem witness_SlotCommands_0 : ∃ (s : State) (path : Path) (n : Fin 16),
    reaches s path (SLOT.CTRL n) = true ∧ hasChannel s n = true := ⟨(lab 3 [(SLOT.CFG0_LIMIT 15, 1)]), .msp, 15, by decide +kernel, by decide +kernel⟩

theorem witness_SlotCommands_1 : ∃ (s : State) (path : Path) (n : Fin 16),
    reaches s path (SLOT.CTRL n) = true ∧ hasChannel s n = false := ⟨(lab 3 []), .msp, 15, by decide +kernel, by decide +kernel⟩

theorem witness_SlotCommands_2 : ∃ (s : State) (path : Path) (n : Fin 16),
    reaches s path (SLOT.CTRL n) = true ∧ hasChannel s n = true ∧ 3 ≤ slotState s n ∧ slotState s n ≤ 7 := by
  refine ⟨(lab 3 [(SLOT.CFG0_LIMIT 15, 1), (SLOT.STATUS_STATE 15, 7)]), .msp, 15, ?_⟩
  and_intros <;> decide +kernel

theorem witness_SlotCommands_3 : ∃ (s : State) (path : Path) (n : Fin 16),
    reaches s path (SLOT.CTRL n) = true ∧ hasChannel s n = true := ⟨(lab 3 [(SLOT.CFG0_LIMIT 15, 1), (SLOT.STATUS_FAULTS 15, 3)]), .msp, 15, by decide +kernel, by decide +kernel⟩

theorem witness_SlotCommands_4 : ∃ (s : State) (path : Path) (n : Fin 16),
    reaches s path (SLOT.CTRL n) = true ∧ hasChannel s n = true ∧ slotState s n = 10 ∧ s.get (SLOT.MEAS_VOUT n) < 20 ∧ s.flag (SLOT.STATUS_PRESENT n) = true := by
  refine ⟨(lab 3 [(SLOT.CFG0_LIMIT 15, 1), (SLOT.STATUS_STATE 15, 10), (SLOT.MEAS_VOUT 15, 19), (SLOT.STATUS_PRESENT 15, 1)]), .msp, 15, ?_⟩
  and_intros <;> decide +kernel

theorem witness_SlotCommands_5 : ∃ (s : State) (path : Path) (n : Fin 16),
    reaches s path (SLOT.CTRL n) = true ∧ hasChannel s n = true ∧ slotState s n = 10 ∧ 20 ≤ s.get (SLOT.MEAS_VOUT n) := by
  refine ⟨(lab 3 [(SLOT.CFG0_LIMIT 15, 1), (SLOT.STATUS_STATE 15, 10), (SLOT.MEAS_VOUT 15, 20)]), .msp, 15, ?_⟩
  and_intros <;> decide +kernel

theorem witness_SlotCommands_6 : ∃ (s : State) (n : Fin 96) (c : Nat),
    s.mode ≠ 0 ∧ s.mode ≠ 7 ∧ channelOf s n = some c := ⟨(lab 3 [(SLOT.CFG0_LIMIT 15, 1), (SLOT.CFG2_PORTID 15, 95)]), 95, 15, by decide +kernel, by decide +kernel, by decide +kernel⟩

theorem witness_SlotCommands_7 : ∃ (s : State) (n : Fin 96) (c : Nat),
    s.mode ≠ 0 ∧ s.mode ≠ 7 ∧ channelOf s n = some c := ⟨(lab 3 [(SLOT.CFG0_LIMIT 15, 1), (SLOT.CFG2_PORTID 15, 95), (SLOT.STATUS_STATE 15, 2)]), 95, 15, by decide +kernel, by decide +kernel, by decide +kernel⟩

theorem witness_SlotPresenceRampAndChecks_0 : ∃ (s : State) (n : Fin 16) (present : Bool),
    (s.saux n).raw ≠ present := ⟨(lab 3 []), 15, true, by decide +kernel⟩

theorem witness_SlotPresenceRampAndChecks_1 : ∃ (s : State) (n : Fin 16),
    hasChannel s n = true ∧ s.mode ≠ 7 ∧ s.pwr.dieLost = false ∧ s.flag (SLOT.STATUS_PRESENT n) ≠ (s.saux n).raw ∧ (s.saux n).rawAt + usFt 20000 ≤ s.adv := by
  refine ⟨{ lab 3 [(SLOT.CFG0_LIMIT 15, 1), (SLOT.STATUS_PRESENT 15, 1)] with adv := usFt 20000 }, 15, ?_⟩
  and_intros <;> decide +kernel

theorem witness_SlotPresenceRampAndChecks_2 : ∃ (s : State) (n : Fin 16) (a : Nat),
    slotState s n = 11 ∧ (s.saux n).raw = false ∧ (s.saux n).absentAt = some a ∧ a + usFt 500000 ≤ s.adv := by
  refine ⟨{ (lab 3 [(SLOT.STATUS_STATE 15, 11)]).setSaux 15 { absentAt := some 0 } with adv := usFt 500000 }, 15, 0, ?_⟩
  and_intros <;> decide +kernel

theorem witness_SlotPresenceRampAndChecks_3 : ∃ (s : State) (n : Fin 16),
    s.due (s.saux n).insertDl = true := ⟨{ (lab 3 []).setSaux 15 { insertDl := some 5 } with adv := 5 }, 15, by decide +kernel⟩

theorem witness_SlotPresenceRampAndChecks_4 : ∃ (s : State) (n : Fin 16),
    s.due (s.saux n).offDl = true := ⟨{ (lab 3 []).setSaux 15 { offDl := some 5 } with adv := 5 }, 15, by decide +kernel⟩

theorem witness_SlotPresenceRampAndChecks_5 : ∃ (s : State) (n : Fin 16),
    slotState s n = 4 := ⟨(lab 3 [(SLOT.STATUS_STATE 15, 4)]), 15, by decide +kernel⟩

theorem witness_SlotPresenceRampAndChecks_6 : ∃ (s : State) (n : Fin 16),
    slotState s n = 5 := ⟨(lab 3 [(SLOT.STATUS_STATE 15, 5)]), 15, by decide +kernel⟩

theorem witness_SlotPresenceRampAndChecks_7 : ∃ (s : State) (n : Fin 16),
    slotState s n = 5 ∧ s.due (s.saux n).stuckDl = true := ⟨{ (lab 3 [(SLOT.STATUS_STATE 15, 5)]).setSaux 15 { stuckDl := some 5 } with adv := 5 }, 15, by decide +kernel, by decide +kernel⟩

theorem witness_SlotPresenceRampAndChecks_8 : ∃ (s : State) (n : Fin 16) (mv : Nat),
    s.flag (SLOT.STATUS_CHECKING n) = true ∧ s.due (s.saux n).checkDl = true ∧ slotState s n ≠ 12 ∧ mv ≤ 1000 := by
  refine ⟨{ (lab 3 [(SLOT.STATUS_CHECKING 15, 1)]).setSaux 15 { checkDl := some 5 } with adv := 5 }, 15, 1000, ?_⟩
  and_intros <;> decide +kernel

theorem witness_SlotPresenceRampAndChecks_9 : ∃ (s : State) (n : Fin 16) (mv : Nat),
    s.flag (SLOT.STATUS_CHECKING n) = true ∧ s.due (s.saux n).checkDl = true ∧ slotState s n ≠ 12 ∧ 1000 < mv := by
  refine ⟨{ (lab 3 [(SLOT.STATUS_CHECKING 15, 1)]).setSaux 15 { checkDl := some 5 } with adv := 5 }, 15, 1001, ?_⟩
  and_intros <;> decide +kernel

theorem witness_SlotPresenceRampAndChecks_10 : ∃ (s : State) (n : Fin 16) (a : Nat),
    slotState s n = 6 ∧ s.flag (SLOT.STATUS_IN_LIMIT n) = false ∧ (s.saux n).onAt = some a ∧ a + usFt 60000000 ≤ s.adv := by
  refine ⟨{ (lab 3 [(SLOT.STATUS_STATE 15, 6)]).setSaux 15 { onAt := some 0 } with adv := usFt 60000000 }, 15, 0, ?_⟩
  and_intros <;> decide +kernel

theorem witness_SlotPresenceRampAndChecks_11 : ∃ (s : State) (n : Fin 16) (i : Nat) (level : Bool),
    attnPin s n = some i ∧ hasChannel s n = true ∧ s.flag (SLOT.CFG2_ATTN n) = true ∧ s.get (SLOT.CFG2_PORTID n) < 96 ∧ level = bitOf (s.get PWR.WAKE_CFG_POL) i ∧ s.mode ≠ 7 := by
  refine ⟨{ lab 3 [(SLOT.CFG0_LIMIT 15, 1), (SLOT.CFG2_ATTN 15, 1), (SLOT.CFG2_PORTID 15, 95), (PWR.WAKE_CFG_POL, 8)] with part := { owners := [⟨1, 3, 2, 15⟩] } }, 15, 3, true, ?_⟩
  and_intros <;> decide +kernel

theorem witness_SlotPresenceRampAndChecks_12 : ∃ (s : State) (n : Fin 16) (iout : Nat) (vout : Nat) (vgate : Nat) (vin : Nat),
    s.mode ≠ 7 ∧ s.pwr.dieLost = false := ⟨(lab 3 []), 15, 1, 2, 3, 4, by decide +kernel, by decide +kernel⟩

theorem witness_SlotTripsAndDieLink_0 : ∃ (s : State) (n : Fin 16),
    canTrip s n = true ∧ s.flag (SLOT.STATUS_IN_LIMIT n) = false := ⟨(lab 3 [(SLOT.STATUS_STATE 15, 4)]), 15, by decide +kernel, by decide +kernel⟩

theorem witness_SlotTripsAndDieLink_1 : ∃ (s : State) (n : Fin 16),
    canTrip s n = true ∧ s.flag (SLOT.STATUS_IN_LIMIT n) = true ∧ slotTimer s n ≤ faultCount s n := ⟨(lab 3 [(SLOT.STATUS_STATE 15, 6), (SLOT.STATUS_IN_LIMIT 15, 1)]), 15, by decide +kernel, by decide +kernel, by decide +kernel⟩

theorem witness_SlotTripsAndDieLink_2 : ∃ (s : State) (n : Fin 16),
    canTrip s n = true := ⟨(lab 3 [(SLOT.STATUS_STATE 15, 5)]), 15, by decide +kernel⟩

theorem witness_SlotTripsAndDieLink_3 : ∃ (s : State) (n : Fin 16),
    slotState s n = 4 ∧ s.due (s.saux n).rampDl = true := ⟨{ (lab 3 [(SLOT.STATUS_STATE 15, 4)]).setSaux 15 { rampDl := some 5 } with adv := 5 }, 15, by decide +kernel, by decide +kernel⟩

theorem witness_SlotTripsAndDieLink_4 : ∃ (s : State) (n : Fin 16),
    canTrip s n = true ∧ (∀ m : Fin 16, m ≠ n → canTrip s m = false) := ⟨(lab 3 [(SLOT.STATUS_STATE 15, 4)]), 15, by decide +kernel, by decide +kernel⟩

theorem witness_SlotTripsAndDieLink_5 : ∃ (s : State),
    s.pwr.dieLost = false ∧ s.mode ≠ 7 := ⟨(lab 3 []), by decide +kernel, by decide +kernel⟩

theorem witness_SlotTripsAndDieLink_6 : ∃ (s : State),
    s.pwr.dieLost = true := ⟨{ lab 3 [] with pwr := { up := 8, dieLost := true } }, by decide +kernel⟩

theorem witness_ResetsAndStartUp_1 : ∃ (s : State) (side : Bool),
    s.pwr.up = 1 := ⟨State.reset, true, by decide +kernel⟩

theorem witness_ResetsAndStartUp_2 : ∃ (s : State),
    s.pwr.up = 2 := ⟨{ State.reset with pwr := { up := 2 } }, by decide +kernel⟩

theorem witness_ResetsAndStartUp_3 : ∃ (s : State),
    s.pwr.up = 3 ∧ s.mode ≠ 7 ∧ s.get PWR.STATUS_PARK_STEP = 0 ∧ s.pwr.attempts = 0 := by
  refine ⟨{ State.reset with pwr := { up := 3 } }, ?_⟩
  and_intros <;> decide +kernel

theorem witness_ResetsAndStartUp_4 : ∃ (s : State),
    s.pwr.up = 4 := ⟨{ State.reset with pwr := { up := 4 } }, by decide +kernel⟩

theorem witness_ResetsAndStartUp_5 : ∃ (s : State),
    s.pwr.up = 5 ∧ s.pwr.timedOut = [] ∧ (s.pwr.cold = true ∨ s.pwr.wakeRun = true) := ⟨{ State.reset with pwr := { up := 5 } }, by decide +kernel, by decide +kernel, by decide +kernel⟩

theorem witness_ResetsAndStartUp_6 : ∃ (s : State),
    s.pwr.up = 5 ∧ s.pwr.timedOut = [] ∧ s.pwr.cold = false ∧ s.pwr.wakeRun = false := by
  refine ⟨{ State.reset with pwr := { up := 5, cold := false } }, ?_⟩
  and_intros <;> decide +kernel

theorem witness_ResetsAndStartUp_7 : ∃ (s : State),
    s.mode ≠ 7 ∧ 3 < s.pwr.up := ⟨{ State.reset with pwr := { up := 4 } }, by decide +kernel, by decide +kernel⟩

theorem witness_ResetsAndStartUp_8 : ∃ (s : State) (path : Path),
    reaches s path GLB.RESET = true ∧ hasClass s path 0 = true ∧ hasClass s path 3 = true := ⟨(lab 3 []), .msp, by decide +kernel, by decide +kernel, by decide +kernel⟩

theorem witness_ResetsAndStartUp_9 : ∃ (s : State),
    s.mode ≠ 7 ∧ 4 ≤ s.pwr.up := ⟨{ State.reset with pwr := { up := 4 } }, by decide +kernel, by decide +kernel⟩

theorem witness_SuppliesClocksTemperature_0 : ∃ (s : State) (r : Fin 4),
    coreRuns s = true := ⟨(lab 3 []), 3, by decide +kernel⟩

theorem witness_SuppliesClocksTemperature_2 : ∃ (s : State),
    coreRuns s = true := ⟨(lab 3 []), by decide +kernel⟩

theorem witness_SuppliesClocksTemperature_3 : ∃ (s : State) (refclk : Bool),
    coreRuns s = true := ⟨(lab 3 []), true, by decide +kernel⟩

theorem witness_SuppliesClocksTemperature_4 : ∃ (s : State) (sensor : Fin 8) (level : Fin 3),
    coreRuns s = true := ⟨(lab 3 []), 7, 2, by decide +kernel⟩

theorem witness_PmbusAndAvs_0 : ∃ (s : State) (q : PmReq) (rest : List PmReq) (a : Nat),
    s.pwr.reqs = q :: rest ∧ s.pwr.sentAt = some a ∧ a + usFt 100 ≤ s.adv ∧ q.why = 0 ∧ q.kind = 1 ∧ coreRuns s = true := by
  refine ⟨{ lab 3 [] with pwr := { up := 8, reqs := [⟨3, 1, 0, 0⟩], sentAt := some 0 }, adv := usFt 100 }, (⟨3, 1, 0, 0⟩), [], 0, ?_⟩
  and_intros <;> decide +kernel

theorem witness_PmbusAndAvs_1 : ∃ (s : State) (q : PmReq) (rest : List PmReq) (a : Nat) (w : BitVec 16),
    s.pwr.reqs = q :: rest ∧ s.pwr.sentAt = some a ∧ a + usFt 100 ≤ s.adv ∧ q.why = 0 ∧ q.kind = 1 ∧ q.rail < 4 ∧ pmResult 1 w = true := by
  refine ⟨{ lab 3 [] with pwr := { up := 8, reqs := [⟨3, 1, 0, 0⟩], sentAt := some 0 }, adv := usFt 100 }, (⟨3, 1, 0, 0⟩), [], 0, 0, ?_⟩
  and_intros <;> decide +kernel

theorem witness_PmbusAndAvs_2 : ∃ (s : State) (q : PmReq) (rest : List PmReq) (a : Nat),
    s.pwr.reqs = q :: rest ∧ s.pwr.sentAt = some a ∧ a + usFt 5000 ≤ s.adv ∧ q.why = 0 ∧ q.kind = 1 ∧ q.rail < 4 := by
  refine ⟨{ lab 3 [] with pwr := { up := 8, reqs := [⟨3, 1, 0, 0⟩], sentAt := some 0 }, adv := usFt 5000 }, (⟨3, 1, 0, 0⟩), [], 0, ?_⟩
  and_intros <;> decide +kernel

theorem witness_PmbusAndAvs_3 : ∃ (s : State) (r : Fin 4) (words : List (Option (BitVec 16))) (w : BitVec 16),
    2 ≤ s.pwr.up ∧ s.pwr.alertAt = none ∧ s.flag (PWR.RAIL_CFG_EN r) = true ∧ words[r.val]? = some (some w) := by
  refine ⟨(lab 3 [(PWR.RAIL_CFG_EN 3, 1)]), 3, [none, none, none, some 1], 1, ?_⟩
  and_intros <;> decide +kernel

theorem witness_PmbusAndAvs_4 : ∃ (s : State) (path : Path) (r : Fin 4),
    reaches s path (PWR.RAIL_STATUS r) = true ∧ clearPending s r = false ∧ s.flag (PWR.RAIL_CFG_EN r) = true := ⟨(lab 3 [(PWR.RAIL_CFG_EN 3, 1)]), .msp, 3, by decide +kernel, by decide +kernel, by decide +kernel⟩

theorem witness_PmbusAndAvs_5 : ∃ (s : State) (path : Path) (r : Fin 4),
    reaches s path (PWR.RAIL_STATUS r) = true ∧ clearPending s r = false ∧ s.flag (PWR.RAIL_CFG_EN r) = false := ⟨(lab 3 [(PWR.RAIL_CFG_EN 3, 0)]), .msp, 3, by decide +kernel, by decide +kernel, by decide +kernel⟩

theorem witness_PmbusAndAvs_6 : ∃ (s : State) (m : Int),
    coreRuns s = true ∧ s.flag PWR.CTRL_AVS_EN = true ∧ s.get PWR.STATUS_AVS_STATE = 1 ∧ avsOk s = true ∧ s.pwr.avsAt = none ∧ 0 < m ∧ s.get PWR.AVS_CFG_MIN_MV + 5 ≤ s.get PWR.AVS_STATUS_MV := by
  refine ⟨(lab 3 [(PWR.RAIL_CFG_EN 0, 1), (PWR.AVS_CFG_MIN_MV, 650), (PWR.AVS_CFG_MAX_MV, 850), (PWR.CTRL_AVS_EN, 1), (PWR.STATUS_AVS_STATE, 1), (PWR.AVS_STATUS_MV, 655)]), 1, ?_⟩
  and_intros <;> decide +kernel

theorem witness_PmbusAndAvs_7 : ∃ (s : State) (path : Path),
    reaches s path PWR.CTRL = true ∧ hasClass s path 0 = true ∧ s.mode ≠ 7 ∧ avsOk s = true ∧ s.flag PWR.CTRL_AVS_EN = false := by
  refine ⟨(lab 3 [(PWR.RAIL_CFG_EN 0, 1), (PWR.AVS_CFG_MIN_MV, 650), (PWR.AVS_CFG_MAX_MV, 850)]), .msp, ?_⟩
  and_intros <;> decide +kernel

theorem witness_PmbusAndAvs_8 : ∃ (s : State) (path : Path),
    reaches s path PWR.CTRL = true ∧ hasClass s path 0 = true ∧ s.mode ≠ 7 ∧ s.flag PWR.CTRL_AVS_EN = true ∧ s.flag (PWR.RAIL_CFG_EN 0) = true := by
  refine ⟨(lab 3 [(PWR.RAIL_CFG_EN 0, 1), (PWR.CTRL_AVS_EN, 1)]), .msp, ?_⟩
  and_intros <;> decide +kernel

theorem witness_ParkAndWake_0 : ∃ (s : State) (path : Path),
    reaches s path PWR.CTRL = true ∧ s.mode ≠ 7 ∧ parkRefusal s path = none := ⟨(lab 3 [(PWR.WAKE_CFG_EN, 8)]), .msp, by decide +kernel, by decide +kernel, by decide +kernel⟩

theorem witness_ParkAndWake_1 : ∃ (s : State) (path : Path) (c : Nat),
    reaches s path PWR.CTRL = true ∧ s.mode ≠ 7 ∧ parkRefusal s path = some c := ⟨(lab 3 []), .msp, 0xC0, by decide +kernel, by decide +kernel, by decide +kernel⟩

theorem witness_ParkAndWake_2 : ∃ (s : State),
    s.get PWR.STATUS_PARK_STEP = 1 := ⟨(lab 3 [(PWR.STATUS_PARK_STEP, 1)]), by decide +kernel⟩

theorem witness_ParkAndWake_3 : ∃ (s : State),
    s.get PWR.STATUS_PARK_STEP = 2 ∧ journalDrained s = true := ⟨(lab 3 [(PWR.STATUS_PARK_STEP, 2)]), by decide +kernel, by decide +kernel⟩

theorem witness_ParkAndWake_4 : ∃ (s : State),
    s.get PWR.STATUS_PARK_STEP = 3 ∧ draining s = false := ⟨(lab 3 [(PWR.STATUS_PARK_STEP, 3)]), by decide +kernel, by decide +kernel⟩

theorem witness_ParkAndWake_5 : ∃ (s : State),
    s.get PWR.STATUS_PARK_STEP = 5 ∧ s.due s.pwr.parkDl = true := ⟨{ lab 3 [(PWR.STATUS_PARK_STEP, 5)] with pwr := { up := 8, parkDl := some 5 }, adv := 5 }, by decide +kernel, by decide +kernel⟩

theorem witness_ParkAndWake_6 : ∃ (s : State),
    s.get PWR.STATUS_PARK_STEP = 6 ∧ s.pwr.reqs = [] ∧ s.pwr.wakeReq = false := ⟨(lab 3 [(PWR.STATUS_PARK_STEP, 6)]), by decide +kernel, by decide +kernel, by decide +kernel⟩

theorem witness_ParkAndWake_7 : ∃ (s : State) (i : Fin 4),
    2 ≤ s.pwr.up ∧ bitOf (s.get PWR.WAKE_CFG_EN) i = false := ⟨(lab 3 []), 3, by decide +kernel, by decide +kernel⟩

theorem witness_ParkAndWake_8 : ∃ (s : State) (i : Fin 4),
    2 ≤ s.pwr.up ∧ bitOf (s.get PWR.WAKE_CFG_EN) i = true ∧ s.mode = 7 ∧ waking s = false ∧ parkRails s [3, 0, 1, 2] = [] := by
  refine ⟨(lab 7 [(PWR.WAKE_CFG_EN, 8)]), 3, ?_⟩
  and_intros <;> decide +kernel

theorem witness_ParkAndWake_9 : ∃ (s : State),
    s.mode = 7 ∧ waking s = false ∧ parkRails s [3, 0, 1, 2] = [] := ⟨(lab 7 []), by decide +kernel, by decide +kernel, by decide +kernel⟩

theorem witness_ParkAndWake_10 : ∃ (s : State),
    s.mode = 7 ∧ waking s = false ∧ parkRails s [3, 0, 1, 2] = [] := ⟨(lab 7 []), by decide +kernel, by decide +kernel, by decide +kernel⟩

theorem witness_ParkAndWake_11 : ∃ (s : State),
    s.due s.pwr.retryDl = true ∧ parkRails s [3, 0, 1, 2] ≠ [] := ⟨{ lab 7 [(PWR.RAIL_CFG_PARK_OFF 2, 1)] with pwr := { up := 8, retryDl := some 5 }, adv := 5 }, by decide +kernel, by decide +kernel⟩

theorem witness_FusesUnlockAndTap_0 : ∃ (s : State) (path : Path),
    reaches s path PWR.FUSE_CMD = true ∧ fusePermitted s 1 (s.get PWR.FUSE_CMD_SLOT) = true := ⟨(lab 3 []), (.pcie 0 0), by decide +kernel, by decide +kernel⟩

theorem witness_FusesUnlockAndTap_1 : ∃ (s : State) (path : Path),
    reaches s path PWR.FUSE_CMD = true ∧ fusePermitted s 1 (s.get PWR.FUSE_CMD_SLOT) = false := ⟨{ lab 3 [] with fuses := { keys := [(0, some [])] } }, (.pcie 0 0), by decide +kernel, by decide +kernel⟩

theorem witness_FusesUnlockAndTap_2 : ∃ (s : State) (path : Path),
    reaches s path PWR.FUSE_CMD = true ∧ fusePermitted s 2 (s.get PWR.FUSE_CMD_SLOT) = true := ⟨{ lab 3 [] with fuses := { keys := [(1, some [])] } }, (.pcie 0 0), by decide +kernel, by decide +kernel⟩

theorem witness_FusesUnlockAndTap_3 : ∃ (s : State) (path : Path),
    reaches s path PWR.FUSE_CMD = true ∧ fusePermitted s 3 (s.get PWR.FUSE_CMD_SLOT) = true := ⟨{ lab 3 [] with fuses := { prod := true } }, (.pcie 0 0), by decide +kernel, by decide +kernel⟩

theorem witness_FusesUnlockAndTap_4 : ∃ (s : State) (a : Nat),
    s.img.fuseOp = some (2, a) := ⟨{ lab 3 [] with img := { fuseOp := some (2, 0) } }, 0, by decide +kernel⟩

theorem witness_FusesUnlockAndTap_5 : ∃ (s : State) (a : Nat),
    s.img.fuseOp = some (3, a) := ⟨{ lab 3 [] with img := { fuseOp := some (3, 0) } }, 0, by decide +kernel⟩

theorem witness_FusesUnlockAndTap_6 : ∃ (s : State) (a : Nat),
    s.img.fuseOp = some (4, a) := ⟨{ lab 3 [] with img := { fuseOp := some (4, 1) } }, 1, by decide +kernel⟩

theorem witness_FusesUnlockAndTap_7 : ∃ (s : State) (a : Nat),
    s.img.fuseOp = some (5, a) := ⟨{ lab 3 [] with img := { fuseOp := some (5, 1) } }, 1, by decide +kernel⟩

theorem witness_FusesUnlockAndTap_8 : ∃ (s : State) (k : Nat) (a : Nat),
    s.img.fuseOp = some (k, a) ∧ coreRuns s = true := ⟨{ lab 3 [] with img := { fuseOp := some (5, 1) } }, 5, 1, by decide +kernel, by decide +kernel⟩

theorem witness_FusesUnlockAndTap_9 : ∃ (s : State),
    lifecycle s = 2 ∧ coreRuns s = true := ⟨{ lab 3 [] with fuses := { prod := true, ret := true } }, by decide +kernel, by decide +kernel⟩

theorem witness_FusesUnlockAndTap_10 : ∃ (s : State) (bytes : List Byte),
    lifecycle s = 2 ∧ coreRuns s = true ∧ 3 ≤ s.dbg.fails := ⟨{ lab 3 [] with fuses := { prod := true, ret := true }, dbg := { fails := 3 } }, [], by decide +kernel, by decide +kernel, by decide +kernel⟩

theorem witness_FusesUnlockAndTap_11 : ∃ (s : State) (bytes : List Byte),
    lifecycle s = 2 ∧ coreRuns s = true ∧ s.dbg.fails < 3 ∧ s.dbg.nonce = none := by
  refine ⟨{ lab 3 [] with fuses := { prod := true, ret := true }, dbg := { fails := 2 } }, [], ?_⟩
  and_intros <;> decide +kernel

theorem witness_FusesUnlockAndTap_16 : ∃ (s : State),
    s.dbg.extest = true ∧ 4 ≤ s.pwr.up ∧ s.mode ≠ 7 := ⟨{ lab 3 [] with dbg := { extest := true } }, by decide +kernel, by decide +kernel, by decide +kernel⟩

theorem witness_FlashAndEmptyLoader_0 : ∃ (s : State) (path : Path) (o : Fin 32768) (val : Word),
    reaches s path (0x60000 + 4 * o) = true ∧ s.img.flashOp = none ∧ s.img.page = none ∧ flashProtected s (windowAddr s o) = false := by
  refine ⟨(lab 0 [(IMG.FLASH_CTRL_BASE, 96)]), (.pcie 0 0), 32767, 5, ?_⟩
  and_intros <;> decide +kernel

theorem witness_FlashAndEmptyLoader_1 : ∃ (s : State) (path : Path) (o : Fin 32768) (val : Word) (b : Nat) (m : SMap Byte),
    reaches s path (0x60000 + 4 * o) = true ∧ s.img.flashOp = none ∧ s.img.page = some (b, m) ∧ b ≠ windowAddr s o / 256 * 256 ∧ flashProtected s (windowAddr s o) = false := by
  refine ⟨{ lab 0 [(IMG.FLASH_CTRL_BASE, 96)] with img := { page := some (0, [(0, 5)]) } }, (.pcie 0 0), 32767, 5, 0, [(0, 5)], ?_⟩
  and_intros <;> decide +kernel

theorem witness_FlashAndEmptyLoader_2 : ∃ (s : State) (path : Path) (o : Fin 32768) (val : Word),
    reaches s path (0x60000 + 4 * o) = true ∧ flashProtected s (windowAddr s o) = true := ⟨(lab 0 [(IMG.FLASH_CTRL_BASE, 0)]), (.pcie 0 0), 0, 5, by decide +kernel, by decide +kernel⟩

theorem witness_FlashAndEmptyLoader_3 : ∃ (s : State) (path : Path),
    reaches s path IMG.FLASH_CTRL = true ∧ s.img.flashOp = none ∧ s.img.flashWait = [] ∧ s.img.page = none ∧ flashProtected s (windowAddr s 0 + 0x10000 * s.get IMG.FLASH_CTRL_ERASE_HALF) = false := by
  refine ⟨(lab 3 [(IMG.FLASH_CTRL_BASE, 96), (IMG.FLASH_CTRL_ERASE_HALF, 1)]), (.pcie 0 0), ?_⟩
  and_intros <;> decide +kernel

theorem witness_FlashAndEmptyLoader_4 : ∃ (s : State) (a : Nat) (k : Nat),
    s.img.flashOp = some (.erase a) ∧ s.img.flashWait = [] ∧ k < 0x10000 := ⟨{ lab 3 [] with img := { flashOp := some (.erase 0) } }, 0, 0xFFFF, by decide +kernel, by decide +kernel, by decide +kernel⟩

theorem witness_FlashAndEmptyLoader_5 : ∃ (s : State),
    s.pwr.up = 6 ∧ candidates s = [] := ⟨{ State.reset with pwr := { up := 6, wakeRun := true } }, by decide +kernel, by decide +kernel⟩

theorem witness_FlashAndEmptyLoader_6 : ∃ (s : State) (k : Nat) (ks : List Nat),
    s.pwr.up = 6 ∧ candidates s = k :: ks := ⟨{ State.reset with pwr := { up := 6 } }, 0, [1, 2], by decide +kernel, by decide +kernel⟩

theorem witness_ImageCommands_0 : ∃ (s : State) (path : Path),
    reaches s path IMG.CTRL = true ∧ s.get IMG.STATUS_STAGE_STATE = 0 := ⟨(lab 3 []), (.pcie 0 0), by decide +kernel, by decide +kernel⟩

theorem witness_ImageCommands_1 : ∃ (s : State),
    s.get IMG.STATUS_STAGE_STATE = 1 ∧ s.img.flashOp = none := ⟨{ lab 3 [(IMG.STATUS_STAGE_STATE, 1), (IMG.STATUS_ACTIVE_SLOT, 0)] with img := { flash := [(0xC00010, 0), (0xC00011, 0), (0xC00012, 0), (0xC00013, 0)] } }, by decide +kernel, by decide +kernel⟩

theorem witness_ImageCommands_2 : ∃ (s : State) (path : Path) (i : Image) (cls : Nat) (ports : List Nat),
    reaches s path IMG.CTRL = true ∧ s.img.staged = some (i, cls, ports) ∧ s.get IMG.STATUS_STAGE_STATE = 2 ∧ switchRefusal s i cls ports = none := by
  refine ⟨{ lab 3 [(IMG.STATUS_STAGE_STATE, 2), (TIME.STATUS_STATE, 2), (⟨IMG.SWITCH_EPOCH_LO, 0, 32⟩, 0xFFFFFFFF)] with img := { staged := some (anImage {}, 2, []) } }, (.pcie 0 0), (anImage {}), 2, [], ?_⟩
  and_intros <;> decide +kernel

theorem witness_ImageCommands_3 : ∃ (s : State) (path : Path),
    reaches s path IMG.CTRL = true ∧ s.get IMG.STATUS_STAGE_STATE = 4 := ⟨(lab 3 [(IMG.STATUS_STAGE_STATE, 4)]), (.pcie 0 0), by decide +kernel, by decide +kernel⟩

theorem witness_ImageCommands_4 : ∃ (s : State) (path : Path) (i : Image),
    reaches s path IMG.CTRL = true ∧ s.img.active = some i ∧ s.fuses.arv < i.arv ∧ s.img.fuseOp = none := by
  refine ⟨{ lab 3 [] with img := { active := some ⟨1, 1, 0, 0, [], [], {}⟩ } }, (.pcie 0 0), (⟨1, 1, 0, 0, [], [], {}⟩), ?_⟩
  and_intros <;> decide +kernel

theorem witness_ImageCommands_5 : ∃ (s : State) (path : Path) (k : Nat),
    reaches s path IMG.CTRL = true ∧ revokeTarget s = some k := ⟨{ lab 3 [(IMG.STATUS_ACTIVE_SLOT, 1)] with img := { active := some (anImage {}) } }, (.pcie 0 0), 1, by decide +kernel, by decide +kernel⟩

theorem witness_ImageCommands_6 : ∃ (s : State) (path : Path),
    reaches s path IMG.CTRL = true := ⟨(lab 3 [(IMG.CTRL_BOOTPTR_SLOT, 1)]), (.pcie 0 0), by decide +kernel⟩

theorem witness_ImageCommands_7 : ∃ (s : State) (n : Fin 96) (a : Nat) (e : Nat),
    s.img.switchAt = some e ∧ (s.paux n).drainAt = some a ∧ a ≤ s.time.ft ∧ s.flag (PORT.CTRL_ENABLE n) = true ∧ s.get (PORT.STATUS_DRAIN_STATE n) = 0 ∧ s.flag (PORT.STATUS_SHED n) = false := by
  refine ⟨{ (lab 3 [(PORT.CTRL_ENABLE 95, 1), (PORT.STATUS_DRAIN_STATE 95, 0)]).setPaux 95 { drainAt := some 5 } with img := { switchAt := some 9 }, time := { ft := 5 } }, 95, 5, 9, ?_⟩
  and_intros <;> decide +kernel

theorem witness_ImageCommands_8 : ∃ (s : State) (i : Image) (e : Nat) (ports : List Nat),
    s.img.switchAt = some e ∧ s.img.staged = some (i, 2, ports) ∧ e ≤ s.time.ft ∧ s.img.switchAfter = none ∧ s.img.commit = none := by
  refine ⟨{ lab 3 [] with img := { switchAt := some 9, staged := some (anImage {}, 2, [95]) }, time := { ft := 9 } }, (anImage {}), 9, [95], ?_⟩
  and_intros <;> decide +kernel

theorem witness_ModeRequests_0 : ∃ (s : State) (path : Path) (m : Fin 8) (c : Nat),
    6 ≤ s.pwr.up ∧ s.mode ≠ 7 ∧ modeRefusal s path m = some c := ⟨(lab 3 []), .msp, 7, 0xC0, by decide +kernel, by decide +kernel, by decide +kernel⟩

theorem witness_ModeRequests_1 : ∃ (s : State) (path : Path),
    6 ≤ s.pwr.up ∧ s.mode ≠ 7 ∧ modeRefusal s path 7 = none := ⟨(lab 3 [(PWR.WAKE_CFG_EN, 8)]), .msp, by decide +kernel, by decide +kernel, by decide +kernel⟩

theorem witness_UnlistedOffsetsReadZero_0 : ∃ (s : State) (path : Path) (off : BitVec 24) (val : Word),
    occupied off.toNat = false := ⟨(lab 3 []), .msp, 0xFFFFFC, 5, by decide +kernel⟩

theorem witness_RegisterReads_0 : ∃ (s : State) (path : Path) (off : BitVec 24) (r : RegDef) (q : RegDef) (k : List Nat) (j : List Nat),
    waitingAt s path = none ∧ answers s path off.toNat = true ∧ canRead s path off.toNat = true ∧ occupied off.toNat = true ∧ pmcAt off.toNat = none ∧ windowWord s path off.toNat = none ∧ regAt off.toNat = some (r, k) ∧ r.half = .lo ∧ inArray off.toNat (BRG.FENCE 0) 0x10 4 2048 = none ∧ pmcAt (off.toNat + 4) = none ∧ msixWindow (off.toNat + 4) = false ∧ jrnlWindow (off.toNat + 4) = false ∧ (off.toNat + 4 < 0x60000 ∨ 0x80000 ≤ off.toNat + 4) ∧ regAt (off.toNat + 4) = some (q, j) ∧ q.half = .hi := by
  refine ⟨(lab 3 []), .msp, (BitVec.ofNat 24 TIME.FT_LO), ((regAt TIME.FT_LO).get (by decide +kernel)).1, ((regAt (TIME.FT_LO + 4)).get (by decide +kernel)).1, ((regAt TIME.FT_LO).get (by decide +kernel)).2, ((regAt (TIME.FT_LO + 4)).get (by decide +kernel)).2, ?_⟩
  and_intros <;> decide +kernel

theorem witness_RegisterReads_1 : ∃ (s : State) (path : Path) (off : BitVec 24) (r : RegDef) (k : List Nat),
    waitingAt s path = none ∧ answers s path off.toNat = true ∧ canRead s path off.toNat = true ∧ occupied off.toNat = true ∧ pmcAt off.toNat = none ∧ windowWord s path off.toNat = none ∧ regAt off.toNat = some (r, k) ∧ r.half = .whole ∧ inArray off.toNat (BRG.FENCE 0) 0x10 4 2048 = none ∧ realOff s off.toNat = some off.toNat := by
  refine ⟨(lab 3 []), .msp, (BitVec.ofNat 24 TIME.CTRL), ((regAt TIME.CTRL).get (by decide +kernel)).1, ((regAt TIME.CTRL).get (by decide +kernel)).2, ?_⟩
  and_intros <;> decide +kernel

theorem witness_RegisterReads_2 : ∃ (s : State) (path : Path) (off : BitVec 24),
    waitingAt s path = none ∧ answers s path off.toNat = true ∧ canRead s path off.toNat = false ∧ occupied off.toNat = true := by
  refine ⟨(lab 3 []), (.pcie 5 0), (BitVec.ofNat 24 PWR.CTRL), ?_⟩
  and_intros <;> decide +kernel

theorem witness_RegisterWrites_0 : ∃ (s : State) (path : Path) (off : BitVec 24) (val : Word) (r : RegDef) (k : List Nat),
    reaches s path off.toNat = true ∧ 0xE0000 ≤ off.toNat ∧ off.toNat < 0xF0000 ∧ ignored off.toNat = false ∧ regAt off.toNat = some (r, k) ∧ shBits r.fields = 0 := by
  refine ⟨(lab 3 []), .msp, (BitVec.ofNat 24 (LANE.STATUS 0)), 5, ((regAt (LANE.STATUS 0)).get (by decide +kernel)).1, ((regAt (LANE.STATUS 0)).get (by decide +kernel)).2, ?_⟩
  and_intros <;> decide +kernel

theorem witness_RegisterWrites_1 : ∃ (s : State) (path : Path) (off : BitVec 24) (val : Word),
    stalls s = false ∧ waitsAt s path off.toNat = none ∧ 6 ≤ s.pwr.up ∧ s.mode ≠ 7 ∧ writeAllowed s path off.toNat = false ∧ ignored off.toNat = false ∧ off.toNat ≠ TWIN.DECIDE ∧ alarmAt off.toNat = none := by
  refine ⟨(lab 3 []), (.pcie 5 0), (BitVec.ofNat 24 TIME.CTRL), 5, ?_⟩
  and_intros <;> decide +kernel

theorem witness_RegisterWrites_2 : ∃ (s : State) (path : Path) (off : BitVec 24) (val : Word) (k : Nat),
    stalls s = false ∧ waitsAt s path off.toNat = some k ∧ ignored off.toNat = false ∧ off.toNat ≠ TWIN.DECIDE ∧ alarmAt off.toNat = none := by
  refine ⟨(lab 3 []).setSrcQ 9 { waiting := [.regRead .msp 0] }, .msp, (BitVec.ofNat 24 TIME.CTRL), 5, 9, ?_⟩
  and_intros <;> decide +kernel

theorem witness_RegisterWrites_3 : ∃ (s : State) (path : Path) (n : Fin 96) (val : Word),
    reaches s path (PORT.CTRL n) = true ∧ s.flag (PORT.CTRL_ENABLE n) = false ∧ val.toNat.testBit 0 = true ∧ ctrlRefusal s n val = none := by
  refine ⟨(lab 3 [(PORT.CFG_ROLE 95, 0)]), .msp, 95, 1, ?_⟩
  and_intros <;> decide +kernel

theorem witness_RegisterWrites_4 : ∃ (s : State) (path : Path) (off : BitVec 24) (val : Word),
    33 ≤ s.img.checks.length ∧ ignored off.toNat = false ∧ off.toNat ≠ TWIN.DECIDE ∧ alarmAt off.toNat = none := by
  refine ⟨{ lab 3 [] with img := { checks := List.replicate 33 (.commit [] false false true 0) } }, .msp, (BitVec.ofNat 24 (PORT.CTRL 0)), 1, ?_⟩
  and_intros <;> decide +kernel

theorem witness_LedgerGrantsAndSources_0 : ∃ (s : State) (src : Nat) (e : Ev) (es : List Ev),
    s.ledger.grantedAt ≠ some s.cycle ∧ s.jrnl.queue.length < 256 ∧ (s.srcQ src).queue = e :: es ∧ e.first = false := by
  refine ⟨(lab 3 []).setSrcQ 240 { queue := [{ type := .portLink }] }, 240, { type := .portLink }, [], ?_⟩
  and_intros <;> decide +kernel

theorem witness_LedgerGrantsAndSources_1 : ∃ (s : State) (src : Nat),
    256 ≤ s.jrnl.queue.length := ⟨{ lab 3 [] with jrnl := { queue := List.replicate 256 ⟨1, 0, 3, { type := .portLink }⟩ } }, 240, by decide +kernel⟩

theorem witness_LedgerGrantsAndSources_2 : ∃ (s : State) (src : Nat) (c : Coal),
    (s.srcQ src).store.length < 64 ∧ (s.srcQ src).coal = some c := ⟨(lab 3 []).setSrcQ 240 { coal := some ⟨1, .portLink, 0, .portLink, 0, 0, 0⟩ }, 240, (⟨1, .portLink, 0, .portLink, 0, 0, 0⟩), by decide +kernel, by decide +kernel⟩

theorem witness_LedgerGrantsAndSources_3 : ∃ (s : State) (src : Nat) (path : Path) (off : Nat) (val : Word) (rest : List Held),
    (s.srcQ src).waiting = .regWrite path off val :: rest ∧ (s.srcQ src).full = false ∧ 6 ≤ s.pwr.up ∧ s.mode ≠ 7 ∧ writeAllowed s path off = true := by
  refine ⟨(lab 3 []).setSrcQ 9 { waiting := [.regWrite .msp TIME.CTRL 0] }, 9, .msp, TIME.CTRL, 0, [], ?_⟩
  and_intros <;> decide +kernel

theorem witness_LedgerGrantsAndSources_4 : ∃ (s : State) (src : Nat),
    ((s.srcQ src).waiting = [] ∨ (s.srcQ src).full = true) := ⟨(lab 3 []), 9, by decide +kernel⟩

theorem witness_LedgerGrantsAndSources_5 : ∃ (s : State) (t5 : Fin 5),
    (s.rd GLB.GEN).toNat.testBit (20 + t5) = true ∧ genHeld s t5 = false := ⟨{ lab 3 [] with regs := (lab 3 []).regs.set resetWord GLB.GEN (1#32 <<< 24) }, 4, by decide +kernel, by decide +kernel⟩

theorem witness_JournalChainAndDrain_0 : ∃ (s : State) (g : Granted) (gs : List Granted),
    s.jrnl.queue = g :: gs ∧ s.jrnl.readyAt ≤ s.cycle ∧ (written s + 2 ^ 32 - consumer s) % 2 ^ 32 < 4096 := ⟨{ lab 3 [(JRNL.WR_INDEX_V, 4095)] with jrnl := { queue := [⟨1, 0, 3, { type := .portLink }⟩] } }, (⟨1, 0, 3, { type := .portLink }⟩), [], by decide +kernel, by decide +kernel, by decide +kernel⟩

theorem witness_JournalChainAndDrain_1 : ∃ (s : State) (g : Granted) (gs : List Granted),
    s.jrnl.queue = g :: gs ∧ s.jrnl.readyAt ≤ s.cycle ∧ 4096 ≤ (written s + 2 ^ 32 - consumer s) % 2 ^ 32 ∧ s.jrnl.gap = true := by
  refine ⟨{ lab 3 [(JRNL.WR_INDEX_V, 4096)] with jrnl := { queue := [⟨1, 0, 3, { type := .portLink }⟩], gap := true } }, (⟨1, 0, 3, { type := .portLink }⟩), [], ?_⟩
  and_intros <;> decide +kernel

theorem witness_JournalChainAndDrain_2 : ∃ (s : State) (path : Path),
    reaches s path JRNL.CTRL = true ∧ s.jrnl.gap = true ∧ s.flag JRNL.CTRL_DRAIN_EN = false := ⟨{ lab 3 [] with jrnl := { gap := true } }, .msp, by decide +kernel, by decide +kernel, by decide +kernel⟩

theorem witness_JournalChainAndDrain_3 : ∃ (s : State) (path : Path) (val : Word),
    reaches s path JRNL.RD_INDEX = true := ⟨(lab 3 []), .msp, 5, by decide +kernel⟩

theorem witness_JournalChainAndDrain_4 : ∃ (s : State) (u : State),
    s.flag JRNL.CTRL_DRAIN_EN = true ∧ s.jrnl.gap = false ∧ consumer s ≠ written s ∧ ((s.rd JRNL.RING_TAIL).toNat + 2 ^ 32 - (s.rd JRNL.RING_HEAD).toNat) % 2 ^ 32 < drainSize s ∧ s.drainOne (delivered s (consumer s)) = (true, u) ∧ consumer u = consumer s ∧ u.flag JRNL.CTRL_IRQ_EN = false := by
  refine ⟨aDrain, aDrained, ?_, ?_, ?_, ?_, by rw [show consumer aDrain = 0 by decide +kernel]; exact aDrain_one, ?_⟩
  all_goals and_intros <;> decide +kernel

theorem witness_CommitGoAndCancel_0 : ∃ (s : State) (path : Path),
    reaches s path GLB.COMMIT = true ∧ s.get GLB.COMMIT_STATUS_STATE ≠ 1 ∧ s.get GLB.COMMIT_STATUS_STATE ≠ 2 ∧ s.twin.enable = false ∧ s.mode ≠ 5 := by
  refine ⟨(lab 3 []), .msp, ?_⟩
  and_intros <;> decide +kernel

theorem witness_CommitGoAndCancel_1 : ∃ (s : State) (path : Path),
    reaches s path GLB.COMMIT = true ∧ (s.get GLB.COMMIT_STATUS_STATE = 1 ∨ s.get GLB.COMMIT_STATUS_STATE = 2) := ⟨(lab 3 [(GLB.COMMIT_STATUS_STATE, 2)]), .msp, by decide +kernel, by decide +kernel⟩

theorem witness_CommitGoAndCancel_2 : ∃ (s : State) (path : Path) (c : Staged),
    reaches s path GLB.COMMIT = true ∧ s.get GLB.COMMIT_STATUS_STATE = 2 ∧ s.img.commit = some c ∧ c.pair = false := by
  refine ⟨{ lab 3 [(GLB.COMMIT_STATUS_STATE, 2)] with img := { commit := some ⟨[], true, 0, false⟩ } }, .msp, (⟨[], true, 0, false⟩), ?_⟩
  and_intros <;> decide +kernel

theorem witness_CommitGoAndCancel_3 : ∃ (s : State) (path : Path),
    reaches s path GLB.COMMIT = true ∧ s.get GLB.COMMIT_STATUS_STATE ≠ 2 := ⟨(lab 3 [(GLB.COMMIT_STATUS_STATE, 1)]), .msp, by decide +kernel, by decide +kernel⟩

theorem witness_ConfigurationMailbox_0 : ∃ (s : State) (path : Path),
    reaches s path PART.CFG_CTRL = true ∧ s.flag PART.CFG_CTRL_BUSY = false ∧ 96 ≤ s.get PART.CFG_CTRL_PORTID ∧ reservedPort (s.get PART.CFG_CTRL_PORTID) = false := by
  refine ⟨(lab 3 [(PART.CFG_CTRL_PORTID, 112)]), .msp, ?_⟩
  and_intros <;> decide +kernel

theorem witness_ConfigurationMailbox_1 : ∃ (s : State) (path : Path),
    reaches s path PART.CFG_CTRL = true ∧ s.flag PART.CFG_CTRL_BUSY = false ∧ reservedPort (s.get PART.CFG_CTRL_PORTID) = true := ⟨(lab 3 [(PART.CFG_CTRL_PORTID, 96)]), .msp, by decide +kernel, by decide +kernel, by decide +kernel⟩

theorem witness_ConfigurationMailbox_2 : ∃ (s : State) (path : Path) (n : Fin 96),
    reaches s path PART.CFG_CTRL = true ∧ s.flag PART.CFG_CTRL_BUSY = false ∧ s.get PART.CFG_CTRL_PORTID = n ∧ s.get (PORT.CFG_ROLE n) = 0 ∧ s.flag (PORT.CFG_SHARED n) = true ∧ s.flag PART.CFG_CTRL_TYPE = false ∧ s.flag PART.CFG_CTRL_WRITE = false := by
  refine ⟨(lab 3 [(PART.CFG_CTRL_PORTID, 95), (PORT.CFG_ROLE 95, 0), (PORT.CFG_SHARED 95, 1)]), .msp, 95, ?_⟩
  and_intros <;> decide +kernel

theorem witness_ConfigurationMailbox_3 : ∃ (s : State) (path : Path) (n : Fin 96),
    reaches s path PART.CFG_CTRL = true ∧ s.flag PART.CFG_CTRL_BUSY = false ∧ s.get PART.CFG_CTRL_PORTID = n ∧ s.get (PORT.CFG_ROLE n) = 0 ∧ s.flag (PORT.CFG_SHARED n) = true ∧ s.flag PART.CFG_CTRL_TYPE = true ∧ targetRefusal s n = none := by
  refine ⟨(lab 3 [(PART.CFG_CTRL_PORTID, 95), (PORT.CFG_ROLE 95, 0), (PORT.CFG_SHARED 95, 1), (PART.CFG_CTRL_TYPE, 1), (PORT.STATUS_LINK_UP 95, 1)]), .msp, 95, ?_⟩
  and_intros <;> decide +kernel

theorem witness_ConfigurationMailbox_4 : ∃ (s : State) (status : Fin 8) (data : Word),
    s.flag PART.CFG_CTRL_BUSY = true ∧ readQueued s .mailbox = false := ⟨(lab 3 [(PART.CFG_CTRL_BUSY, 1)]), 7, 5, by decide +kernel, by decide +kernel⟩

theorem witness_ConfigurationMailbox_5 : ∃ (s : State),
    s.flag PART.CFG_CTRL_BUSY = true ∧ s.due s.part.mailDl = true := ⟨{ lab 3 [(PART.CFG_CTRL_BUSY, 1)] with part := { mailDl := some 5 }, adv := 5 }, by decide +kernel, by decide +kernel⟩

theorem witness_TlpIngress_0 : ∃ (s : State) (n : Fin 96) (m : Tlp),
    linkUp s n = true ∧ coreForwards s = true ∧ creditFor s n m = true ∧ ((s.paux n).mps < m.data.length ∨ tagTooWide s n m = true) ∧ s.flag (PORT.CFG_SHARED n) = false := by
  refine ⟨(lab 3 [(PORT.STATUS_LINK_UP 95, 1), (CORE.PORTBUF_SHARE 95, 64)]), 95, { kind := .memWr, lenDw := 33, data := List.replicate 132 0 }, ?_⟩
  and_intros <;> decide +kernel

theorem witness_TlpIngress_1 : ∃ (s : State) (n : Fin 96) (m : Tlp),
    linkUp s n = true ∧ coreForwards s = true ∧ creditFor s n m = true ∧ ((s.paux n).mps < m.data.length ∨ tagTooWide s n m = true) ∧ s.flag (PORT.CFG_SHARED n) = true ∧ s.get (PORT.CFG_ROLE n) = 0 := by
  refine ⟨(lab 3 [(PORT.STATUS_LINK_UP 95, 1), (CORE.PORTBUF_SHARE 95, 64), (PORT.CFG_ROLE 95, 0), (PORT.CFG_SHARED 95, 1)]), 95, { kind := .memWr, tag := 1024 }, ?_⟩
  and_intros <;> decide +kernel

theorem witness_TlpIngress_3 : ∃ (s : State) (n : Fin 96) (m : Tlp),
    linkUp s n = true ∧ coreForwards s = true ∧ creditFor s n m = true ∧ m.data.length ≤ (s.paux n).mps ∧ tagTooWide s n m = false ∧ s.mode ≠ 5 ∧ s.get (PORT.STATUS_DRAIN_STATE n) = 0 ∧ s.flag (PORT.CFG_SHARED n) = false ∧ m.kind = .msg ∧ m.msgRoute = 0 ∧ s.get (PORT.CFG_ROLE n) = 0 ∧ Shaped s ∧ upstreamOf s (s.get (PORT.CFG_PART n)) < 96 ∧ targetRefusal s (upstreamOf s (s.get (PORT.CFG_PART n))) = none := by
  refine ⟨(lab 3 [(PORT.CFG_ROLE 95, 0), (PORT.STATUS_LINK_UP 95, 1), (CORE.PORTBUF_SHARE 95, 64), (PORT.CFG_SHARED 95, 0), (PORT.CFG_PART 95, 31), (PART.TABLE_CTRL_UPSTREAM 31, 1), (PORT.STATUS_LINK_UP 1, 1), (PORT.STATUS_DRAIN_STATE 1, 0), (PORT.STATUS_DRAIN_STATE 95, 0)]), 95, { kind := .msg }, ?_, ?_, ?_, ?_, ?_, ?_, ?_, ?_, ?_, ?_, ?_, ⟨by decide +kernel, by decide +kernel⟩, ?_⟩
  all_goals and_intros <;> decide +kernel

theorem witness_TlpIngress_5 : ∃ (s : State) (n : Fin 96) (m : Tlp) (e : EndedRec),
    linkUp s n = true ∧ coreForwards s = true ∧ creditFor s n m = true ∧ m.data.length ≤ (s.paux n).mps ∧ tagTooWide s n m = false ∧ s.mode ≠ 5 ∧ m.kind = .cpl ∧ npOf s n m = none ∧ endedFor s n m = some e := by
  refine ⟨{ lab 3 [(PORT.STATUS_LINK_UP 95, 1), (CORE.PORTBUF_SHARE 95, 64)] with core := { ended := [⟨95, 0, 0⟩] } }, 95, { kind := .cpl }, (⟨95, 0, 0⟩), ?_⟩
  and_intros <;> decide +kernel

theorem witness_TlpIngress_6 : ∃ (s : State) (n : Fin 96) (m : Tlp) (r : NpRec),
    linkUp s n = true ∧ coreForwards s = true ∧ creditFor s n m = true ∧ m.data.length ≤ (s.paux n).mps ∧ tagTooWide s n m = false ∧ s.mode ≠ 5 ∧ m.kind = .cpl ∧ npOf s n m = some r ∧ r.serial ≠ serialOf s n ∧ (∃ k, r.origin = .port k) := by
  refine ⟨{ lab 3 [(PORT.STATUS_LINK_UP 95, 1), (CORE.PORTBUF_SHARE 95, 64)] with core := { out := [⟨95, 0, 0, 1, .port 5, .memRd, 0, 0, 0⟩] } }, 95, { kind := .cpl }, (⟨95, 0, 0, 1, .port 5, .memRd, 0, 0, 0⟩), ?_, ?_, ?_, ?_, ?_, ?_, ?_, ?_, ?_, ⟨5, rfl⟩⟩
  all_goals and_intros <;> decide +kernel

theorem witness_TlpIngress_2 : ∃ (s : State) (n : Fin 96) (d : Fin 96) (m : Tlp) (lock : Bool),
    linkUp s n = true ∧ coreForwards s = true ∧ creditFor s n m = true ∧ m.data.length ≤ (s.paux n).mps ∧ tagTooWide s n m = false ∧ s.mode ≠ 5 ∧ s.get (PORT.STATUS_DRAIN_STATE n) = 0 ∧ s.flag (PORT.CFG_SHARED n) = false ∧ (m.kind = .memRd ∨ m.kind = .memWr) ∧ hitFor s n ⟨s.get (PORT.CFG_PART n), m, .port n, false⟩ = .port d ∧ multicastAt s (s.get (PORT.CFG_PART n)) n m.addr = .none_ ∧ guardVerdict s n (colourOf s n m.rid) (needOf m) (rangeOf m).1 (rangeOf m).2 = (.allow lock, 0) ∧ targetRefusal s d = none ∧ Shaped s := by
  refine ⟨(aSwitch openRegion), 5, 95, { kind := .memWr }, false, ?_, ?_, ?_, ?_, ?_, ?_, ?_, ?_, ?_, by rw [aSwitch_part]; exact aSwitch_hit, ?_, by rw [show colourOf (aSwitch openRegion) (5 : Fin 96) _ = 7 from aSwitch_colour]; exact aSwitch_guard, ?_, ⟨by decide +kernel, by decide +kernel⟩⟩
  all_goals and_intros <;> decide +kernel

theorem witness_TlpIngress_4 : ∃ (s : State) (n : Fin 96) (m : Tlp) (cause : Nat),
    linkUp s n = true ∧ coreForwards s = true ∧ creditFor s n m = true ∧ m.data.length ≤ (s.paux n).mps ∧ tagTooWide s n m = false ∧ s.mode ≠ 5 ∧ s.get (PORT.STATUS_DRAIN_STATE n) = 0 ∧ s.flag (PORT.CFG_SHARED n) = false ∧ m.kind = .memWr ∧ m.ide = false ∧ hitFor s n ⟨s.get (PORT.CFG_PART n), m, .port n, false⟩ ≠ .mgmt ∧ s.flag (GUARD.UNIT_REC_INFO_VALID n) = true ∧ guardVerdict s n (colourOf s n m.rid) .write (rangeOf m).1 (rangeOf m).2 = (.refuse cause, 0) ∧ Shaped s := by
  refine ⟨aClosedSwitch, 5, { kind := .memWr }, 0, ?_, ?_, ?_, ?_, ?_, ?_, ?_, ?_, ?_, ?_, by rw [aClosedSwitch_part]; exact aClosedSwitch_hit, ?_, aClosedSwitch_guard, ⟨by decide +kernel, by decide +kernel⟩⟩
  all_goals and_intros <;> decide +kernel

theorem witness_QueuesGrantAndTransmit_0 : ∃ (s : State) (i : Fin 4096) (p : Pkt),
    s.sched.wheel.any (fun x => x.2 = i.val) = false ∧ eligOf s i ≤ (s.time.ft : Rat) ∧ subHead s i = some p ∧ heldBack s p = false ∧ (p.members = [] ∨ p.group.isSome = true) ∧ p.need = none ∧ (subShape s i).1 ≠ 0 := by
  refine ⟨(lab 3 [(Sub.RATE 4095, 1)]).holding [{ aPkt with place := .pre, sub := some 4095 }], 4095, { aPkt with place := .pre, sub := some 4095 }, ?_⟩
  and_intros <;> decide +kernel

theorem witness_QueuesGrantAndTransmit_1 : ∃ (s : State) (i : Fin 4096) (p : Pkt),
    subHead s i = some p ∧ heldBack s p = true := ⟨(lab 3 [(Sub.RATE 4095, 1)]).holding [{ aPkt with place := .hold }, { aPkt with id := 1, place := .pre, sub := some 4095 }], 4095, { aPkt with id := 1, place := .pre, sub := some 4095 }, by decide +kernel, by decide +kernel⟩

theorem witness_QueuesGrantAndTransmit_2 : ∃ (s : State) (at_ : Nat) (i : Nat) (p : Pkt),
    s.sched.wheel = [(at_, i)] ∧ at_ ≤ s.time.ft ∧ s.sched.released.1 ≠ s.cycle ∧ subHead s i = some p ∧ heldBack s p = false ∧ p.members = [] ∧ p.need = none := by
  refine ⟨{ (lab 3 []).holding [{ aPkt with place := .pre, sub := some 4095 }] with sched := { wheel := [(0, 4095)] }, cycle := 1 }, 0, 4095, { aPkt with place := .pre, sub := some 4095 }, ?_⟩
  and_intros <;> decide +kernel

theorem witness_QueuesGrantAndTransmit_3 : ∃ (s : State),
    s.sched.released.1 ≠ s.cycle ∧ (∀ p ∈ s.core.pkts, p.need = none) ∧ 4 < (s.sched.wheel.filter (fun x => x.1 ≤ s.time.ft)).length := ⟨{ lab 3 [] with sched := { wheel := [(0, 0), (0, 1), (0, 2), (0, 3), (0, 4)] }, cycle := 1 }, by decide +kernel, by decide +kernel, by decide +kernel⟩

theorem witness_QueuesGrantAndTransmit_4 : ∃ (s : State) (k : Nat) (p : Pkt),
    s.pkt? k = some p ∧ p.place = .hold ∧ p.members = [] ∧ p.group = none ∧ p.need = none ∧ heldBack s p = false := by
  refine ⟨(lab 3 []).holding [{ aPkt with place := .hold }], 0, { aPkt with place := .hold }, ?_⟩
  and_intros <;> decide +kernel

theorem witness_QueuesGrantAndTransmit_5 : ∃ (s : State) (k : Nat) (turn : Nat) (p : Pkt) (d : SMap Nat),
    s.pkt? k = some p ∧ coreForwards s = true ∧ portTurn s p.dest = some p.egress ∧ crossbarPick s p.egress = some (p, d, turn) ∧ p.dest ≠ 40 ∧ (∀ q ∈ s.core.pkts, atHead q = false) := by
  refine ⟨(lab 3 [(SCHED.PORT_CLASS_STRICT 95, 255)]).holding [aPkt], 0, 0, aPkt, [], ?_⟩
  and_intros <;> decide +kernel

theorem witness_QueuesGrantAndTransmit_6 : ∃ (s : State) (k : Nat) (turn : Nat) (p : Pkt) (q : Pkt) (d : SMap Nat),
    s.pkt? k = some p ∧ crossbarPick s p.egress = some (q, d, turn) ∧ q.id ≠ p.id := ⟨(lab 3 [(SCHED.PORT_CLASS_STRICT 95, 255)]).holding [aPkt, { aPkt with id := 1, tc := 7 }], 0, 0, aPkt, { aPkt with id := 1, tc := 7 }, [], by decide +kernel, by decide +kernel, by decide +kernel⟩

theorem witness_QueuesGrantAndTransmit_7 : ∃ (s : State) (i : Fin 100) (turn : Nat) (n : Nat) (p : Pkt) (m : Tlp) (d : SMap Nat) (a : Arrival),
    coreForwards s = true ∧ transmitPick s i = some (p, d, turn) ∧ p.body = .tlp m ∧ p.origin = .port n ∧ egressEnd s p = none ∧ (a = .whole ∨ p.cut = false) := by
  refine ⟨(lab 3 [(SCHED.PORT_CLASS_STRICT 95, 255), (PORT.STATUS_LINK_UP 95, 1)]).holding [{ aPkt with place := .egress }], 95, 0, 5, { aPkt with place := .egress }, { kind := .memWr, data := [1, 2, 3, 4] }, [], .whole, ?_⟩
  and_intros <;> decide +kernel

theorem witness_QueuesGrantAndTransmit_8 : ∃ (s : State) (i : Fin 100) (turn : Nat) (p : Pkt) (m : Tlp) (d : SMap Nat),
    coreForwards s = true ∧ transmitPick s i = some (p, d, turn) ∧ p.body = .tlp m ∧ egressEnd s p = none ∧ p.cut = true := by
  refine ⟨(lab 3 [(SCHED.PORT_CLASS_STRICT 95, 255), (PORT.STATUS_LINK_UP 95, 1)]).holding [{ aPkt with place := .egress, cut := true }], 95, 0, { aPkt with place := .egress, cut := true }, { kind := .memWr, data := [1, 2, 3, 4] }, [], ?_⟩
  and_intros <;> decide +kernel

theorem witness_QueuesGrantAndTransmit_9 : ∃ (s : State) (i : Fin 100) (turn : Nat) (n : Nat) (p : Pkt) (m : Tlp) (d : SMap Nat),
    coreForwards s = true ∧ transmitPick s i = some (p, d, turn) ∧ p.body = .tlp m ∧ p.origin = .port n ∧ egressEnd s p = none ∧ p.cut = true ∧ s.flag (PORT.STATUS_FLIT p.ingress) = false := by
  refine ⟨(lab 3 [(SCHED.PORT_CLASS_STRICT 95, 255), (PORT.STATUS_LINK_UP 95, 1)]).holding [{ aPkt with place := .egress, cut := true }], 95, 0, 5, { aPkt with place := .egress, cut := true }, { kind := .memWr, data := [1, 2, 3, 4] }, [], ?_⟩
  and_intros <;> decide +kernel

theorem witness_QueuesGrantAndTransmit_10 : ∃ (s : State) (i : Fin 100) (turn : Nat) (n : Nat) (p : Pkt) (m : Tlp) (d : SMap Nat) (path : EndPath) (a : Arrival),
    coreForwards s = true ∧ transmitPick s i = some (p, d, turn) ∧ p.body = .tlp m ∧ p.origin = .port n ∧ m.kind = .memWr ∧ egressEnd s p = some path := by
  refine ⟨(lab 3 [(SCHED.PORT_CLASS_STRICT 95, 255), (PORT.STATUS_LINK_UP 95, 1)]).holding [{ aPkt with place := .egress, serial := 1 }], 95, 0, 5, { aPkt with place := .egress, serial := 1 }, { kind := .memWr, data := [1, 2, 3, 4] }, [], .serial, .stopped, ?_⟩
  and_intros <;> decide +kernel

theorem witness_ReplicationMirrorsAndMemoryErrors_0 : ∃ (s : State) (k : Nat) (g : Nat) (pcie : Bool) (slot : Fin 32) (p : Pkt),
    s.pkt? k = some p ∧ p.group = some (g, pcie) ∧ mcReady s p = true ∧ slotServes s slot g = true ∧ slotBusy s slot = false ∧ stagingFits s p = true := by
  refine ⟨((lab 3 [(CORE.COPY_SLOT_OWNER 31, 5)]).owned [⟨5, 0, 5, 0⟩]).holding [{ aPkt with place := .hold, members := [6], group := some (0, false) }], 0, 0, false, 31, { aPkt with place := .hold, members := [6], group := some (0, false) }, ?_⟩
  and_intros <;> decide +kernel

theorem witness_ReplicationMirrorsAndMemoryErrors_1 : ∃ (s : State) (m : Fin 8) (c : MirrorCopy) (rest : List MirrorCopy) (slot : Nat),
    (s.mirror m).staged = c :: rest ∧ (mirrorSlots s m).find? (fun k => !slotBusy s k) = some slot ∧ 0 < (s.paux (s.get (CORE.MIRROR_CTRL_DEST m))).mps ∧ (analysisClosed s (s.get (CORE.MIRROR_CTRL_DEST m)) = false ∨ s.get (PORT.STATUS_DRAIN_STATE (s.get (CORE.MIRROR_CTRL_DEST m))) = 1) := by
  refine ⟨{ lab 3 [(CORE.MIRROR_CTRL_DEST 7, 95), (PORT.STATUS_LINK_UP 95, 1), (PORT.STATUS_DRAIN_STATE 95, 0), (CORE.COPY_SLOT_OWNER 31, 6), (CORE.COPY_SLOT_OWNER_INST 31, 7)] with core := { mirrors := [(7, { staged := [⟨0, 64, 0, false, 5, 95, []⟩] })] } }, 7, (⟨0, 64, 0, false, 5, 95, []⟩), [], 31, ?_⟩
  and_intros <;> decide +kernel

theorem witness_ReplicationMirrorsAndMemoryErrors_2 : ∃ (s : State) (m : Fin 8),
    ((s.mirror m).staged = [] ∨ (mirrorSlots s m).find? (fun k => !slotBusy s k) = none) := ⟨{ lab 3 [(CORE.MIRROR_CTRL_DEST 7, 95)] with core := { mirrors := [(7, { staged := [⟨0, 64, 0, false, 5, 95, []⟩] })] } }, 7, by decide +kernel⟩

theorem witness_ReplicationMirrorsAndMemoryErrors_3 : ∃ (s : State) (m : Fin 8) (c : MirrorCopy) (rest : List MirrorCopy) (slot : Nat),
    (s.mirror m).staged = c :: rest ∧ (mirrorSlots s m).find? (fun k => !slotBusy s k) = some slot ∧ analysisClosed s (s.get (CORE.MIRROR_CTRL_DEST m)) = true ∧ s.get (PORT.STATUS_DRAIN_STATE (s.get (CORE.MIRROR_CTRL_DEST m))) ≠ 1 := by
  refine ⟨{ lab 3 [(CORE.MIRROR_CTRL_DEST 7, 95), (CORE.COPY_SLOT_OWNER 31, 6), (CORE.COPY_SLOT_OWNER_INST 31, 7)] with core := { mirrors := [(7, { staged := [⟨0, 64, 0, false, 5, 95, []⟩] })] } }, 7, (⟨0, 64, 0, false, 5, 95, []⟩), [], 31, ?_⟩
  and_intros <;> decide +kernel

theorem witness_ReplicationMirrorsAndMemoryErrors_4 : ∃ (s : State) (path : Path) (m : Fin 8),
    reaches s path (CORE.MIRROR_CTRL m) = true ∧ s.flag (CORE.MIRROR_CTRL_ENABLE m) = false := ⟨(lab 3 []), .msp, 7, by decide +kernel, by decide +kernel⟩

theorem witness_ReplicationMirrorsAndMemoryErrors_5 : ∃ (s : State) (path : Path) (m : Fin 8),
    reaches s path (CORE.MIRROR_CTRL m) = true ∧ s.flag (CORE.MIRROR_CTRL_ENABLE m) = true ∧ checkPending s (CORE.MIRROR_CTRL m) = false := ⟨(lab 3 [(CORE.MIRROR_CTRL_ENABLE 7, 1)]), .msp, 7, by decide +kernel, by decide +kernel, by decide +kernel⟩

theorem witness_ReplicationMirrorsAndMemoryErrors_6 : ∃ (s : State) (path : Path),
    reaches s path CORE.CTRL = true ∧ s.flag CORE.CTRL_MC_EN = false := ⟨(lab 3 [(CORE.CTRL_MC_EN, 0)]), .msp, by decide +kernel, by decide +kernel⟩

theorem witness_ReplicationMirrorsAndMemoryErrors_7 : ∃ (s : State) (b : Fin 73) (k : Option Nat) (header : Bool),
    coreRuns s = true := ⟨(lab 3 []), 72, none, true, by decide +kernel⟩

theorem witness_ReplicationMirrorsAndMemoryErrors_8 : ∃ (s : State) (u : State) (b : Fin 73) (k : Option Nat) (header : Bool),
    coreRuns s = true ∧ u = ((s.set CORE.ECC_STATUS_BUFFER b).set CORE.ECC_STATUS_UE 1).raiseFault 36 FATAL b := ⟨(lab 3 []), ((((lab 3 []) : State).set CORE.ECC_STATUS_BUFFER ((72 : Fin 73))).set CORE.ECC_STATUS_UE 1).raiseFault 36 FATAL ((72 : Fin 73)), (72 : Fin 73), none, true, by decide +kernel, rfl⟩

theorem witness_ReplicationMirrorsAndMemoryErrors_9 : ∃ (s : State) (b : Fin 73) (k : Option Nat) (double : Bool) (header : Bool) (j : Fin 32),
    coreRuns s = false := ⟨State.reset, 72, none, true, true, 31, by decide +kernel⟩

theorem witness_ReplicationMirrorsAndMemoryErrors_10 : ∃ (s : State),
    coreRuns s = true := ⟨(lab 3 []), by decide +kernel⟩

theorem witness_ReplicationMirrorsAndMemoryErrors_11 : ∃ (s : State) (slot : Fin 32),
    coreRuns s = true := ⟨(lab 3 []), 31, by decide +kernel⟩

theorem witness_ReplicationMirrorsAndMemoryErrors_12 : ∃ (s : State) (share : Fin 32) (double : Bool),
    coreRuns s = true := ⟨(lab 3 []), 31, true, by decide +kernel⟩

theorem witness_ReplicationMirrorsAndMemoryErrors_13 : ∃ (s : State) (r : Fin 8192) (both : Bool),
    (s.flag (Region.LOCK r) = false ∨ both = true) := ⟨(lab 3 []), 8191, false, by decide +kernel⟩

theorem witness_ReplicationMirrorsAndMemoryErrors_14 : ∃ (s : State) (r : Fin 8192) (double : Bool) (both : Bool),
    (double = false ∨ (s.flag (Region.LOCK r) = true ∧ both = false)) := ⟨(lab 3 [(Region.LOCK 8191, 1)]), 8191, true, false, by decide +kernel⟩

theorem witness_ReplicationMirrorsAndMemoryErrors_15 : ∃ (s : State) (u : State) (i : Fin 100),
    u = (((s.set SCHED.STATUS_ECC_UE 1).raiseFault 38 UC (egressId i)).set (SCHED.PORT_GATE_STATUS_FAULT i) 1) := ⟨(lab 3 []), (((((lab 3 []) : State).set SCHED.STATUS_ECC_UE 1).raiseFault 38 UC (egressId ((99 : Fin 100)))).set (SCHED.PORT_GATE_STATUS_FAULT ((99 : Fin 100))) 1), (99 : Fin 100), rfl⟩

theorem witness_ReplicationMirrorsAndMemoryErrors_16 : ∃ (s : State) (u : State) (i : Fin 4096),
    u = (s.set SCHED.STATUS_ECC_UE 1).raiseFault 38 UC i := ⟨(lab 3 []), (((lab 3 []) : State).set SCHED.STATUS_ECC_UE 1).raiseFault 38 UC ((4095 : Fin 4096)), (4095 : Fin 4096), rfl⟩

theorem witness_ReplicationMirrorsAndMemoryErrors_17 : ∃ (s : State) (u : State) (k : Fin 18208),
    u = (s.set SCHED.STATUS_ECC_UE 1).raiseFault 38 UC (if 14112 ≤ k.val then k.val - 14112 else 0xFFFF) := ⟨(lab 3 []), (((lab 3 []) : State).set SCHED.STATUS_ECC_UE 1).raiseFault 38 UC (if 14112 ≤ (((18207 : Fin 18208)) : Fin 18208).val then (((18207 : Fin 18208)) : Fin 18208).val - 14112 else 0xFFFF), (18207 : Fin 18208), rfl⟩

theorem witness_GatesAndSamplers_1 : ∃ (s : State) (i : Fin 100) (r : GateRun) (at_ : Nat),
    (s.gate i).pending = some (r, at_) ∧ at_ ≤ s.time.ft := ⟨{ lab 3 [] with sched := { gates := [(99, { pending := some (⟨[], 0, 0, 0⟩, 5) })] }, time := { ft := 5 } }, 99, (⟨[], 0, 0, 0⟩), 5, by decide +kernel, by decide +kernel⟩

theorem witness_GatesAndSamplers_2 : ∃ (s : State) (i : Fin 100) (e : Nat),
    (s.gate i).pending = none ∧ (s.gate i).endAt = some e ∧ e ≤ s.time.ft := ⟨{ lab 3 [] with sched := { gates := [(99, { endAt := some 5 })] }, time := { ft := 5 } }, 99, 5, by decide +kernel, by decide +kernel, by decide +kernel⟩

theorem witness_GatesAndSamplers_3 : ∃ (s : State),
    SMap.wf (fun _ => ({} : Sampler)) s.sched.samplers ∧ s.flag SCHED.CTRL_SAMPLE_EN = true ∧ s.sched.nextSample ≤ s.time.ft := ⟨(lab 3 [(SCHED.CTRL_SAMPLE_EN, 1)]), by decide +kernel, by decide +kernel, by decide +kernel⟩

theorem witness_GatesAndSamplers_4 : ∃ (s : State),
    (s.flag SCHED.CTRL_SAMPLE_EN = false ∨ s.time.ft < s.sched.nextSample) := ⟨(lab 3 []), by decide +kernel⟩

theorem witness_GatesAndSamplers_5 : ∃ (s : State) (path : Path),
    SMap.wf (fun _ => ({} : Sampler)) s.sched.samplers ∧ reaches s path SCHED.CTRL = true := ⟨(lab 3 []), .msp, by decide +kernel, by decide +kernel⟩

theorem witness_SampSelCopiesAndClears_0 : ∃ (s : State) (path : Path) (val : Word),
    Shaped s ∧ reaches s path SCHED.SAMP_SEL = true ∧ fieldOf val SCHED.SAMP_SEL_INDEX.lo SCHED.SAMP_SEL_INDEX.n < 18208 := ⟨(lab 3 []), .msp, 18207, ⟨by decide +kernel, by decide +kernel⟩, by decide +kernel, by decide +kernel⟩

theorem witness_StrictSweepEnds_0 : ∃ (s : State) (dl : Nat) (g : Nat),
    s.guard.sweep = some (dl, g) ∧ Shaped s := ⟨{ lab 3 [] with guard := { sweep := some (0, 5) } }, 0, 5, by decide +kernel, ⟨by decide +kernel, by decide +kernel⟩⟩

theorem witness_StrictSweepEnds_1 : ∃ (s : State),
    s.guard.sweep = none := ⟨(lab 3 []), by decide +kernel⟩

theorem witness_BundlePhy_0 : ∃ (s : State) (path : Path) (b : Fin 4),
    reaches s path (FBL.PHY_CTRL b) = true ∧ s.flag (FBL.PHY_CTRL_ENABLE b) = false := ⟨(lab 3 []), .msp, 3, by decide +kernel, by decide +kernel⟩

theorem witness_BundlePhy_2 : ∃ (s : State) (r : State) (path : Path) (b : Fin 4) (val : Word) (rest : List CheckReq),
    s.img.checks = .enable ⟨path, FBL.PHY_CTRL b, val⟩ :: rest ∧ s.img.stalled = [] ∧ val.toNat.testBit 0 = true ∧ s.flag (FBL.PHY_CTRL_ENABLE b) = false ∧ r = { s with img := { s.img with checks := rest } } ∧ phyRefusal r b ≠ 0 := by
  refine ⟨{ lab 3 [] with img := { checks := [.enable ⟨.msp, FBL.PHY_CTRL 3, 1⟩] } }, { ({ lab 3 [] with img := { checks := [.enable ⟨.msp, FBL.PHY_CTRL 3, 1⟩] } }) with img := { (({ lab 3 [] with img := { checks := [.enable ⟨.msp, FBL.PHY_CTRL 3, 1⟩] } })).img with checks := [] } }, .msp, 3, 1, [], ?_, ?_, ?_, ?_, rfl, ?_⟩
  all_goals and_intros <;> decide +kernel

theorem witness_BundlePhy_3 : ∃ (s : State) (path : Path) (b : Fin 4),
    reaches s path (FBL.PHY_CTRL b) = true ∧ s.flag (FBL.PHY_CTRL_ENABLE b) = true ∧ checkPending s (FBL.PHY_CTRL b) = false := ⟨(lab 3 [(FBL.PHY_CTRL_ENABLE 3, 1)]), .msp, 3, by decide +kernel, by decide +kernel, by decide +kernel⟩

theorem witness_BundlePhy_4 : ∃ (s : State) (path : Path) (b : Fin 4),
    reaches s path (FBL.PHY_CTRL b) = true ∧ s.flag (FBL.PHY_CTRL_ENABLE b) = true ∧ checkPending s (FBL.PHY_CTRL b) = false ∧ phyState s b ≠ 0 := by
  refine ⟨(lab 3 [(FBL.PHY_CTRL_ENABLE 3, 1), (FBL.PHY_STATUS_STATE 3, 6)]), .msp, 3, ?_⟩
  and_intros <;> decide +kernel

theorem witness_BundlePhy_5 : ∃ (s : State) (b : Fin 4),
    phyState s b = 1 ∧ (s.phy b).pll = false ∧ s.flag (FBL.PHY_STATUS_CLK_OK b) = false := ⟨(lab 3 [(FBL.PHY_STATUS_STATE 3, 1)]), 3, by decide +kernel, by decide +kernel, by decide +kernel⟩

theorem witness_BundlePhy_6 : ∃ (s : State) (b : Fin 4),
    phyState s b = 1 ∧ (s.phy b).pll = false ∧ s.flag (FBL.PHY_STATUS_CLK_OK b) = true := ⟨(lab 3 [(FBL.PHY_STATUS_STATE 3, 1), (FBL.PHY_STATUS_CLK_OK 3, 1)]), 3, by decide +kernel, by decide +kernel, by decide +kernel⟩

theorem witness_BundlePhy_7 : ∃ (s : State) (b : Fin 4),
    phyState s b = 1 ∧ (s.phy b).pll = true := ⟨{ lab 3 [(FBL.PHY_STATUS_STATE 3, 1)] with phys := [(3, { pll := true })] }, 3, by decide +kernel, by decide +kernel⟩

theorem witness_BundlePhy_8 : ∃ (s : State) (b : Fin 4),
    phyState s b = 6 := ⟨(lab 3 [(FBL.PHY_STATUS_STATE 3, 6)]), 3, by decide +kernel⟩

theorem witness_BundlePhy_9 : ∃ (s : State) (b : Fin 4) (lane : Fin 16) (f : TrainFrame),
    f.crcOk = false ∧ phyState s b = 2 ∧ s.adv < (s.phy b).stepAt + usFt 10 := ⟨(lab 3 [(FBL.PHY_STATUS_STATE 3, 2)]), 3, 15, (⟨0, [], false⟩), by decide +kernel, by decide +kernel, by decide +kernel⟩

theorem witness_BundlePhy_10 : ∃ (s : State) (b : Fin 4) (lane : Fin 16) (f : TrainFrame) (v : Nat) (w : Nat) (inv : Bool),
    f.crcOk = true ∧ frameOf f.bytes = some (v, inv) ∧ bitsHiLo v 51 49 = 3 ∧ phyState s b = 4 ∧ (s.phy b).chosen = some w ∧ bitsHiLo v 30 29 = w ∧ w < 3 ∧ chooseWidth (s.setPhy b { s.phy b with peerFail := bitsHiLo v 27 12 }) b = some w := by
  refine ⟨{ (lab 3 [(FBL.PHY_STATUS_STATE 0, 4), (FBL.LANE_MAP_FAILED 0, 0xFF)]).bundled 3 with phys := [(0, { chosen := some 2 })] }, 0, 15, (⟨3, aFrame, true⟩), (ofBe aFrame), 2, false, ?_⟩
  and_intros <;> decide +kernel

theorem witness_BundlePhy_11 : ∃ (s : State) (b : Fin 4) (errs : List Nat),
    phyState s b = 3 := ⟨(lab 3 [(FBL.PHY_STATUS_STATE 3, 3)]), 3, [], by decide +kernel⟩

theorem witness_BundlePhy_12 : ∃ (s : State) (b : Fin 4) (errs : List Nat),
    phyState s b = 4 ∧ (s.phy b).rounds + 1 < 16 := ⟨{ lab 3 [(FBL.PHY_STATUS_STATE 3, 4)] with phys := [(3, { rounds := 14 })] }, 3, [], by decide +kernel, by decide +kernel⟩

theorem witness_BundlePhy_13 : ∃ (s : State) (b : Fin 4),
    2 ≤ phyState s b ∧ phyState s b ≤ 5 ∧ (s.phy b).identAt + usFt 2000 ≤ s.adv ∧ s.get (FBL.PHY_STATUS_ATTEMPTS b) < 3 := by
  refine ⟨{ lab 3 [(FBL.PHY_STATUS_STATE 3, 5), (FBL.PHY_STATUS_ATTEMPTS 3, 2)] with adv := usFt 2000 }, 3, ?_⟩
  and_intros <;> decide +kernel

theorem witness_BundlePhy_14 : ∃ (s : State) (b : Fin 4),
    2 ≤ phyState s b ∧ phyState s b ≤ 5 ∧ (s.phy b).identAt + usFt 2000 ≤ s.adv ∧ 3 ≤ s.get (FBL.PHY_STATUS_ATTEMPTS b) := by
  refine ⟨{ lab 3 [(FBL.PHY_STATUS_STATE 3, 2), (FBL.PHY_STATUS_ATTEMPTS 3, 3)] with adv := usFt 2000 }, 3, ?_⟩
  and_intros <;> decide +kernel

theorem witness_BundlePhy_15 : ∃ (s : State) (b : Fin 4),
    phyState s b = 6 ∧ s.get (FBL.PHY_STATUS_WIDTH b) = 0 := ⟨(lab 3 [(FBL.PHY_STATUS_STATE 3, 6), (FBL.PHY_STATUS_WIDTH 3, 0)]).linked 3 { period := List.replicate 4096 0 }, 3, by decide +kernel, by decide +kernel⟩

theorem witness_BundlePhy_16 : ∃ (s : State) (v : State) (u : State) (b : Fin 4) (lanes : List LaneBits),
    phyState s b = 5 ∧ s.deskew b (arrivals s b (lanesRead s b lanes)) (fun k => (laneBits s b k lanes).1) = (0, v) ∧ v.takeLanes b (lanesRead s b lanes) = (0, u) ∧ allLocked u b = true ∧ llState s b = 0 := by
  refine ⟨{ lab 3 [(FBL.PHY_STATUS_STATE 3, 5), (FBL.PHY_STATUS_WIDTH 3, 1)] with phys := [(3, { rx := (List.range 8).map (fun l => (l, { commas := 2 })) })] }, ((({ lab 3 [(FBL.PHY_STATUS_STATE 3, 5), (FBL.PHY_STATUS_WIDTH 3, 1)] with phys := [(3, { rx := (List.range 8).map (fun l => (l, { commas := 2 })) })] }) : State).deskew ((3) : Fin 4) (arrivals (({ lab 3 [(FBL.PHY_STATUS_STATE 3, 5), (FBL.PHY_STATUS_WIDTH 3, 1)] with phys := [(3, { rx := (List.range 8).map (fun l => (l, { commas := 2 })) })] }) : State) ((3) : Fin 4) (lanesRead (({ lab 3 [(FBL.PHY_STATUS_STATE 3, 5), (FBL.PHY_STATUS_WIDTH 3, 1)] with phys := [(3, { rx := (List.range 8).map (fun l => (l, { commas := 2 })) })] }) : State) ((3) : Fin 4) (((List.range 8).map (fun l => (⟨l, 63, false :: commaBits⟩ : LaneBits))) : List LaneBits))) (fun k => (laneBits (({ lab 3 [(FBL.PHY_STATUS_STATE 3, 5), (FBL.PHY_STATUS_WIDTH 3, 1)] with phys := [(3, { rx := (List.range 8).map (fun l => (l, { commas := 2 })) })] }) : State) ((3) : Fin 4) k (((List.range 8).map (fun l => (⟨l, 63, false :: commaBits⟩ : LaneBits))) : List LaneBits)).1)).2, (((((({ lab 3 [(FBL.PHY_STATUS_STATE 3, 5), (FBL.PHY_STATUS_WIDTH 3, 1)] with phys := [(3, { rx := (List.range 8).map (fun l => (l, { commas := 2 })) })] }) : State).deskew ((3) : Fin 4) (arrivals (({ lab 3 [(FBL.PHY_STATUS_STATE 3, 5), (FBL.PHY_STATUS_WIDTH 3, 1)] with phys := [(3, { rx := (List.range 8).map (fun l => (l, { commas := 2 })) })] }) : State) ((3) : Fin 4) (lanesRead (({ lab 3 [(FBL.PHY_STATUS_STATE 3, 5), (FBL.PHY_STATUS_WIDTH 3, 1)] with phys := [(3, { rx := (List.range 8).map (fun l => (l, { commas := 2 })) })] }) : State) ((3) : Fin 4) (((List.range 8).map (fun l => (⟨l, 63, false :: commaBits⟩ : LaneBits))) : List LaneBits))) (fun k => (laneBits (({ lab 3 [(FBL.PHY_STATUS_STATE 3, 5), (FBL.PHY_STATUS_WIDTH 3, 1)] with phys := [(3, { rx := (List.range 8).map (fun l => (l, { commas := 2 })) })] }) : State) ((3) : Fin 4) k (((List.range 8).map (fun l => (⟨l, 63, false :: commaBits⟩ : LaneBits))) : List LaneBits)).1)).2) : State).takeLanes ((3) : Fin 4) (lanesRead (({ lab 3 [(FBL.PHY_STATUS_STATE 3, 5), (FBL.PHY_STATUS_WIDTH 3, 1)] with phys := [(3, { rx := (List.range 8).map (fun l => (l, { commas := 2 })) })] }) : State) ((3) : Fin 4) (((List.range 8).map (fun l => (⟨l, 63, false :: commaBits⟩ : LaneBits))) : List LaneBits))).2, 3, (List.range 8).map (fun l => (⟨l, 63, false :: commaBits⟩ : LaneBits)), ?_, by rw [Prod.ext_iff]; exact ⟨by decide +kernel, rfl⟩, by rw [Prod.ext_iff]; exact ⟨by decide +kernel, rfl⟩, ?_⟩
  all_goals and_intros <;> decide +kernel

theorem witness_BundlePhy_17 : ∃ (s : State) (v : State) (u : State) (b : Fin 4) (lanes : List LaneBits),
    phyState s b = 6 ∧ s.deskew b (arrivals s b (lanesRead s b lanes)) (fun k => (laneBits s b k lanes).1) = (0, v) ∧ v.takeLanes b (lanesRead s b lanes) = (0, u) := ⟨(lab 3 [(FBL.PHY_STATUS_STATE 3, 6), (FBL.PHY_STATUS_WIDTH 3, 1)]), (((lab 3 [(FBL.PHY_STATUS_STATE 3, 6), (FBL.PHY_STATUS_WIDTH 3, 1)]) : State).deskew ((3) : Fin 4) (arrivals ((lab 3 [(FBL.PHY_STATUS_STATE 3, 6), (FBL.PHY_STATUS_WIDTH 3, 1)]) : State) ((3) : Fin 4) (lanesRead ((lab 3 [(FBL.PHY_STATUS_STATE 3, 6), (FBL.PHY_STATUS_WIDTH 3, 1)]) : State) ((3) : Fin 4) (([]) : List LaneBits))) (fun k => (laneBits ((lab 3 [(FBL.PHY_STATUS_STATE 3, 6), (FBL.PHY_STATUS_WIDTH 3, 1)]) : State) ((3) : Fin 4) k (([]) : List LaneBits)).1)).2, ((((((lab 3 [(FBL.PHY_STATUS_STATE 3, 6), (FBL.PHY_STATUS_WIDTH 3, 1)]) : State).deskew ((3) : Fin 4) (arrivals ((lab 3 [(FBL.PHY_STATUS_STATE 3, 6), (FBL.PHY_STATUS_WIDTH 3, 1)]) : State) ((3) : Fin 4) (lanesRead ((lab 3 [(FBL.PHY_STATUS_STATE 3, 6), (FBL.PHY_STATUS_WIDTH 3, 1)]) : State) ((3) : Fin 4) (([]) : List LaneBits))) (fun k => (laneBits ((lab 3 [(FBL.PHY_STATUS_STATE 3, 6), (FBL.PHY_STATUS_WIDTH 3, 1)]) : State) ((3) : Fin 4) k (([]) : List LaneBits)).1)).2) : State).takeLanes ((3) : Fin 4) (lanesRead ((lab 3 [(FBL.PHY_STATUS_STATE 3, 6), (FBL.PHY_STATUS_WIDTH 3, 1)]) : State) ((3) : Fin 4) (([]) : List LaneBits))).2, 3, [], by decide +kernel, by rw [Prod.ext_iff]; exact ⟨by decide +kernel, rfl⟩, by rw [Prod.ext_iff]; exact ⟨by decide +kernel, rfl⟩⟩

theorem witness_BundlePhy_18 : ∃ (s : State) (v : State) (u : State) (b : Fin 4) (lanes : List LaneBits) (skewed : Nat) (bad : Nat),
    phyState s b = 6 ∧ s.get (FBL.PHY_STATUS_WIDTH b) = 0 ∧ s.deskew b (arrivals s b (lanesRead s b lanes)) (fun k => (laneBits s b k lanes).1) = (skewed, v) ∧ v.takeLanes b (lanesRead s b lanes) = (bad, u) ∧ (bad ||| skewed) &&& 0xFFFF ≠ 0 := by
  refine ⟨{ lab 3 [(FBL.PHY_STATUS_STATE 3, 6), (FBL.PHY_STATUS_WIDTH 3, 0)] with phys := [(3, { rx := [(15, { commas := 3, misses := 1 })] })] }, ((({ lab 3 [(FBL.PHY_STATUS_STATE 3, 6), (FBL.PHY_STATUS_WIDTH 3, 0)] with phys := [(3, { rx := [(15, { commas := 3, misses := 1 })] })] }) : State).deskew ((3) : Fin 4) (arrivals (({ lab 3 [(FBL.PHY_STATUS_STATE 3, 6), (FBL.PHY_STATUS_WIDTH 3, 0)] with phys := [(3, { rx := [(15, { commas := 3, misses := 1 })] })] }) : State) ((3) : Fin 4) (lanesRead (({ lab 3 [(FBL.PHY_STATUS_STATE 3, 6), (FBL.PHY_STATUS_WIDTH 3, 0)] with phys := [(3, { rx := [(15, { commas := 3, misses := 1 })] })] }) : State) ((3) : Fin 4) (([]) : List LaneBits))) (fun k => (laneBits (({ lab 3 [(FBL.PHY_STATUS_STATE 3, 6), (FBL.PHY_STATUS_WIDTH 3, 0)] with phys := [(3, { rx := [(15, { commas := 3, misses := 1 })] })] }) : State) ((3) : Fin 4) k (([]) : List LaneBits)).1)).2, (((((({ lab 3 [(FBL.PHY_STATUS_STATE 3, 6), (FBL.PHY_STATUS_WIDTH 3, 0)] with phys := [(3, { rx := [(15, { commas := 3, misses := 1 })] })] }) : State).deskew ((3) : Fin 4) (arrivals (({ lab 3 [(FBL.PHY_STATUS_STATE 3, 6), (FBL.PHY_STATUS_WIDTH 3, 0)] with phys := [(3, { rx := [(15, { commas := 3, misses := 1 })] })] }) : State) ((3) : Fin 4) (lanesRead (({ lab 3 [(FBL.PHY_STATUS_STATE 3, 6), (FBL.PHY_STATUS_WIDTH 3, 0)] with phys := [(3, { rx := [(15, { commas := 3, misses := 1 })] })] }) : State) ((3) : Fin 4) (([]) : List LaneBits))) (fun k => (laneBits (({ lab 3 [(FBL.PHY_STATUS_STATE 3, 6), (FBL.PHY_STATUS_WIDTH 3, 0)] with phys := [(3, { rx := [(15, { commas := 3, misses := 1 })] })] }) : State) ((3) : Fin 4) k (([]) : List LaneBits)).1)).2) : State).takeLanes ((3) : Fin 4) (lanesRead (({ lab 3 [(FBL.PHY_STATUS_STATE 3, 6), (FBL.PHY_STATUS_WIDTH 3, 0)] with phys := [(3, { rx := [(15, { commas := 3, misses := 1 })] })] }) : State) ((3) : Fin 4) (([]) : List LaneBits))).2, 3, [], 0, (2 ^ 15), ?_, ?_, by rw [Prod.ext_iff]; exact ⟨by decide +kernel, rfl⟩, by rw [Prod.ext_iff]; exact ⟨by decide +kernel, rfl⟩, ?_⟩
  all_goals and_intros <;> decide +kernel

theorem witness_BundlePhy_19 : ∃ (s : State) (b : Fin 4),
    phyState s b = 7 ∧ (chooseWidth s b).isSome = true ∧ (s.phy b).sub = 5 ∧ allLocked s b = true := by
  refine ⟨(({ lab 3 [(FBL.PHY_STATUS_STATE 0, 7), (FBL.PHY_STATUS_WIDTH 0, 1)] with phys := [(0, { sub := 5, rx := (List.range 8).map (fun l => (l, { commas := 3 })) })] } : State)).bundled 3, 0, ?_⟩
  and_intros <;> decide +kernel

theorem witness_BundlePhy_20 : ∃ (s : State) (b : Fin 4),
    phyState s b = 7 ∧ chooseWidth s b = none := ⟨(lab 3 [(FBL.PHY_STATUS_STATE 3, 7)]), 3, by decide +kernel, by decide +kernel⟩

theorem witness_BundlePhy_1 : ∃ (s : State) (r : State) (path : Path) (b : Fin 4) (val : Word) (rest : List CheckReq),
    s.img.checks = .enable ⟨path, FBL.PHY_CTRL b, val⟩ :: rest ∧ s.img.stalled = [] ∧ val.toNat.testBit 0 = true ∧ val.toNat.testBit 1 = false ∧ s.flag (FBL.PHY_CTRL_ENABLE b) = false ∧ r = { s with img := { s.img with checks := rest } } ∧ phyRefusal r b = 0 ∧ checkState r (liveRd r) = none := by
  refine ⟨{ aBundle with img := { aBundle.img with checks := [.enable ⟨.msp, FBL.PHY_CTRL 0, 1⟩] } }, aBundle, .msp, 0, 1, [], ?_, ?_, ?_, ?_, ?_, rfl, ?_, aBundle_passes⟩
  all_goals and_intros <;> decide +kernel

theorem witness_BundlePacketLength_0 : ∃ (p : Pkt) (q : Tfp) (c : Chan) (np : Bool),
    p.body = .tfp q c np := ⟨{ aPkt with body := .tfp (aTfp 1 (.req { op := 1 } [1, 2, 3, 4])) .req false }, (aTfp 1 (.req { op := 1 } [1, 2, 3, 4])), .req, false, by decide +kernel⟩

theorem witness_FramingErrorsEnterResync_0 : ∃ (s : State) (b : Fin 4) (c : Instr),
    llState s b = 2 ∧ ((∃ p : LinkPacket, c = .linkPacketReceive b p ∧ (p.resvd = true ∨ p.crcOk = false ∨ p.flits = 0 ∨ 136 < p.flits ∨ 32 * p.flits - 12 < p.pad)) ∨ c = .idleReceive b false ∨ (∃ q z, c = .ackReceive b q z false) ∨ (∃ q z r, c = .nakReceive b q z r false) ∨ (∃ z, c = .pauseReceive b z false) ∨ (∃ f n st, c = .replayReceive b f n st false) ∨ (∃ f, c = .trainReceive b f false)) := ⟨(lab 3 [(FBL.LL_STATUS_STATE 3, 2)]), 3, (.linkPacketReceive 3 ⟨.mgt, 137, 0, 0, false, true, aTfp 0x40 (.msg []), false⟩), by decide +kernel, .inl ⟨_, rfl, by decide⟩⟩

theorem witness_FramingErrorsEnterResync_0b : ∃ (s : State) (b : Fin 4) (c : Instr),
    llState s b = 2 ∧ ((∃ p : LinkPacket, c = .linkPacketReceive b p ∧ (p.resvd = true ∨ p.crcOk = false ∨ p.flits = 0 ∨ 136 < p.flits ∨ 32 * p.flits - 12 < p.pad)) ∨ c = .idleReceive b false ∨ (∃ q z, c = .ackReceive b q z false) ∨ (∃ q z r, c = .nakReceive b q z r false) ∨ (∃ z, c = .pauseReceive b z false) ∨ (∃ f n st, c = .replayReceive b f n st false) ∨ (∃ f, c = .trainReceive b f false)) := ⟨(lab 3 [(FBL.LL_STATUS_STATE 3, 2)]), 3, (.idleReceive 3 false), by decide +kernel, .inr (.inl rfl)⟩

theorem witness_FramingErrorsEnterResync_0c : ∃ (s : State) (b : Fin 4) (c : Instr),
    llState s b = 2 ∧ ((∃ p : LinkPacket, c = .linkPacketReceive b p ∧ (p.resvd = true ∨ p.crcOk = false ∨ p.flits = 0 ∨ 136 < p.flits ∨ 32 * p.flits - 12 < p.pad)) ∨ c = .idleReceive b false ∨ (∃ q z, c = .ackReceive b q z false) ∨ (∃ q z r, c = .nakReceive b q z r false) ∨ (∃ z, c = .pauseReceive b z false) ∨ (∃ f n st, c = .replayReceive b f n st false) ∨ (∃ f, c = .trainReceive b f false)) := ⟨(lab 3 [(FBL.LL_STATUS_STATE 3, 2)]), 3, (.trainReceive 3 {} false), by decide +kernel, .inr (.inr (.inr (.inr (.inr (.inr ⟨_, rfl⟩)))))⟩

theorem witness_LinkLayerFlits_0 : ∃ (s : State) (b : Fin 4) (p : LinkPacket),
    llState s b = 2 ∧ p.resvd = false ∧ p.crcOk = true ∧ 1 ≤ p.flits ∧ p.flits ≤ 136 ∧ p.pad ≤ 32 * p.flits - 12 ∧ p.seq = s.get (FBL.LL_RXSEQ_NEXT b) ∧ chanCells s b (chanType p.chan - 1) + cellsOf (32 * p.flits) ≤ s.get (FBL.LL_PAUSE_XOFF b (chanType p.chan - 1)) + 768 := by
  refine ⟨(lab 3 [(FBL.LL_STATUS_STATE 3, 2), (FBL.LL_RXSEQ_NEXT 3, 65535)]), 3, (⟨.mgt, 136, 0, 65535, false, true, aTfp 0x40 (.msg []), false⟩), ?_⟩
  and_intros <;> decide +kernel

theorem witness_LinkLayerFlits_1 : ∃ (s : State) (b : Fin 4),
    llState s b ≠ 0 := ⟨(lab 3 [(FBL.LL_STATUS_STATE 3, 1)]), 3, by decide +kernel⟩

theorem witness_LinkLayerFlits_2 : ∃ (s : State) (b : Fin 4) (seq : BitVec 16) (pause : BitVec 4) (e : Sent) (rest : List Sent),
    llState s b = 2 ∧ (s.link b).store = e :: rest ∧ seqSub seq.toNat e.seq < (s.link b).store.length ∧ ((s.link b).store.take (seqSub seq.toNat e.seq + 1)).all Sent.out = true := by
  refine ⟨(lab 3 [(FBL.LL_STATUS_STATE 3, 2)]).linked 3 { store := [aSent] }, 3, 0, 15, aSent, [], ?_⟩
  and_intros <;> decide +kernel

theorem witness_LinkLayerFlits_3 : ∃ (s : State) (b : Fin 4) (seq : BitVec 16) (pause : BitVec 4) (resync : Bool) (e : Sent) (rest : List Sent),
    llState s b = 2 ∧ (s.link b).store = e :: rest ∧ ((s.link b).store.any (fun x => x.seq = seq.toNat ∧ x.out) = true) ∧ replayPendingFor s b seq.toNat = false ∧ e.resends < s.get (FBL.LL_LIMIT_REPLAY_LIMIT b) ∧ e.retrained = false := by
  refine ⟨(lab 3 [(FBL.LL_STATUS_STATE 3, 2)]).linked 3 { store := [aSent], cursor := 1 }, 3, 0, 15, true, aSent, [], ?_⟩
  and_intros <;> decide +kernel

theorem witness_LinkLayerFlits_4 : ∃ (s : State) (b : Fin 4) (pause : BitVec 4),
    llState s b = 2 := ⟨(lab 3 [(FBL.LL_STATUS_STATE 3, 2)]), 3, 15, by decide +kernel⟩

theorem witness_LinkLayerFlits_5 : ∃ (s : State) (b : Fin 4) (first : BitVec 16) (count : BitVec 16),
    llState s b = 3 ∧ 1 ≤ count.toNat ∧ count.toNat ≤ 32767 := ⟨(lab 3 [(FBL.LL_STATUS_STATE 3, 3)]), 3, 5, 32767, by decide +kernel, by decide +kernel, by decide +kernel⟩

theorem witness_LinkLayerFlits_6 : ∃ (s : State) (b : Fin 4) (f : TrainFlit),
    (llState s b = 1 ∨ llState s b = 4) ∧ phyState s b = 6 ∧ f.state ≠ 3 ∧ f.proto ≠ 1 := by
  refine ⟨(lab 3 [(FBL.LL_STATUS_STATE 3, 4), (FBL.PHY_STATUS_STATE 3, 6)]), 3, { proto := 0 }, ?_⟩
  and_intros <;> decide +kernel

theorem witness_LinkLayerFlits_7 : ∃ (s : State) (b : Fin 4) (f : TrainFlit),
    llState s b = 1 ∧ phyState s b = 6 ∧ f.state = 0 ∧ f.proto = 1 ∧ f.role = bit (bundleRole s b [4]) ∧ (s.link b).readySent = false := by
  refine ⟨(lab 3 [(FBL.LL_STATUS_STATE 3, 1), (FBL.PHY_STATUS_STATE 3, 6)]), 3, {}, ?_⟩
  and_intros <;> decide +kernel

theorem witness_LinkLayerFlits_8 : ∃ (s : State) (b : Fin 4) (f : TrainFlit),
    llState s b = 1 ∧ phyState s b = 6 ∧ f.state = 2 ∧ f.proto = 1 ∧ f.role = bit (bundleRole s b [4]) ∧ (s.link b).readySent = true := by
  refine ⟨(lab 3 [(FBL.LL_STATUS_STATE 3, 1), (FBL.PHY_STATUS_STATE 3, 6)]).linked 3 { readySent := true }, 3, { state := 2 }, ?_⟩
  and_intros <;> decide +kernel

theorem witness_LinkLayerFlits_9 : ∃ (s : State) (b : Fin 4),
    (llState s b = 1 ∨ llState s b = 4) ∧ phyState s b = 6 ∧ s.due (s.link b).trainAt = true := ⟨{ (lab 3 [(FBL.LL_STATUS_STATE 3, 4), (FBL.PHY_STATUS_STATE 3, 6)]).linked 3 { trainAt := some 5 } with adv := 5 }, 3, by decide +kernel, by decide +kernel, by decide +kernel⟩

theorem witness_LinkLayerFlits_10 : ∃ (s : State) (b : Fin 4),
    phyState s b = 6 ∧ llState s b = 2 ∧ s.get (FBL.PHY_STATUS_WIDTH b) = 0 ∧ s.refreshPause b = s ∧ (s.link b).store = [] ∧ (s.link b).carry = [] ∧ (s.link b).replay = none ∧ (s.link b).nakDue = none ∧ (s.link b).pauseDue = false ∧ (s.link b).timeDue = [] := by
  refine ⟨(lab 3 [(FBL.LL_STATUS_STATE 3, 2), (FBL.PHY_STATUS_STATE 3, 6), (FBL.PHY_STATUS_WIDTH 3, 0)]), 3, ?_⟩
  and_intros <;> decide +kernel

theorem witness_LinkLayerTimersAndRestart_0 : ∃ (s : State) (b : Fin 4) (e : Sent) (rest : List Sent),
    (llState s b = 2 ∨ llState s b = 3) ∧ s.due (s.link b).replayDl = true ∧ (s.link b).store = e :: rest ∧ ((s.link b).store.any (fun x => x.seq = s.get (FBL.LL_TXSEQ_OLDEST b) ∧ x.out) = true) ∧ e.resends < s.get (FBL.LL_LIMIT_REPLAY_LIMIT b) ∧ e.retrained = false := by
  refine ⟨{ (lab 3 [(FBL.LL_STATUS_STATE 3, 3)]).linked 3 { store := [aSent], replayDl := some 5 } with adv := 5 }, 3, aSent, [], ?_⟩
  and_intros <;> decide +kernel

theorem witness_LinkLayerTimersAndRestart_1 : ∃ (s : State) (b : Fin 4),
    llState s b = 3 ∧ s.due (s.link b).resyncNak = true := ⟨{ (lab 3 [(FBL.LL_STATUS_STATE 3, 3)]).linked 3 { resyncNak := some 5 } with adv := 5 }, 3, by decide +kernel, by decide +kernel⟩

theorem witness_LinkLayerTimersAndRestart_2 : ∃ (s : State) (b : Fin 4),
    llState s b = 3 ∧ s.due (s.link b).resyncDl = true ∧ phyState s b = 6 := ⟨{ (lab 3 [(FBL.LL_STATUS_STATE 3, 3), (FBL.PHY_STATUS_STATE 3, 6)]).linked 3 { resyncDl := some 5 } with adv := 5 }, 3, by decide +kernel, by decide +kernel, by decide +kernel⟩

theorem witness_LinkLayerTimersAndRestart_3 : ∃ (s : State) (b : Fin 4),
    llState s b = 1 ∧ s.due (s.link b).initDl = true ∧ (s.link b).initTries < 2 ∧ phyState s b = 6 := by
  refine ⟨{ (lab 3 [(FBL.LL_STATUS_STATE 3, 1), (FBL.PHY_STATUS_STATE 3, 6)]).linked 3 { initDl := some 5, initTries := 1 } with adv := 5 }, 3, ?_⟩
  and_intros <;> decide +kernel

theorem witness_LinkLayerTimersAndRestart_4 : ∃ (s : State) (b : Fin 4),
    llState s b = 1 ∧ s.due (s.link b).initDl = true ∧ 2 ≤ (s.link b).initTries := ⟨{ (lab 3 [(FBL.LL_STATUS_STATE 3, 1), (FBL.PHY_STATUS_STATE 3, 6)]).linked 3 { initDl := some 5, initTries := 2 } with adv := 5 }, 3, by decide +kernel, by decide +kernel, by decide +kernel⟩

theorem witness_LinkLayerTimersAndRestart_5 : ∃ (s : State) (b : Fin 4),
    llState s b = 4 ∧ phyState s b ≠ 6 ∧ s.due (s.link b).retrainDl = true := ⟨{ (lab 3 [(FBL.LL_STATUS_STATE 3, 4), (FBL.PHY_STATUS_STATE 3, 2)]).linked 3 { retrainDl := some 5 } with adv := 5 }, 3, by decide +kernel, by decide +kernel, by decide +kernel⟩

theorem witness_LinkLayerTimersAndRestart_6 : ∃ (s : State) (b : Fin 4),
    (llState s b = 6 ∨ llState s b = 5) ∧ s.flag (FBL.LL_CTRL_AUTO_RESTART b) = true ∧ s.due (s.link b).holdDl = true := ⟨{ (lab 3 [(FBL.LL_STATUS_STATE 3, 5), (FBL.LL_CTRL_AUTO_RESTART 3, 1)]).linked 3 { holdDl := some 5 } with adv := 5 }, 3, by decide +kernel, by decide +kernel, by decide +kernel⟩

theorem witness_LinkLayerTimersAndRestart_7 : ∃ (s : State) (path : Path) (b : Fin 4),
    reaches s path (FBL.LL_CTRL b) = true ∧ (llState s b = 6 ∨ llState s b = 5) := ⟨(lab 3 [(FBL.LL_STATUS_STATE 3, 6)]), .msp, 3, by decide +kernel, by decide +kernel⟩

theorem witness_LinkLayerTimersAndRestart_8 : ∃ (s : State) (path : Path) (b : Fin 4),
    reaches s path (FBL.LL_CTRL b) = true ∧ llState s b ≠ 6 ∧ llState s b ≠ 5 := ⟨(lab 3 [(FBL.LL_STATUS_STATE 3, 2)]), .msp, 3, by decide +kernel, by decide +kernel, by decide +kernel⟩

theorem witness_LinkLayerTimersAndRestart_9 : ∃ (s : State) (b : Fin 4),
    s.due (s.link b).reenableDl = true ∧ phyRefusal s b = 0 ∧ phyState s b = 0 := ⟨{ (((lab 3 []).bundled 3).owned [⟨6, 0, 8, 0⟩]).linked 0 { reenableDl := some 5 } with adv := 5 }, 0, by decide +kernel, by decide +kernel, by decide +kernel⟩

theorem witness_LinkLayerTimersAndRestart_10 : ∃ (s : State) (path : Path) (b : Fin 4) (v : Fin 4) (val : Word),
    reaches s path (FBL.LL_PAUSE b v) = true ∧ pauseOk (fun u => if u = v.val then val else s.rd (FBL.LL_PAUSE b u)) = true := ⟨(lab 3 []), .msp, 3, 3, 0x07000800, by decide +kernel, by decide +kernel⟩

theorem witness_LinkLayerTimersAndRestart_11 : ∃ (s : State) (path : Path) (b : Fin 4) (v : Fin 4) (val : Word),
    reaches s path (FBL.LL_PAUSE b v) = true ∧ pauseOk (fun u => if u = v.val then val else s.rd (FBL.LL_PAUSE b u)) = false := ⟨(lab 3 []), .msp, 3, 3, 0, by decide +kernel, by decide +kernel⟩

theorem witness_LinkLayerTimersAndRestart_12 : ∃ (s : State) (path : Path) (b : Fin 4) (val : Word),
    reaches s path (FBL.LL_LIMIT b) = true ∧ fieldOf val 0 4 ≠ 0 ∧ fieldOf val 4 4 ≠ 0 ∧ fieldOf val 8 6 ≠ 0 := by
  refine ⟨(lab 3 []), .msp, 3, 0x111, ?_⟩
  and_intros <;> decide +kernel

theorem witness_LinkLayerTimersAndRestart_13 : ∃ (s : State) (path : Path) (b : Fin 4) (val : Word),
    reaches s path (FBL.LL_LIMIT b) = true ∧ (fieldOf val 0 4 = 0 ∨ fieldOf val 4 4 = 0 ∨ fieldOf val 8 6 = 0) := ⟨(lab 3 []), .msp, 3, 0x110, by decide +kernel, by decide +kernel⟩

theorem witness_BridgedTraffic_3 : ∃ (s : State) (u : State) (b : Fin 4) (p : Tfp) (a : AnsBody) (data : List Byte) (e : TagEntry),
    ArrivesHere s u b p 0x04 ∧ p.body = .ans a data ∧ a.status = 0 ∧ u.tag? p.hdr.xid = some e ∧ e.isOut = true ∧ e.xidGen = p.hdr.xidGen ∧ e.answered = false ∧ e.acked = false ∧ e.rem = none ∧ e.ingress < 96 ∧ u.flag (PORT.STATUS_SHED e.ingress) = false ∧ linkUp u e.ingress = true ∧ (∀ q ∈ u.core.pkts, atHead q = false) ∧ Shaped u := by
  refine ⟨{ bridging 3 [(PORT.STATUS_LINK_UP 95, 1), (PORT.CFG_ROLE 95, 0)] with brg := { tags := [(16383, some { isOut := true, xidGen := 15, rid := 7, tag := 9, ingress := 95 })] } }, ({ bridging 3 [(PORT.STATUS_LINK_UP 95, 1), (PORT.CFG_ROLE 95, 0)] with brg := { tags := [(16383, some { isOut := true, xidGen := 15, rid := 7, tag := 9, ingress := 95 })] } }).takeRx (3) (⟨{ kind := 4, dstDev := 5, xid := 16383, xidGen := 15 }, .ans { status := 0 } []⟩), 3, (⟨{ kind := 4, dstDev := 5, xid := 16383, xidGen := 15 }, .ans { status := 0 } []⟩), { status := 0 }, [], { isOut := true, xidGen := 15, rid := 7, tag := 9, ingress := 95 }, ?_, ?_, ?_, ?_, ?_, ?_, ?_, ?_, ?_, ?_, ?_, ?_, ?_, ⟨by decide +kernel, by decide +kernel⟩⟩
  all_goals and_intros <;> decide +kernel

theorem witness_BridgedTraffic_4 : ∃ (s : State) (u : State) (b : Fin 4) (p : Tfp) (a : AnsBody) (data : List Byte) (e : TagEntry) (w : Fin 2048),
    ArrivesHere s u b p 0x05 ∧ p.body = .ans a data ∧ a.status = 0 ∧ u.tag? p.hdr.xid = some e ∧ e.isOut = true ∧ e.xidGen = p.hdr.xidGen ∧ e.answered = false ∧ e.acked = true ∧ e.window = some w.val ∧ (∀ q ∈ u.core.pkts, atHead q = false) := by
  refine ⟨{ bridging 3 [] with brg := { tags := [(16383, some { isOut := true, xidGen := 15, rid := 7, tag := 9, ingress := 95, acked := true, window := some 2047 })] } }, ({ bridging 3 [] with brg := { tags := [(16383, some { isOut := true, xidGen := 15, rid := 7, tag := 9, ingress := 95, acked := true, window := some 2047 })] } }).takeRx (3) (⟨{ kind := 5, dstDev := 5, xid := 16383, xidGen := 15 }, .ans { status := 0 } []⟩), 3, (⟨{ kind := 5, dstDev := 5, xid := 16383, xidGen := 15 }, .ans { status := 0 } []⟩), { status := 0 }, [], { isOut := true, xidGen := 15, rid := 7, tag := 9, ingress := 95, acked := true, window := some 2047 }, 2047, ?_⟩
  and_intros <;> decide +kernel

theorem witness_BridgedTraffic_5 : ∃ (s : State) (u : State) (b : Fin 4) (p : Tfp) (a : AnsBody) (data : List Byte) (e : TagEntry) (w : Fin 2048),
    ArrivesHere s u b p 0x07 ∧ p.body = .ans a data ∧ u.tag? p.hdr.xid = some e ∧ e.isOut = true ∧ e.xidGen = p.hdr.xidGen ∧ e.answered = false ∧ e.acked = true ∧ e.window = some w.val ∧ (∀ q ∈ u.core.pkts, atHead q = false) := by
  refine ⟨{ bridging 3 [] with brg := { tags := [(16383, some { isOut := true, xidGen := 15, rid := 7, tag := 9, ingress := 95, acked := true, window := some 2047 })] } }, ({ bridging 3 [] with brg := { tags := [(16383, some { isOut := true, xidGen := 15, rid := 7, tag := 9, ingress := 95, acked := true, window := some 2047 })] } }).takeRx (3) (⟨{ kind := 7, dstDev := 5, xid := 16383, xidGen := 15 }, .ans { status := 4 } []⟩), 3, (⟨{ kind := 7, dstDev := 5, xid := 16383, xidGen := 15 }, .ans { status := 4 } []⟩), { status := 4 }, [], { isOut := true, xidGen := 15, rid := 7, tag := 9, ingress := 95, acked := true, window := some 2047 }, 2047, ?_⟩
  and_intros <;> decide +kernel

theorem witness_BridgedTraffic_6 : ∃ (s : State) (u : State) (b : Fin 4) (p : Tfp) (m : NoticeBody),
    ArrivesHere s u b p 0x06 ∧ p.body = .notice m ∧ m.window < 2047 ∧ u.flag (BRG.RWF_INFO_VALID (u.get (Win.PART m.window))) = false ∧ u.flag (BRG.RWF_CTRL_MSI_EN (u.get (Win.PART m.window))) = false := by
  refine ⟨(bridging 3 []), (bridging 3 []).takeRx (3) (aTfp 6 (.notice ⟨2046, 0, 1, 0⟩)), 3, (aTfp 6 (.notice ⟨2046, 0, 1, 0⟩)), (⟨2046, 0, 1, 0⟩), ?_⟩
  and_intros <;> decide +kernel

theorem witness_BridgedTraffic_7 : ∃ (s : State) (n : Fin 96) (m : Tlp) (r : NpRec) (h : TfpHdr) (acked : Bool) (x : Nat) (addr : Nat),
    npOf s n m = some r ∧ r.origin = .bridged h acked (some x) addr ∧ r.serial = serialOf s n ∧ cplLast m = true := by
  refine ⟨{ bridging 3 [] with core := { out := [⟨95, 0, 0, 0, .bridged { kind := 3 } false (some 3) 0, .memRd, 0, 0, 0⟩] } }, 95, { kind := .cpl }, (⟨95, 0, 0, 0, .bridged { kind := 3 } false (some 3) 0, .memRd, 0, 0, 0⟩), { kind := 3 }, false, 3, 0, ?_⟩
  and_intros <;> decide +kernel

theorem witness_BridgedTraffic_8 : ∃ (s : State) (n : Fin 96) (m : Tlp) (r : NpRec) (h : TfpHdr) (acked : Bool) (x : Option Nat) (addr : Nat),
    npOf s n m = some r ∧ r.origin = .bridged h acked x addr ∧ r.serial ≠ serialOf s n ∧ cplLast m = false := by
  refine ⟨{ bridging 3 [] with core := { out := [⟨95, 0, 0, 1, .bridged { kind := 3 } true none 0, .memRd, 0, 0, 0⟩] } }, 95, { kind := .cpl, byteCount := 8, lenDw := 1, data := [1, 2, 3, 4] }, (⟨95, 0, 0, 1, .bridged { kind := 3 } true none 0, .memRd, 0, 0, 0⟩), { kind := 3 }, true, none, 0, ?_⟩
  and_intros <;> decide +kernel

theorem witness_BridgedTraffic_9 : ∃ (s : State) (n : Fin 96) (m : Tlp) (r : NpRec) (h : TfpHdr) (acked : Bool) (x : Nat) (addr : Nat),
    npOf s n m = some r ∧ r.origin = .bridged h acked (some x) addr ∧ r.serial ≠ serialOf s n ∧ cplLast m = true := by
  refine ⟨{ bridging 3 [] with core := { out := [⟨95, 0, 0, 1, .bridged { kind := 3 } true (some 3) 0, .memRd, 0, 0, 0⟩] } }, 95, { kind := .cpl }, (⟨95, 0, 0, 1, .bridged { kind := 3 } true (some 3) 0, .memRd, 0, 0, 0⟩), { kind := 3 }, true, 3, 0, ?_⟩
  and_intros <;> decide +kernel

theorem witness_BridgedTraffic_0 : ∃ (s : State) (u : State) (b : Fin 4) (p : Tfp) (r : ReqBody) (data : List Byte) (n : Fin 96) (lock : Bool),
    ArrivesHere s u b p 0x01 ∧ IssuedTo u b p r data .memWr n lock := ⟨aBridge, aBridge, 3, (aRequest 1 1), { op := 1 }, [], 95, false, aBridge_arrives 1 1, aBridge_issues .memWr (.inr rfl) 1 1 rfl⟩

theorem witness_BridgedTraffic_1 : ∃ (s : State) (u : State) (b : Fin 4) (p : Tfp) (r : ReqBody) (data : List Byte) (n : Fin 96) (lock : Bool),
    ArrivesHere s u b p 0x02 ∧ IssuedTo u b p r data .memWr n lock := ⟨aBridge, aBridge, 3, (aRequest 2 1), { op := 1 }, [], 95, false, aBridge_arrives 2 1, aBridge_issues .memWr (.inr rfl) 1 2 rfl⟩

theorem witness_BridgedTraffic_2 : ∃ (s : State) (u : State) (b : Fin 4) (p : Tfp) (r : ReqBody) (data : List Byte) (n : Fin 96) (lock : Bool),
    ArrivesHere s u b p 0x03 ∧ IssuedTo u b p r data .memRd n lock := ⟨aBridge, aBridge, 3, (aRequest 3 0), { op := 0 }, [], 95, false, aBridge_arrives 3 0, aBridge_issues .memRd (.inl rfl) 0 3 rfl⟩

theorem witness_BridgeTablesAndDrains_0 : ∃ (s : State) (k : Nat) (p : Pkt) (e : TagEntry) (q : Tfp) (c : Chan) (np : Bool),
    s.pkt? k = some p ∧ atHead p = true ∧ npAhead s p = false ∧ p.need = some e ∧ e.window = none ∧ p.body = .tfp q c np ∧ entryFree s e = true ∧ s.get BRG.TAG_STATUS_OUT_USED + 1 < 2 ^ (BRG.TAG_STATUS_OUT_USED).n ∧ e.isOut = true := by
  refine ⟨(bridging 3 []).holding [{ aPkt with place := .tagWait, kind := 1, body := .tfp (aTfp 3 (.req { op := 0 } [])) .req true, need := some { isOut := true, xidGen := 0, rid := 7, tag := 9, ingress := 5 } }], 0, { aPkt with place := .tagWait, kind := 1, body := .tfp (aTfp 3 (.req { op := 0 } [])) .req true, need := some { isOut := true, xidGen := 0, rid := 7, tag := 9, ingress := 5 } }, { isOut := true, xidGen := 0, rid := 7, tag := 9, ingress := 5 }, (aTfp 3 (.req { op := 0 } [])), .req, true, ?_⟩
  and_intros <;> decide +kernel

theorem witness_BridgeTablesAndDrains_1 : ∃ (s : State) (k : Nat) (w : Nat) (n : Nat) (p : Pkt) (e : TagEntry),
    s.pkt? k = some p ∧ atHead p = true ∧ npAhead s p = false ∧ p.need = some e ∧ e.window = some w ∧ e.acked = false ∧ s.get (Win.MODE w) = 1 ∧ ackedAhead s w e.rid p.id = false ∧ fenced s w e.rid = true ∧ e.rem = none ∧ e.ingress = n ∧ n < 96 ∧ Shaped s := by
  refine ⟨{ (bridging 3 [(Win.MODE 2047, 1)]).holding [{ aPkt with place := .tagWait, kind := 1, need := some { isOut := true, xidGen := 0, rid := 7, tag := 9, ingress := 95, window := some 2047 } }] with brg := { fences := [(2047, [7])] } }, 0, 2047, 95, { aPkt with place := .tagWait, kind := 1, need := some { isOut := true, xidGen := 0, rid := 7, tag := 9, ingress := 95, window := some 2047 } }, { isOut := true, xidGen := 0, rid := 7, tag := 9, ingress := 95, window := some 2047 }, ?_, ?_, ?_, ?_, ?_, ?_, ?_, ?_, ?_, ?_, ?_, ?_, ⟨by decide +kernel, by decide +kernel⟩⟩
  all_goals and_intros <;> decide +kernel

theorem witness_BridgeTablesAndDrains_2 : ∃ (s : State) (path : Path) (w : Fin 2048),
    waitingAt s path = none ∧ answers s path (BRG.FENCE w) = true ∧ canRead s path (BRG.FENCE w) = true := ⟨(lab 3 []), .msp, 2047, by decide +kernel, by decide +kernel, by decide +kernel⟩

theorem witness_BridgeTablesAndDrains_3 : ∃ (s : State) (a : NoticeAcc),
    (s.brg.notices.find? (fun x => x.dev = a.dev ∧ x.window = a.window) = some a) ∧ a.due ≤ s.adv ∧ a.count = 0 := ⟨{ lab 3 [] with brg := { notices := [⟨9, 2046, 0, 0, 0, 5⟩] }, adv := 5 }, (⟨9, 2046, 0, 0, 0, 5⟩), by decide +kernel, by decide +kernel, by decide +kernel⟩

theorem witness_BridgeTablesAndDrains_4 : ∃ (s : State) (path : Path),
    reaches s path BRG.TAG_CTRL = true ∧ 3 ≤ s.mode ∧ 1024 ≤ s.get BRG.TAG_CTRL_IN_RESERVE ∧ s.get BRG.TAG_CTRL_IN_RESERVE ≤ 8192 ∧ s.flag BRG.STATUS_RECLAIM_BUSY = false ∧ s.brg.tags = [] := by
  refine ⟨(lab 3 []), .msp, ?_⟩
  and_intros <;> decide +kernel

theorem witness_BridgeTablesAndDrains_5 : ∃ (s : State),
    s.flag BRG.STATUS_RECLAIM_BUSY = true := ⟨(lab 3 [(BRG.STATUS_RECLAIM_BUSY, 1)]), by decide +kernel⟩

theorem witness_BridgeTablesAndDrains_6 : ∃ (s : State),
    s.brg.pollDue = true ∧ s.flag BRG.SB_CTRL_ENABLE = true ∧ 3 ≤ s.mode ∧ s.mode ≠ 7 ∧ watched s = [] := by
  refine ⟨{ lab 3 [(BRG.SB_CTRL_ENABLE, 1)] with brg := { pollDue := true } }, ?_⟩
  and_intros <;> decide +kernel

theorem witness_BridgeTablesAndDrains_7 : ∃ (s : State) (u : State) (b : Fin 4) (p : Tfp) (q : SbBody) (e : Nat),
    ArrivesHere s u b p 0x08 ∧ p.body = .sideband q ∧ q.port < 96 ∧ routeBundle u p.hdr.srcDev = some e := by
  refine ⟨(bridging 3 [(BRG.ROUTE_PRIMARY 9, 3), (FBL.LL_STATUS_STATE 3, 2)]), (bridging 3 [(BRG.ROUTE_PRIMARY 9, 3), (FBL.LL_STATUS_STATE 3, 2)]).takeRx (3) (aTfp 8 (.sideband { port := 95, seq := 1 })), 3, (aTfp 8 (.sideband { port := 95, seq := 1 })), { port := 95, seq := 1 }, 3, ?_⟩
  and_intros <;> decide +kernel

theorem witness_BridgeTablesAndDrains_8 : ∃ (s : State) (u : State) (b : Fin 4) (p : Tfp) (q : SbBody) (i : Fin 64),
    ArrivesHere s u b p 0x09 ∧ p.body = .sideband q ∧ ((watched u).filter (fun i => u.get (BRG.SB_WATCH_CFG_DEVID i) = p.hdr.srcDev ∧ u.get (BRG.SB_WATCH_CFG_PORTID i) = q.port) = [i.val]) := ⟨(bridging 3 [(BRG.SB_WATCH_CFG_VALID 63, 1), (BRG.SB_WATCH_CFG_DEVID 63, 9), (BRG.SB_WATCH_CFG_PORTID 63, 95)]), (bridging 3 [(BRG.SB_WATCH_CFG_VALID 63, 1), (BRG.SB_WATCH_CFG_DEVID 63, 9), (BRG.SB_WATCH_CFG_PORTID 63, 95)]).takeRx (3) (aTfp 9 (.sideband { port := 95, seq := 1 })), 3, (aTfp 9 (.sideband { port := 95, seq := 1 })), { port := 95, seq := 1 }, 63, by decide +kernel, by decide +kernel, by decide +kernel⟩

theorem witness_BridgeTablesAndDrains_13 : ∃ (s : State) (path : Path) (b : Fin 4),
    reaches s path (BRG.BUNDLE_DRAIN_CTRL b) = true ∧ 3 ≤ s.mode ∧ s.flag (BRG.BUNDLE_DRAIN_STATUS_SHED b) = false ∧ s.flag (BRG.BUNDLE_DRAIN_STATUS_RESERVED_SW b) = false ∧ s.get (BRG.BUNDLE_DRAIN_STATUS_STATE b) = 0 := by
  refine ⟨(lab 3 []), .msp, 3, ?_⟩
  and_intros <;> decide +kernel

theorem witness_BridgeTablesAndDrains_14 : ∃ (s : State) (path : Path) (b : Fin 4),
    reaches s path (BRG.BUNDLE_DRAIN_CTRL b) = true ∧ 3 ≤ s.mode ∧ s.flag (BRG.BUNDLE_DRAIN_STATUS_SHED b) = false ∧ s.flag (BRG.BUNDLE_DRAIN_STATUS_RESERVED_SW b) = false ∧ (s.get (BRG.BUNDLE_DRAIN_STATUS_STATE b) = 1 ∨ s.get (BRG.BUNDLE_DRAIN_STATUS_STATE b) = 2) := by
  refine ⟨(lab 3 [(BRG.BUNDLE_DRAIN_STATUS_STATE 3, 1)]), .msp, 3, ?_⟩
  and_intros <;> decide +kernel

theorem witness_BridgeTablesAndDrains_15 : ∃ (s : State) (b : Fin 4),
    s.get (BRG.BUNDLE_DRAIN_STATUS_STATE b) = 1 ∧ s.core.pkts.any (queuedFor (112 + b.val)) = false ∧ (s.link b).store = [] := ⟨(lab 3 [(BRG.BUNDLE_DRAIN_STATUS_STATE 3, 1)]), 3, by decide +kernel, by decide +kernel, by decide +kernel⟩

theorem witness_BridgeTablesAndDrains_16 : ∃ (s : State) (b : Fin 4),
    s.get (BRG.BUNDLE_DRAIN_STATUS_STATE b) = 1 ∧ s.due (SMap.get (fun _ => none) s.brg.drainDl b) = true := ⟨{ lab 3 [(BRG.BUNDLE_DRAIN_STATUS_STATE 3, 1)] with brg := { drainDl := [(3, some 5)] }, adv := 5 }, 3, by decide +kernel, by decide +kernel⟩

theorem witness_BridgeTablesAndDrains_11 : ∃ (s : State) (x : Fin 16384) (e : TagEntry) (w : Fin 2048),
    s.tag? x = some e ∧ e.isOut = true ∧ e.answered = false ∧ e.acked = true ∧ e.window = some w.val ∧ (∀ q ∈ s.core.pkts, atHead q = false) := by
  refine ⟨{ lab 3 [] with brg := { tags := [(16383, some { isOut := true, xidGen := 15, rid := 7, tag := 9, ingress := 95, acked := true, window := some 2047 })] } }, 16383, { isOut := true, xidGen := 15, rid := 7, tag := 9, ingress := 95, acked := true, window := some 2047 }, 2047, ?_⟩
  and_intros <;> decide +kernel

theorem witness_HostConfiguration_0 : ∃ (s : State) (p : Fin 32) (d : Fin 32) (sec : Byte) (sub : Byte),
    s.mode ≠ 7 ∧ d.val ≠ 0 ∧ s.get (PART.VDSP_KIND p d) ≠ 0 ∧ busOk s p sec.toNat = true ∧ busOk s p sub.toNat = true := by
  refine ⟨(lab 3 [(PART.VDSP_KIND 31 31, 1)]), 31, 31, 255, 255, ?_⟩
  and_intros <;> decide +kernel

theorem witness_HostConfiguration_1 : ∃ (s : State) (p : Fin 32) (d : Fin 32) (sec : Byte) (sub : Byte),
    s.mode ≠ 7 ∧ d.val = 0 ∧ busOk s p sec.toNat = false ∧ busOk s p sub.toNat = true := by
  refine ⟨(lab 3 [(PART.TABLE_CTRL_VALID 31, 1), (PART.TABLE_BUS_BUS_FIRST 31, 5), (PART.TABLE_BUS_BUS_LAST 31, 9)]), 31, 0, 4, 9, ?_⟩
  and_intros <;> decide +kernel

theorem witness_HostConfiguration_2 : ∃ (s : State) (n : Fin 96) (m : Tlp),
    upAlive s n = true ∧ m.kind = .cfgRd ∧ cfgHit s (s.get (PORT.CFG_PART n)) m = .own (33 * s.get (PORT.CFG_PART n)) ∧ s.get (PORT.STATUS_DRAIN_STATE n) = 0 ∧ s.flag (PORT.STATUS_SHED n) = false ∧ Shaped s := by
  refine ⟨{ lab 3 [(PORT.CFG_ROLE 95, 1), (PORT.CFG_PART 95, 31), (PORT.STATUS_LINK_UP 95, 1), (PORT.STATUS_DRAIN_STATE 95, 0)] with cfg := [(1024 * upFn 31 + 6, 0xFF0100)] }, 95, { kind := .cfgRd, cfgType1 := true, dest := 0x100 }, ?_, ?_, ?_, ?_, ?_, ⟨by decide +kernel, by decide +kernel⟩⟩
  all_goals and_intros <;> decide +kernel

theorem witness_HostConfiguration_3 : ∃ (s : State) (n : Fin 96) (m : Tlp),
    upAlive s n = true ∧ m.kind = .cfgRd ∧ cfgHit s (s.get (PORT.CFG_PART n)) m = .placeholder ∧ s.mode ≠ 5 ∧ s.get (PORT.STATUS_DRAIN_STATE n) = 0 ∧ s.flag (PORT.STATUS_SHED n) = false ∧ Shaped s := by
  refine ⟨aBound, 95, { kind := .cfgRd, cfgType1 := true, dest := 0x200 }, ?_, ?_, by rw [aBound_part]; exact aBound_placeholder, ?_, ?_, ?_, ⟨by decide +kernel, by decide +kernel⟩⟩
  all_goals and_intros <;> decide +kernel

theorem witness_HostConfiguration_4 : ∃ (s : State) (n : Fin 96) (m : Tlp) (i : Nat) (b : BindEnt),
    upAlive s n = true ∧ m.kind = .cfgRd ∧ cfgHit s (s.get (PORT.CFG_PART n)) m = .bound i b ∧ m.ide = false ∧ 4 ≤ m.dword ∧ m.dword ≤ 9 ∧ s.mode ≠ 5 ∧ s.get (PORT.STATUS_DRAIN_STATE n) = 0 ∧ s.flag (PORT.STATUS_SHED n) = false ∧ Shaped s := by
  refine ⟨aBound, 95, { kind := .cfgRd, cfgType1 := true, dest := 0x201, dword := 4 }, 0, (rdBind (liveRd aBound) 0), ?_, ?_, by rw [aBound_part]; exact aBound_function (.inr rfl), ?_, ?_, ?_, ?_, ?_, ?_, ⟨by decide +kernel, by decide +kernel⟩⟩
  all_goals and_intros <;> decide +kernel

theorem witness_HostConfiguration_5 : ∃ (s : State) (n : Fin 96) (m : Tlp) (i : Nat) (b : BindEnt),
    upAlive s n = true ∧ isConfig m = true ∧ cfgHit s (s.get (PORT.CFG_PART n)) m = .bound i b ∧ m.ide = false ∧ (m.dword < 4 ∨ 9 < m.dword) ∧ m.dword ≠ 12 ∧ b.target < 96 ∧ targetRefusal s b.target = none ∧ s.mode ≠ 5 ∧ s.get (PORT.STATUS_DRAIN_STATE n) = 0 ∧ Shaped s := by
  refine ⟨aBound, 95, { kind := .cfgRd, cfgType1 := true, dest := 0x201 }, 0, (rdBind (liveRd aBound) 0), ?_, ?_, by rw [aBound_part]; exact aBound_function (.inl rfl), ?_, ?_, ?_, ?_, ?_, ?_, ?_, ⟨by decide +kernel, by decide +kernel⟩⟩
  all_goals and_intros <;> decide +kernel

theorem witness_RingsAndDescriptors_0 : ∃ (s : State) (path : Path) (r : Fin 64),
    reaches s path (RMA.RING_CTRL r) = true ∧ s.flag (RMA.RING_CTRL_ENABLE r) = false := ⟨(lab 3 []), .msp, 63, by decide +kernel, by decide +kernel⟩

theorem witness_RingsAndDescriptors_2 : ∃ (s : State) (path : Path) (r : Fin 64) (val : Word) (rest : List CheckReq),
    s.img.checks = .enable ⟨path, RMA.RING_CTRL r, val⟩ :: rest ∧ s.img.stalled = [] ∧ s.flag (RMA.RING_CTRL_ENABLE r) = false ∧ val.toNat.testBit 0 = true ∧ (s.flag (RMA.RING_OWNER_VALID r) = false ∨ s.mode < 3) := by
  refine ⟨{ lab 2 [(RMA.RING_OWNER_VALID 63, 1)] with img := { checks := [.enable ⟨.msp, RMA.RING_CTRL 63, 1⟩] } }, .msp, 63, 1, [], ?_⟩
  and_intros <;> decide +kernel

theorem witness_RingsAndDescriptors_3 : ∃ (s : State) (path : Path) (r : Fin 64),
    reaches s path (RMA.RING_CTRL r) = true ∧ s.flag (RMA.RING_OWNER_VALID r) = true ∧ s.flag (RMA.RING_CTRL_ENABLE r) = true ∧ checkPending s (RMA.RING_CTRL r) = false := by
  refine ⟨(lab 3 [(RMA.RING_OWNER_VALID 63, 1), (RMA.RING_CTRL_ENABLE 63, 1)]), .msp, 63, ?_⟩
  and_intros <;> decide +kernel

theorem witness_RingsAndDescriptors_4 : ∃ (s : State) (path : Path) (r : Fin 64) (tail : BitVec 16),
    reaches s path (RMA.RING_SQ_TAIL r) = true := ⟨(lab 3 []), .msp, 63, 65535, by decide +kernel⟩

theorem witness_RingsAndDescriptors_5 : ∃ (s : State) (r : Fin 64) (bytes : List Byte) (x : RmaRead),
    s.rma.reads.find? (fun y => y.what = 0 && y.ring = r.val) = some x ∧ s.rma.reads.find? (fun y => y.tag = x.tag) = some x ∧ readQueued s (.rmaRead x.tag) = false ∧ 64 ≤ bytes.length ∧ x.len = 64 ∧ x.got = [] := by
  refine ⟨{ lab 3 [] with rma := { reads := [{ tag := 5, port := 1, rid := 0, what := 0, ring := 63, addr := 0, len := 64 }] } }, 63, (List.replicate 64 0), { tag := 5, port := 1, rid := 0, what := 0, ring := 63, addr := 0, len := 64 }, ?_⟩
  and_intros <;> decide +kernel

theorem witness_RingsAndDescriptors_6 : ∃ (s : State) (tag : Nat) (data : List Byte) (x : RmaRead),
    readQueued s (.rmaRead tag) = false ∧ s.rma.reads.find? (fun y => y.tag = tag) = some x ∧ x.what = 1 ∧ x.got = [] ∧ x.len ≤ data.length := by
  refine ⟨{ lab 3 [] with rma := { reads := [{ tag := 5, port := 1, rid := 0, what := 1, addr := 0, len := 4 }] } }, 5, [1, 2, 3, 4], { tag := 5, port := 1, rid := 0, what := 1, addr := 0, len := 4 }, ?_⟩
  and_intros <;> decide +kernel

theorem witness_RingsAndDescriptors_7 : ∃ (s : State) (tag : Nat) (status : HostStatus) (data : List Byte) (x : RmaRead),
    status ≠ .ok ∧ readQueued s (.rmaRead tag) = false ∧ s.rma.reads.find? (fun y => y.tag = tag) = some x ∧ x.what = 1 := by
  refine ⟨{ lab 3 [] with rma := { reads := [{ tag := 5, port := 1, rid := 0, what := 1, addr := 0, len := 4 }] } }, 5, .ca, [], { tag := 5, port := 1, rid := 0, what := 1, addr := 0, len := 4 }, ?_⟩
  and_intros <;> decide +kernel

theorem witness_RingsAndDescriptors_8 : ∃ (s : State) (u : State) (c : Fin 1024) (w : Work) (i : Nat) (g : Seg),
    u = s.rmaPump ∧ nextSeg u c = some (w, i, g) ∧ rmaCarries u = true ∧ (u.conn c).state = 2 ∧ (w.op = 2 ∨ g.len ≤ (joinParts g.parts).length) ∧ (cryptoKey u c false (u.conn c).phase).isSome = true ∧ (u.conn c).unacked.find? (fun x => x.kind = 0) = none ∧ (u.conn c).unacked.length < 1024 ∧ (match (u.conn c).unacked with | x :: _ => psnSub (u.conn c).psn x.psn | [] => 0) < 1024 ∧ psnSub (u.conn c).peerLimit ((u.conn c).sentBlocks + blocksNeeded w.op g.len) < 2 ^ 23 ∧ u.get BRG.RSP_BUDGET_USED + (if w.op = 1 then 1 else 2 * ceilDiv g.len 64) ≤ u.get BRG.RSP_BUDGET_CELLS := by
  refine ⟨{ bridging 3 [(BRG.RSP_BUDGET_CELLS, 100)] with rma := { works := [{ id := 0, ring := 63, index := 0, op := 2, conn := 1023, started := true, segs := [⟨0, 0, 64, none, false, []⟩] }], conns := [(1023, { state := 2, peerLimit := 100 })], crypto := [(4092, some [])] } }, _, 1023, { id := 0, ring := 63, index := 0, op := 2, conn := 1023, started := true, segs := [⟨0, 0, 64, none, false, []⟩] }, 0, (⟨0, 0, 64, none, false, []⟩), rfl, ?_⟩
  all_goals and_intros <;> decide +kernel

theorem witness_RingsAndDescriptors_9 : ∃ (s : State) (u : State) (r : Fin 64) (w : Work) (st : Nat),
    u = s.rmaPump ∧ u.flag (RMA.RING_STATUS_RUNNING r) = true ∧ rmaCarries u = true ∧ (u.get (RMA.RING_CQ_TAIL_COUNT r) + 65536 - u.get (RMA.RING_CQ_HEAD_COUNT r)) % 65536 < ringSize u r ∧ (u.ring r).events = [] ∧ u.rma.works.find? (fun x => x.ring = r.val && x.index = (u.ring r).done) = some w ∧ w.status = some st ∧ w.ckpt = none ∧ (w.op = 3 ∨ u.flag (ConnW.FO_DEFER w.conn) = false) := by
  refine ⟨{ bridging 3 [(RMA.RING_STATUS_RUNNING 63, 1), (RMA.RING_CTRL_SIZE_EXP 63, 4)] with rma := { works := [{ id := 0, ring := 63, index := 0, op := 3, started := true, status := some 0 }] } }, _, 63, { id := 0, ring := 63, index := 0, op := 3, started := true, status := some 0 }, 0, rfl, ?_⟩
  all_goals and_intros <;> decide +kernel

theorem witness_RingsAndDescriptors_10 : ∃ (s : State) (u : State) (r : Fin 64) (e : RingEvent) (rest : List RingEvent),
    u = s.rmaPump ∧ u.flag (RMA.RING_STATUS_RUNNING r) = true ∧ rmaCarries u = true ∧ (u.get (RMA.RING_CQ_TAIL_COUNT r) + 65536 - u.get (RMA.RING_CQ_HEAD_COUNT r)) % 65536 < ringSize u r ∧ (u.ring r).events = e :: rest := by
  refine ⟨{ bridging 3 [(RMA.RING_STATUS_RUNNING 63, 1), (RMA.RING_CTRL_SIZE_EXP 63, 4)] with rma := { rings := [(63, { events := [⟨5, 0⟩] })] } }, _, 63, (⟨5, 0⟩), [], rfl, ?_⟩
  all_goals and_intros <;> decide +kernel

theorem witness_RingsAndDescriptors_1 : ∃ (s : State) (u : State) (path : Path) (r : Fin 64) (val : Word) (rest : List CheckReq),
    s.img.checks = .enable ⟨path, RMA.RING_CTRL r, val⟩ :: rest ∧ s.img.stalled = [] ∧ u = { s with img := { s.img with checks := rest } } ∧ s.flag (RMA.RING_CTRL_ENABLE r) = false ∧ val.toNat.testBit 0 = true ∧ s.flag (RMA.RING_OWNER_VALID r) = true ∧ 3 ≤ s.mode ∧ s.mode ≠ 7 ∧ 4 ≤ fieldOf val 1 5 ∧ fieldOf val 1 5 ≤ 15 ∧ checkState u (liveRd u) = none := by
  refine ⟨{ aRing with img := { aRing.img with checks := [.enable ⟨.msp, RMA.RING_CTRL 63, 31⟩] } }, aRing, .msp, 63, 31, [], ?_, ?_, rfl, ?_, ?_, ?_, ?_, ?_, ?_, ?_, by exact aRing_passes⟩
  all_goals and_intros <;> decide +kernel

theorem witness_KeysConnectionsAndCrypto_0 : ∃ (s : State) (path : Path) (p : Fin 32) (i : Nat),
    reaches s path (RMA.KEYCMD_CMD p) = true ∧ s.get (RMA.KEYCMD_INDEX_INDEX p) = i ∧ inPool s p i = true ∧ (s.memKey i).state ≠ 1 ∧ (s.memKey i).state ≠ 2 ∧ s.flag (RMA.RING_OWNER_VALID (s.get (RMA.KEYCMD_PASID_RING p))) = true ∧ s.get (RMA.RING_OWNER_PART (s.get (RMA.KEYCMD_PASID_RING p))) = p := by
  refine ⟨(lab 3 [(RMA.KEY_POOL_BASE 31, 4095), (RMA.KEY_POOL_COUNT 31, 1), (RMA.KEYCMD_INDEX_INDEX 31, 4095), (RMA.KEYCMD_PASID_RING 31, 63), (RMA.RING_OWNER_VALID 63, 1), (RMA.RING_OWNER_PART 63, 31)]), .msp, 31, 4095, ?_⟩
  and_intros <;> decide +kernel

theorem witness_KeysConnectionsAndCrypto_1 : ∃ (s : State) (path : Path) (p : Fin 32) (i : Nat),
    reaches s path (RMA.KEYCMD_CMD p) = true ∧ s.get (RMA.KEYCMD_INDEX_INDEX p) = i ∧ inPool s p i = true ∧ (s.memKey i).state = 1 := by
  refine ⟨{ lab 3 [(RMA.KEY_POOL_BASE 31, 4095), (RMA.KEY_POOL_COUNT 31, 1), (RMA.KEYCMD_INDEX_INDEX 31, 4095)] with rma := { keys := [(4095, { state := 1 })] } }, .msp, 31, 4095, ?_⟩
  and_intros <;> decide +kernel

theorem witness_KeysConnectionsAndCrypto_2 : ∃ (s : State) (path : Path) (p : Fin 32) (i : Nat),
    reaches s path (RMA.KEYCMD_CMD p) = true ∧ s.get (RMA.KEYCMD_INDEX_INDEX p) = i ∧ inPool s p i = true ∧ (s.memKey i).state = 3 := by
  refine ⟨{ lab 3 [(RMA.KEY_POOL_BASE 31, 4095), (RMA.KEY_POOL_COUNT 31, 1), (RMA.KEYCMD_INDEX_INDEX 31, 4095)] with rma := { keys := [(4095, { state := 3 })] } }, .msp, 31, 4095, ?_⟩
  and_intros <;> decide +kernel

theorem witness_KeysConnectionsAndCrypto_3 : ∃ (s : State) (path : Path) (p : Fin 32) (c : Instr),
    (c = .keyRegister path p ∨ c = .keyRevoke path p ∨ c = .keyFree path p) ∧ reaches s path (RMA.KEYCMD_CMD p) = true ∧ inPool s p (s.get (RMA.KEYCMD_INDEX_INDEX p)) = false := ⟨(lab 3 []), .msp, 31, (.keyFree .msp 31), by decide +kernel, by decide +kernel, by decide +kernel⟩

theorem witness_KeysConnectionsAndCrypto_3b : ∃ (s : State) (path : Path) (p : Fin 32) (c : Instr),
    (c = .keyRegister path p ∨ c = .keyRevoke path p ∨ c = .keyFree path p) ∧ reaches s path (RMA.KEYCMD_CMD p) = true ∧ inPool s p (s.get (RMA.KEYCMD_INDEX_INDEX p)) = false := ⟨(lab 3 []), .msp, 31, (.keyRegister .msp 31), by decide +kernel, by decide +kernel, by decide +kernel⟩

theorem witness_KeysConnectionsAndCrypto_4 : ∃ (s : State) (path : Path) (p : Fin 32) (val : Word),
    reaches s path (RMA.KEY_POOL p) = true ∧ fieldOf val 0 12 + fieldOf val 12 13 ≤ 4096 ∧ (∀ q : Fin 32, q ≠ p → fieldOf val 12 13 = 0 ∨ s.get (RMA.KEY_POOL_COUNT q) = 0 ∨ fieldOf val 0 12 + fieldOf val 12 13 ≤ s.get (RMA.KEY_POOL_BASE q) ∨ s.get (RMA.KEY_POOL_BASE q) + s.get (RMA.KEY_POOL_COUNT q) ≤ fieldOf val 0 12) ∧ (∀ e ∈ s.rma.keys, e.2.state = 0 ∨ inPool s p e.1 = false ∨ (fieldOf val 0 12 ≤ e.1 ∧ e.1 < fieldOf val 0 12 + fieldOf val 12 13)) := by
  refine ⟨(lab 3 []), .msp, 31, 0x01000000, ?_⟩
  and_intros <;> decide +kernel

theorem witness_KeysConnectionsAndCrypto_5 : ∃ (s : State) (path : Path) (p : Fin 32) (val : Word),
    reaches s path (RMA.KEY_POOL p) = true ∧ 4096 < fieldOf val 0 12 + fieldOf val 12 13 := ⟨(lab 3 []), .msp, 31, 0x01000001, by decide +kernel, by decide +kernel⟩

theorem witness_KeysConnectionsAndCrypto_6 : ∃ (s : State) (path : Path) (k : Fin 4) (val : Word),
    reaches s path (RMA.CONN_DATA0 + 4 * k.val) = true := ⟨(lab 3 []), .msp, 3, 5, by decide +kernel⟩

theorem witness_KeysConnectionsAndCrypto_7 : ∃ (s : State) (path : Path) (c : Nat),
    reaches s path RMA.CONN_CMD = true ∧ s.get RMA.CONN_SEL_INDEX = c ∧ openRefusal s c = 0 := ⟨{ bridging 3 [(RMA.CONN_SEL_INDEX, 1023), (ConnW.REMOTE_DEVID 1023, 9), (ConnW.RETRY_LIMIT 1023, 1), (ConnW.RTO_US 1023, 1), (BRG.ROUTE_PRIMARY 9, 3), (BRG.ROUTE_ALTERNATE 9, 7)] with rma := { crypto := [(4092, some []), (4094, some [])] } }, .msp, 1023, by decide +kernel, by decide +kernel, by decide +kernel⟩

theorem witness_KeysConnectionsAndCrypto_8 : ∃ (s : State) (path : Path) (c : Nat),
    reaches s path RMA.CONN_CMD = true ∧ s.get RMA.CONN_SEL_INDEX = c ∧ openRefusal s c ≠ 0 := ⟨(bridging 3 [(RMA.CONN_SEL_INDEX, 1023)]), .msp, 1023, by decide +kernel, by decide +kernel, by decide +kernel⟩

theorem witness_KeysConnectionsAndCrypto_9 : ∃ (s : State) (path : Path) (c : Nat),
    reaches s path RMA.CONN_CMD = true ∧ s.get RMA.CONN_SEL_INDEX = c ∧ (s.conn c).state ≠ 0 ∧ (s.conn c).state ≠ 5 := by
  refine ⟨{ lab 3 [(RMA.CONN_SEL_INDEX, 1023)] with rma := { conns := [(1023, { state := 4 })] } }, .msp, 1023, ?_⟩
  and_intros <;> decide +kernel

theorem witness_KeysConnectionsAndCrypto_10 : ∃ (s : State) (c : Fin 1024),
    (s.conn c).state = 5 ∧ s.rma.serving.any (fun x => x.conn = c.val) = false := ⟨{ lab 3 [] with rma := { conns := [(1023, { state := 5 })] } }, 1023, by decide +kernel, by decide +kernel⟩

theorem witness_KeysConnectionsAndCrypto_11 : ∃ (s : State) (path : Path) (c : Nat),
    reaches s path RMA.CONN_CMD = true ∧ s.get RMA.CONN_SEL_INDEX = c ∧ ((s.conn c).state = 2 ∨ (s.conn c).state = 3) ∧ (cryptoKey s c false ((s.conn c).phase + 1)).isSome = true := by
  refine ⟨{ lab 3 [(RMA.CONN_SEL_INDEX, 1023)] with rma := { conns := [(1023, { state := 3 })], crypto := [(4093, some [])] } }, .msp, 1023, ?_⟩
  and_intros <;> decide +kernel

theorem witness_KeysConnectionsAndCrypto_12 : ∃ (s : State) (path : Path),
    reaches s path RMA.CRYPTO_SEL = true ∧ selInUse s (s.rd RMA.CRYPTO_SEL) = false := ⟨(lab 3 []), (.pcie 0 0), by decide +kernel, by decide +kernel⟩

theorem witness_KeysConnectionsAndCrypto_13 : ∃ (s : State) (path : Path),
    reaches s path RMA.CRYPTO_SEL = true ∧ selInUse s (s.rd RMA.CRYPTO_SEL) = false := ⟨(lab 3 []), (.pcie 0 0), by decide +kernel, by decide +kernel⟩

theorem witness_KeysConnectionsAndCrypto_14 : ∃ (s : State) (path : Path) (c : Instr),
    (c = .cryptoLoad path ∨ c = .cryptoZero path) ∧ reaches s path RMA.CRYPTO_SEL = true ∧ selInUse s (s.rd RMA.CRYPTO_SEL) = true := ⟨{ lab 3 [(RMA.CRYPTO_SEL_CONN, 1023)] with rma := { conns := [(1023, { state := 2 })] } }, (.pcie 0 0), (.cryptoLoad (.pcie 0 0)), by decide +kernel, by decide +kernel, by decide +kernel⟩

theorem witness_KeysConnectionsAndCrypto_19 : ∃ (s : State) (c : Fin 1024) (rx : Bool) (phase : Bool),
    (s.conn c).state = 0 := ⟨(lab 3 []), 1023, true, true, by decide +kernel⟩

theorem witness_KeysConnectionsAndCrypto_17 : ∃ (s : State) (c : Fin 1024),
    (s.conn c).state ≠ 0 ∧ (s.conn c).state ≠ 4 := ⟨{ lab 3 [] with rma := { conns := [(1023, { state := 2 })] } }, 1023, by decide +kernel, by decide +kernel⟩

theorem witness_RmaPacketsAndTimers_0 : ∃ (s : State) (u : State) (b : Fin 4) (p : Tfp) (r : RmaHdr) (cipher : List Byte) (tag : List Byte),
    RmaArrives s u b p 0x20 r cipher tag ∧ openRma u p r cipher tag = none ∧ u.flag RMA.AUTH_REC_VALID = true := ⟨(bridging 3 [(RMA.AUTH_REC_VALID, 1)]), (bridging 3 [(RMA.AUTH_REC_VALID, 1)]).takeRx (3) (aTfp 0x20 (.rma ⟨1023, 1, 0, false, 0, 0⟩ [] [])), 3, (aTfp 0x20 (.rma ⟨1023, 1, 0, false, 0, 0⟩ [] [])), (⟨1023, 1, 0, false, 0, 0⟩), [], [], by decide +kernel, by decide +kernel, by decide +kernel⟩

theorem witness_RmaPacketsAndTimers_3 : ∃ (s : State) (u : State) (b : Fin 4) (p : Tfp),
    0x27 ≤ p.hdr.kind ∧ p.hdr.kind ≤ 0x3F ∧ u = s.takeRx b p := ⟨(bridging 3 []), (bridging 3 []).takeRx (3) (aTfp 0x3F (.rma ⟨1023, 1, 0, false, 0, 0⟩ [] [])), 3, (aTfp 0x3F (.rma ⟨1023, 1, 0, false, 0, 0⟩ [] [])), by decide +kernel, by decide +kernel, by decide +kernel⟩

theorem witness_RmaPacketsAndTimers_4 : ∃ (s : State) (x : RmaRx) (rest : List RmaRx),
    s.rma.staging = x :: rest ∧ rmaCarries s = true ∧ keyRefusal s x ≠ 0 ∧ x.conn < 1024 := by
  refine ⟨{ bridging 3 [] with rma := { staging := [⟨0, 1023, 0, false, 4095, 0, 0, 4, false, [], 0, 0, []⟩] } }, (⟨0, 1023, 0, false, 4095, 0, 0, 4, false, [], 0, 0, []⟩), [], ?_⟩
  and_intros <;> decide +kernel

theorem witness_RmaPacketsAndTimers_5 : ∃ (s : State) (x : RmaRx) (rest : List RmaRx),
    s.rma.staging = x :: rest ∧ rmaCarries s = true ∧ keyRefusal s x = 0 := ⟨{ bridging 3 [] with rma := { staging := [⟨0, 1023, 0, false, 4095, 0, 0, 4, false, [], 0, 0, []⟩], keys := [(4095, { state := 1, write := true })] } }, (⟨0, 1023, 0, false, 4095, 0, 0, 4, false, [], 0, 0, []⟩), [], by decide +kernel, by decide +kernel, by decide +kernel⟩

theorem witness_RmaPacketsAndTimers_12 : ∃ (s : State) (c : Fin 1024),
    (s.conn c).state = 2 ∧ rmaCarries s = true ∧ ((s.conn c).unacked.map Unacked.psn).Nodup ∧ (∀ x ∈ (s.conn c).unacked, x.due ≤ s.adv → x.sends ≤ s.get (ConnW.RETRY_LIMIT c)) := by
  refine ⟨{ bridging 3 [] with rma := { conns := [(1023, { state := 2, unacked := [⟨0, 0x20, 0, 0, 0, 0, 0⟩, ⟨1, 0x20, 0, 1, 1, 9, 0⟩] })] } }, 1023, ?_⟩
  and_intros <;> decide +kernel

theorem witness_RmaPacketsAndTimers_13 : ∃ (s : State) (c : Fin 1024) (x : Unacked),
    (s.conn c).state = 2 ∧ rmaCarries s = true ∧ (s.conn c).unacked = [x] ∧ x.due ≤ s.adv ∧ s.get (ConnW.RETRY_LIMIT c) < x.sends := by
  refine ⟨{ bridging 3 [] with rma := { conns := [(1023, { state := 2, unacked := [⟨0, 0x20, 0, 0, 1, 0, 0⟩] })] } }, 1023, (⟨0, 0x20, 0, 0, 1, 0, 0⟩), ?_⟩
  and_intros <;> decide +kernel

theorem witness_RmaPacketsAndTimers_14 : ∃ (s : State) (c : Fin 1024),
    (s.conn c).state = 1 ∧ rmaCarries s = true ∧ s.due (s.conn c).timerDl = true := ⟨{ bridging 3 [] with rma := { conns := [(1023, { state := 1, timerDl := some 5 })] }, adv := 5 }, 1023, by decide +kernel, by decide +kernel, by decide +kernel⟩

theorem witness_RmaPacketsAndTimers_15 : ∃ (s : State) (c : Fin 1024),
    (s.conn c).state = 6 ∧ rmaCarries s = true ∧ s.due (s.conn c).timerDl = true := ⟨{ bridging 3 [] with rma := { conns := [(1023, { state := 6, timerDl := some 5 })] }, adv := 5 }, 1023, by decide +kernel, by decide +kernel, by decide +kernel⟩

theorem witness_RmaPacketsAndTimers_16 : ∃ (s : State) (c : Fin 1024),
    (s.conn c).ackDue = true ∧ rmaCarries s = true ∧ connAnswers s c = true := ⟨{ bridging 3 [] with rma := { conns := [(1023, { state := 6, ackDue := true })] } }, 1023, by decide +kernel, by decide +kernel, by decide +kernel⟩

theorem witness_TwinMessages_0 : ∃ (s : State) (u : State) (b : Fin 4) (p : Tfp) (d : List Byte) (c : Instr),
    u = s.takeRx b p ∧ bundleRole u b [4] = true ∧ p.body = .msg d ∧ (u.twin.enable = false ∨ u.get TWIN.STATUS_PAIR = 0) ∧ ((c = .twHelloReceive b p ∧ p.hdr.kind = 0x60) ∨ (c = .twCkptReceive b p ∧ p.hdr.kind = 0x61) ∨ (c = .twCkptAckReceive b p ∧ p.hdr.kind = 0x62) ∨ (c = .twCommitReceive b p ∧ p.hdr.kind = 0x63) ∨ (c = .twCommitResultReceive b p ∧ p.hdr.kind = 0x64) ∨ (c = .twRoleReceive b p ∧ p.hdr.kind = 0x65) ∨ (c = .twSyncReceive b p ∧ p.hdr.kind = 0x66) ∨ (c = .twSyncDoneReceive b p ∧ p.hdr.kind = 0x67)) := by
  refine ⟨(lab 3 []).bundled 4, ((lab 3 []).bundled 4).takeRx (0) (aTfp 0x67 (.msg [])), 0, (aTfp 0x67 (.msg [])), [], (.twSyncDoneReceive 0 (aTfp 0x67 (.msg []))), ?_, ?_, ?_, ?_, .inr (.inr (.inr (.inr (.inr (.inr (.inr ⟨rfl, rfl⟩))))))⟩
  all_goals and_intros <;> decide +kernel

theorem witness_TwinMessages_1 : ∃ (s : State),
    s.twin.enable = true ∧ 2 ≤ s.get TWIN.STATUS_PAIR ∧ linkActive s s.twin.bundle = true ∧ s.mode ≠ 7 ∧ s.due s.twin.helloDl = true := by
  refine ⟨{ lab 3 [(TWIN.STATUS_PAIR, 2), (FBL.LL_STATUS_STATE 0, 2)] with twin := { enable := true, helloDl := some 5 }, adv := 5 }, ?_⟩
  and_intros <;> decide +kernel

theorem witness_TwinMessages_2 : ∃ (s : State) (u : State) (b : Fin 4) (p : Tfp) (d : List Byte) (reason : Nat) (cause : Nat),
    TwinArrives s u b p 0x60 d ∧ d.length = 168 ∧ u.get TWIN.STATUS_PAIR = 2 ∧ helloFails (u.takeHello d) d = some (reason, cause) := by
  refine ⟨{ (lab 3 [(TWIN.STATUS_PAIR, 2)]).bundled 4 with twin := { enable := true } }, ({ (lab 3 [(TWIN.STATUS_PAIR, 2)]).bundled 4 with twin := { enable := true } }).takeRx (0) (aTfp 0x60 (.msg (List.replicate 168 0))), 0, (aTfp 0x60 (.msg (List.replicate 168 0))), (List.replicate 168 0), 0xB0, 7, ?_⟩
  and_intros <;> decide +kernel

theorem witness_TwinMessages_3 : ∃ (s : State) (u : State) (b : Fin 4) (p : Tfp) (d : List Byte),
    TwinArrives s u b p 0x60 d ∧ d.length = 168 ∧ u.get TWIN.STATUS_PAIR = 2 ∧ helloFails (u.takeHello d) d = none ∧ u.twin.croakLost = false ∧ u.twin.silent = false := by
  refine ⟨{ (lab 3 [(TWIN.STATUS_PAIR, 2), (GLB.MODE_STEPPING, 0)]).bundled 4 with twin := { enable := true, croakLost := false, silent := false } }, ({ (lab 3 [(TWIN.STATUS_PAIR, 2), (GLB.MODE_STEPPING, 0)]).bundled 4 with twin := { enable := true, croakLost := false, silent := false } }).takeRx (0) (aTfp 0x60 (.msg ([1, 1] ++ List.replicate 166 0))), 0, (aTfp 0x60 (.msg ([1, 1] ++ List.replicate 166 0))), [1, 1] ++ List.replicate 166 0, ?_⟩
  and_intros <;> decide +kernel

theorem witness_TwinMessages_4 : ∃ (s : State) (h : Nat),
    s.twin.hashSince = some h ∧ s.get TWIN.STATUS_PAIR = 4 ∧ h + usFt 1000 ≤ s.adv ∧ s.img.commit = none := by
  refine ⟨{ lab 3 [(TWIN.STATUS_PAIR, 4)] with twin := { hashSince := some 0 }, adv := usFt 1000 }, 0, ?_⟩
  and_intros <;> decide +kernel

theorem witness_TwinMessages_5 : ∃ (s : State),
    s.twin.ckptDue = true ∧ s.get TWIN.STATUS_PAIR = 4 ∧ carries s.mode = true ∧ linkActive s s.twin.bundle = true ∧ (s.twin.flight = none ∨ (s.link s.twin.bundle).store.filterMap storedSegment ++ s.core.pkts.filterMap segmentOf = []) := by
  refine ⟨{ lab 3 [(TWIN.STATUS_PAIR, 4), (FBL.LL_STATUS_STATE 0, 2)] with twin := { ckptDue := true } }, ?_⟩
  and_intros <;> decide +kernel

theorem witness_TwinMessages_6 : ∃ (s : State),
    s.twin.ckptDue = true ∧ s.get TWIN.STATUS_PAIR ≠ 4 := ⟨{ lab 3 [(TWIN.STATUS_PAIR, 3)] with twin := { ckptDue := true } }, by decide +kernel, by decide +kernel⟩

theorem witness_TwinMessages_7 : ∃ (s : State) (u : State) (b : Fin 4) (p : Tfp) (d : List Byte),
    TwinArrives s u b p 0x61 d ∧ u.twin.part = none := ⟨{ (lab 3 [(TWIN.STATUS_PAIR, 4)]).bundled 4 with twin := { enable := true } }, ({ (lab 3 [(TWIN.STATUS_PAIR, 4)]).bundled 4 with twin := { enable := true } }).takeRx (0) (aTfp 0x61 (.msg (List.replicate 8 0))), 0, (aTfp 0x61 (.msg (List.replicate 8 0))), (List.replicate 8 0), by decide +kernel, by decide +kernel⟩

theorem witness_TwinMessages_8 : ∃ (s : State) (u : State) (b : Fin 4) (p : Tfp) (d : List Byte) (seq : Nat),
    TwinArrives s u b p 0x62 d ∧ ofLe (d.take 4) = seq ∧ (seq + 2 ^ 32 - (u.rd TWIN.CKPT_SENT).toNat) % 2 ^ 32 ≠ 0 ∧ (seq + 2 ^ 32 - (u.rd TWIN.CKPT_SENT).toNat) % 2 ^ 32 ≤ (u.twin.ckptSeq + 2 ^ 32 - (u.rd TWIN.CKPT_SENT).toNat) % 2 ^ 32 := by
  refine ⟨{ (lab 3 [(TWIN.STATUS_PAIR, 4)]).bundled 4 with twin := { enable := true, ckptSeq := 5 } }, ({ (lab 3 [(TWIN.STATUS_PAIR, 4)]).bundled 4 with twin := { enable := true, ckptSeq := 5 } }).takeRx (0) (aTfp 0x62 (.msg [5, 0, 0, 0])), 0, (aTfp 0x62 (.msg [5, 0, 0, 0])), [5, 0, 0, 0], 5, ?_⟩
  and_intros <;> decide +kernel

theorem witness_TwinMessages_9 : ∃ (s : State) (u : State) (b : Fin 4) (p : Tfp) (d : List Byte),
    TwinArrives s u b p 0x63 d ∧ u.get GLB.COMMIT_STATUS_STATE ≠ 1 ∧ u.get GLB.COMMIT_STATUS_STATE ≠ 2 ∧ u.get IMG.STATUS_STAGE_STATE ≠ 4 ∧ u.get IMG.STATUS_STAGE_STATE ≠ 5 ∧ u.flag TWIN.STATUS_UPDATE = false := by
  refine ⟨{ (lab 3 [(TWIN.STATUS_PAIR, 4)]).bundled 4 with twin := { enable := true } }, ({ (lab 3 [(TWIN.STATUS_PAIR, 4)]).bundled 4 with twin := { enable := true } }).takeRx (0) (aTfp 0x63 (.msg [])), 0, (aTfp 0x63 (.msg [])), [], ?_⟩
  and_intros <;> decide +kernel

theorem witness_TwinMessages_10 : ∃ (s : State) (u : State) (b : Fin 4) (p : Tfp) (d : List Byte),
    TwinArrives s u b p 0x63 d ∧ u.get GLB.COMMIT_STATUS_STATE ≠ 1 ∧ (u.get GLB.COMMIT_STATUS_STATE = 2 ∨ u.get IMG.STATUS_STAGE_STATE = 4 ∨ u.get IMG.STATUS_STAGE_STATE = 5 ∨ u.flag TWIN.STATUS_UPDATE = true) := ⟨{ (lab 3 [(TWIN.STATUS_PAIR, 4), (GLB.COMMIT_STATUS_STATE, 2)]).bundled 4 with twin := { enable := true } }, ({ (lab 3 [(TWIN.STATUS_PAIR, 4), (GLB.COMMIT_STATUS_STATE, 2)]).bundled 4 with twin := { enable := true } }).takeRx (0) (aTfp 0x63 (.msg [])), 0, (aTfp 0x63 (.msg [])), [], by decide +kernel, by decide +kernel, by decide +kernel⟩

theorem witness_TwinMessages_11 : ∃ (s : State) (u : State) (b : Fin 4) (p : Tfp) (d : List Byte) (epoch : Nat) (snap : SMap Word),
    TwinArrives s u b p 0x64 d ∧ u.twin.sent = none ∧ u.twin.rcvd = some (ofLe (d.take 2), epoch, snap) := ⟨{ (lab 3 [(TWIN.STATUS_PAIR, 4)]).bundled 4 with twin := { enable := true, rcvd := some (5, 0, []) } }, ({ (lab 3 [(TWIN.STATUS_PAIR, 4)]).bundled 4 with twin := { enable := true, rcvd := some (5, 0, []) } }).takeRx (0) (aTfp 0x64 (.msg [5, 0])), 0, (aTfp 0x64 (.msg [5, 0])), [5, 0], 0, [], by decide +kernel, by decide +kernel, by decide +kernel⟩

theorem witness_TwinMessages_12 : ∃ (s : State) (id : Nat) (dl : Nat),
    s.twin.sent = some (id, dl) ∧ s.twin.result = none := ⟨{ lab 3 [] with twin := { sent := some (5, 9) }, adv := 9 }, 5, 9, by decide +kernel, by decide +kernel⟩

theorem witness_TwinMessages_13 : ∃ (s : State) (u : State) (b : Fin 4) (p : Tfp) (d : List Byte),
    TwinArrives s u b p 0x66 d := ⟨{ (lab 3 [(TWIN.STATUS_PAIR, 3)]).bundled 4 with twin := { enable := true } }, ({ (lab 3 [(TWIN.STATUS_PAIR, 3)]).bundled 4 with twin := { enable := true } }).takeRx (0) (aTfp 0x66 (.msg [5, 0, 0, 0])), 0, (aTfp 0x66 (.msg [5, 0, 0, 0])), [5, 0, 0, 0], by decide +kernel⟩

theorem witness_TwinMessages_15 : ∃ (s : State) (u : State) (b : Fin 4) (p : Tfp) (d : List Byte),
    TwinArrives s u b p 0x65 d ∧ (ofLe ((d.drop 0).take 1) = 0 ∨ 5 < ofLe ((d.drop 0).take 1)) := ⟨{ (lab 3 [(TWIN.STATUS_PAIR, 3)]).bundled 4 with twin := { enable := true } }, ({ (lab 3 [(TWIN.STATUS_PAIR, 3)]).bundled 4 with twin := { enable := true } }).takeRx (0) (aTfp 0x65 (.msg [6])), 0, (aTfp 0x65 (.msg [6])), [6], by decide +kernel, by decide +kernel⟩

theorem witness_TwinMessages_16 : ∃ (s : State) (u : State) (b : Fin 4) (p : Tfp) (d : List Byte),
    TwinArrives s u b p 0x65 d ∧ 16 ≤ d.length ∧ ofLe ((d.drop 0).take 1) = 3 ∧ u.twin.arrange = 0 ∧ u.mode = 5 ∧ u.get TWIN.STATUS_PAIR = 4 ∧ (u.get TWIN.PEER_MODE = 3 ∨ u.get TWIN.PEER_MODE = 4) := by
  refine ⟨{ (lab 5 [(TWIN.STATUS_PAIR, 4), (TWIN.PEER_MODE, 4)]).bundled 4 with twin := { enable := true } }, ({ (lab 5 [(TWIN.STATUS_PAIR, 4), (TWIN.PEER_MODE, 4)]).bundled 4 with twin := { enable := true } }).takeRx (0) (aTfp 0x65 (.msg ([3] ++ List.replicate 15 0))), 0, (aTfp 0x65 (.msg ([3] ++ List.replicate 15 0))), [3] ++ List.replicate 15 0, ?_⟩
  and_intros <;> decide +kernel

theorem witness_TwinMessages_18 : ∃ (s : State),
    s.get TWIN.STATUS_PAIR ≠ 3 ∧ s.get TWIN.STATUS_PAIR ≠ 4 := ⟨(lab 3 [(TWIN.STATUS_PAIR, 5)]), by decide +kernel, by decide +kernel⟩

theorem witness_TwinMessages_19 : ∃ (s : State) (path : Path),
    reaches s path TWIN.PAIR_KEY_CTRL = true := ⟨(lab 3 []), (.pcie 0 0), by decide +kernel⟩

theorem witness_TwinMessages_14 : ∃ (s : State) (u : State) (v : State) (b : Fin 4) (p : Tfp) (d : List Byte),
    TwinArrives s u b p 0x67 d ∧ u.get TWIN.STATUS_PAIR = 3 ∧ v = (u.twinEvent .roleMsg [0x67, ofLe (d.take 4)]).takeGens ∧ stateHash v = (d.drop 4).take 32 := by
  refine ⟨aSyncing, aSyncing, (aSyncing.twinEvent .roleMsg [0x67, 0]).takeGens, 0, (aTfp 0x67 (.msg aDone)), aDone, ⟨rfl, rfl, rfl, by decide +kernel, rfl, rfl, by decide +kernel⟩, ?_, aDone_seq, aDone_hash⟩
  all_goals and_intros <;> decide +kernel

theorem witness_CroakAndRoles_0 : ∃ (s : State),
    s.twin.enable = false ∧ s.due s.twin.croakDl = true ∧ s.twin.croakRun = true ∧ s.flag TWIN.STATUS_CROAK_STOPPED = false ∧ 1 ≤ s.mode ∧ s.mode ≤ 6 := by
  refine ⟨{ lab 6 [] with twin := { croakDl := some 5, croakRun := true }, adv := 5 }, ?_⟩
  and_intros <;> decide +kernel

theorem witness_CroakAndRoles_1 : ∃ (s : State) (out : Fin 2),
    s.twin.enable = true ∧ s.twin.toggle.contains out.val = true ∧ s.twin.croakRun = true ∧ s.get TWIN.STATUS_PAIR ≠ 0 ∧ s.flag TWIN.STATUS_CROAK_STOPPED = false ∧ 1 ≤ s.mode ∧ s.mode ≤ 6 := by
  refine ⟨{ lab 6 [(TWIN.STATUS_PAIR, 1)] with twin := { enable := true, toggle := [1], croakRun := true } }, 1, ?_⟩
  and_intros <;> decide +kernel

theorem witness_CroakAndRoles_2 : ∃ (s : State),
    s.twin.enable = true ∧ s.get TWIN.STATUS_PAIR ≠ 0 ∧ s.twin.center = none ∧ s.twin.croakLost = true := by
  refine ⟨{ lab 3 [(TWIN.STATUS_PAIR, 1)] with twin := { enable := true } }, ?_⟩
  and_intros <;> decide +kernel

theorem witness_CroakAndRoles_3 : ∃ (s : State) (c : Nat),
    s.twin.enable = true ∧ s.get TWIN.STATUS_PAIR ≠ 0 ∧ s.twin.center = some c ∧ s.adv < c + usFt 250 ∧ s.twin.croakLost = false := by
  refine ⟨{ lab 3 [(TWIN.STATUS_PAIR, 4)] with twin := { enable := true, center := some 0, croakLost := false }, adv := usFt 250 - 1 }, 0, ?_⟩
  and_intros <;> decide +kernel

theorem witness_CroakAndRoles_4 : ∃ (s : State) (c : Nat),
    s.twin.center = some c ∧ c + usFt 250 ≤ s.adv ∧ s.get TWIN.STATUS_PAIR ≠ 0 ∧ (s.twin.edges ≠ 0 ∨ s.get TWIN.CROAK_MISSED < 2) := by
  refine ⟨{ lab 3 [(TWIN.STATUS_PAIR, 4), (TWIN.CROAK_MISSED, 1)] with twin := { center := some 0 }, adv := usFt 250 }, 0, ?_⟩
  and_intros <;> decide +kernel

theorem witness_CroakAndRoles_5 : ∃ (s : State),
    s.twin.enable = true ∧ s.get TWIN.STATUS_PAIR ≠ 0 ∧ s.twin.silent = false ∧ (s.link s.twin.bundle).lastGood + usFt 1000 ≤ s.adv := by
  refine ⟨{ lab 3 [(TWIN.STATUS_PAIR, 4)] with twin := { enable := true }, adv := usFt 1000 }, ?_⟩
  and_intros <;> decide +kernel

theorem witness_CroakAndRoles_6 : ∃ (s : State) (path : Path) (c : Instr),
    (c = .twinTakeOver path ∨ c = .twinStandDown path) ∧ path ≠ .msp := ⟨(lab 3 []), .jtag, (.twinStandDown .jtag), by decide +kernel, by decide +kernel⟩

theorem witness_CroakAndRoles_7 : ∃ (s : State) (c : Instr),
    (c = .twinTakeOver .msp ∨ c = .twinStandDown .msp) ∧ reaches s .msp TWIN.DECIDE = true ∧ s.get TWIN.STATUS_PAIR ≠ 5 := ⟨(lab 3 [(TWIN.STATUS_PAIR, 6)]), (.twinTakeOver .msp), by decide +kernel, by decide +kernel, by decide +kernel⟩

theorem witness_CroakAndRoles_8 : ∃ (s : State),
    reaches s .msp TWIN.DECIDE = true ∧ s.get TWIN.STATUS_PAIR = 5 ∧ 3 ≤ s.mode ∧ s.mode ≤ 5 := by
  refine ⟨(lab 5 [(TWIN.STATUS_PAIR, 5)]), ?_⟩
  and_intros <;> decide +kernel

theorem witness_CroakAndRoles_9 : ∃ (s : State),
    reaches s .msp TWIN.DECIDE = true ∧ s.get TWIN.STATUS_PAIR = 5 := ⟨(lab 3 [(TWIN.STATUS_PAIR, 5)]), by decide +kernel, by decide +kernel⟩

theorem witness_CroakAndRoles_10 : ∃ (s : State) (path : Path),
    reaches s path TWIN.CTRL = true ∧ roleRefusal s false false = none := ⟨(lab 3 [(TWIN.STATUS_PAIR, 4), (TIME.STATUS_STATE, 2), (⟨TWIN.CMD_EPOCH_LO, 0, 32⟩, 0xFFFFFFFF)]), .msp, by decide +kernel, by decide +kernel⟩

theorem witness_CroakAndRoles_11 : ∃ (s : State) (path : Path),
    reaches s path TWIN.CTRL = true ∧ roleRefusal s true false = none := ⟨(lab 6 [(TWIN.STATUS_PAIR, 4), (TIME.STATUS_STATE, 2), (⟨TWIN.CMD_EPOCH_LO, 0, 32⟩, 0xFFFFFFFF)]), .msp, by decide +kernel, by decide +kernel⟩

theorem witness_CroakAndRoles_12 : ∃ (s : State) (path : Path),
    reaches s path TWIN.CTRL = true ∧ roleRefusal s true true = none := ⟨(lab 6 [(TWIN.STATUS_PAIR, 4), (TIME.STATUS_STATE, 2), (⟨TWIN.CMD_EPOCH_LO, 0, 32⟩, 0xFFFFFFFF)]), .msp, by decide +kernel, by decide +kernel⟩

theorem witness_CroakAndRoles_13 : ∃ (s : State) (path : Path) (i : Instr) (c : Nat),
    reaches s path TWIN.CTRL = true ∧ ((i = .twinDemote path ∧ roleRefusal s false false = some c) ∨ (i = .twinRestore path ∧ roleRefusal s true false = some c) ∨ (i = .twinHandback path ∧ roleRefusal s true true = some c)) := ⟨(lab 3 [(TWIN.STATUS_PAIR, 3)]), .msp, (.twinHandback .msp), 0xB1, by decide +kernel, .inr (.inr ⟨rfl, by decide +kernel⟩)⟩

theorem witness_CroakAndRoles_14 : ∃ (s : State) (path : Path),
    reaches s path TWIN.CTRL = true := ⟨(lab 3 [(TWIN.STATUS_PAIR, 4)]), .msp, by decide +kernel⟩

theorem witness_CroakAndRoles_15 : ∃ (s : State) (act : Nat) (epoch : Nat) (m : Nat),
    s.twin.cmd = some (act, epoch, m) ∧ act ≠ 6 ∧ epoch ≤ s.time.ft ∧ (s.pwr.up < 4 ∨ 8 ≤ s.pwr.up) := by
  refine ⟨{ lab 3 [] with twin := { cmd := some (2, 5, 3) }, time := { ft := 5 } }, 2, 5, 3, ?_⟩
  and_intros <;> decide +kernel

theorem witness_CroakAndRoles_16 : ∃ (s : State) (n : Fin 96) (a : Nat) (act : Nat) (e : Nat) (m : Nat),
    (s.paux n).drainAt = some a ∧ s.twin.cmd = some (act, e, m) ∧ (act = 1 ∨ act = 3) ∧ a ≤ s.time.ft ∧ s.flag (PORT.CTRL_ENABLE n) = true ∧ s.get (PORT.STATUS_DRAIN_STATE n) = 0 ∧ s.flag (PORT.STATUS_SHED n) = false := by
  refine ⟨{ (lab 3 [(PORT.CTRL_ENABLE 95, 1), (PORT.STATUS_DRAIN_STATE 95, 0)]).setPaux 95 { drainAt := some 5 } with twin := { cmd := some (3, 9, 5) }, time := { ft := 5 } }, 95, 5, 3, 9, 5, ?_⟩
  and_intros <;> decide +kernel

theorem witness_FaultCollector_0 : ∃ (s : State) (src : Fin 64) (cls : Fin 4) (inst : Nat) (eff : Nat),
    eff = effClass s src (min 2 cls) ∧ (∀ k ∈ [0, 2, 3, 4, 5], bitOf (actionsOf s src eff) k = false) := ⟨(lab 3 [(FLT.SRC_CFG_CLASS 63, 0)]), 63, 3, 5, 2, by decide +kernel, by decide +kernel⟩

theorem witness_FaultCollector_2 : ∃ (s : State) (u : State) (path : Path) (mask : BitVec 64),
    u = s.actStatusClear (mask.toNat % 2 ^ 32) ∧ reaches s path FLT.STATUS_LO = true ∧ reaches u path FLT.STATUS_HI = true := ⟨(lab 3 []), (lab 3 []).actStatusClear ((18446744073709551615#64).toNat % 2 ^ 32), .msp, 18446744073709551615#64, rfl, by decide +kernel, by decide +kernel⟩

theorem witness_FaultCollector_3 : ∃ (s : State) (path : Path),
    reaches s path FLT.FIRST = true := ⟨(lab 3 []), .msp, by decide +kernel⟩

theorem witness_FaultCollector_4 : ∃ (s : State) (path : Path),
    reaches s path FLT.INJECT = true ∧ hasClass s path 0 = true ∧ (s.get FLT.INJECT_INSTANCE < 128 → reservedPort (s.get FLT.INJECT_INSTANCE) = false) := ⟨(lab 3 []), .msp, by decide +kernel, by decide +kernel, by decide +kernel⟩

theorem witness_FaultCollector_5 : ∃ (s : State) (path : Path),
    reaches s path FLT.SHED_CMD = true ∧ s.get FLT.SHED_CMD_KIND = 0 := ⟨(lab 3 [(FLT.SHED_CMD_KIND, 0), (FLT.SHED_CMD_TARGET, 31)]), .msp, by decide +kernel, by decide +kernel⟩

theorem witness_FaultCollector_6 : ∃ (s : State) (path : Path),
    reaches s path FLT.SHED_CMD = true ∧ s.get FLT.SHED_CMD_KIND = 1 ∧ s.get FLT.SHED_CMD_TARGET < 4 := ⟨(lab 3 [(FLT.SHED_CMD_KIND, 1), (FLT.SHED_CMD_TARGET, 3)]), .msp, by decide +kernel, by decide +kernel, by decide +kernel⟩

theorem witness_FaultCollector_7 : ∃ (s : State) (path : Path) (x : ShedTarget),
    reaches s path FLT.SHED_CMD = true ∧ shedTarget s = some x ∧ s.flt.sheds.any (fun e => e.2 = x) = true := ⟨{ lab 3 [(FLT.SHED_CMD_KIND, 1), (FLT.SHED_CMD_TARGET, 3)] with flt := { sheds := [(5, .bundle 3)] } }, .msp, (.bundle 3), by decide +kernel, by decide +kernel, by decide +kernel⟩

theorem witness_FaultCollector_8 : ∃ (s : State) (path : Path),
    reaches s path FLT.SHED_CMD = true ∧ s.get FLT.SHED_CMD_KIND = 0 ∧ s.flt.sheds.any (fun e => e.2 = .part (s.get FLT.SHED_CMD_TARGET)) = false := ⟨(lab 3 [(FLT.SHED_CMD_KIND, 0), (FLT.SHED_CMD_TARGET, 31)]), .msp, by decide +kernel, by decide +kernel, by decide +kernel⟩

theorem witness_FaultCollector_9 : ∃ (s : State) (path : Path),
    reaches s path FLT.SHED_CMD = true ∧ s.get FLT.SHED_CMD_KIND = 1 ∧ s.get FLT.SHED_CMD_TARGET < 4 ∧ s.flt.sheds.any (fun e => e.2 = .bundle (s.get FLT.SHED_CMD_TARGET)) = false := by
  refine ⟨(lab 3 [(FLT.SHED_CMD_KIND, 1), (FLT.SHED_CMD_TARGET, 3)]), .msp, ?_⟩
  and_intros <;> decide +kernel

theorem witness_FirstAndOverflowClear_0 : ∃ (s : State) (path : Path) (c : Instr),
    (c = .firstRearm path ∨ ∃ v : Word, v.toNat % 2 = 1 ∧ c = .registerWrite path (BitVec.ofNat 24 FLT.FIRST) v) ∧ reaches s path FLT.FIRST = true := ⟨(lab 3 []), .msp, (.firstRearm .msp), .inl rfl, by decide +kernel⟩

theorem witness_FirstAndOverflowClear_0b : ∃ (s : State) (path : Path) (c : Instr),
    (c = .firstRearm path ∨ ∃ v : Word, v.toNat % 2 = 1 ∧ c = .registerWrite path (BitVec.ofNat 24 FLT.FIRST) v) ∧ reaches s path FLT.FIRST = true := ⟨(lab 3 []), .msp, (.registerWrite .msp (BitVec.ofNat 24 FLT.FIRST) 1), .inr ⟨1, rfl, rfl⟩, by decide +kernel⟩

theorem witness_FirstAndOverflowClear_1 : ∃ (s : State) (path : Path) (v : Word),
    v.toNat % 2 = 0 ∧ reaches s path FLT.FIRST = true := ⟨(lab 3 []), .msp, 0xFFFFFFFE, by decide +kernel, by decide +kernel⟩

theorem witness_FirstAndOverflowClear_2 : ∃ (s : State) (path : Path) (v : Word),
    reaches s path FLT.OVERFLOW = true := ⟨(lab 3 []), .msp, 0xFFFFFFFF, by decide +kernel⟩

theorem witness_ManagementPaths_0 : ∃ (s : State),
    s.mode = 0 := ⟨State.reset, by decide +kernel⟩

theorem witness_ManagementPaths_1 : ∃ (s : State) (u : State) (b : Fin 4) (p : Tfp) (c : List Byte),
    MgArrives s u b p 0x40 c ∧ (u.mode ≠ 4 ∨ ofLe ((c.drop 16).take 1) ≠ 4) ∧ bundleUsable u b = true := ⟨(lab 3 [(FBL.LL_STATUS_STATE 3, 2)]), (lab 3 [(FBL.LL_STATUS_STATE 3, 2)]).takeRx (3) (⟨{ kind := 0x40, dstDev := 0x7FF }, .msg (List.replicate 16 0 ++ [4])⟩), 3, (⟨{ kind := 0x40, dstDev := 0x7FF }, .msg (List.replicate 16 0 ++ [4])⟩), (List.replicate 16 0 ++ [4]), by decide +kernel, by decide +kernel, by decide +kernel⟩

theorem witness_ManagementPaths_2 : ∃ (s : State) (u : State) (b : Fin 4) (p : Tfp) (c : List Byte),
    MgArrives s u b p 0x40 c ∧ u.mode = 4 ∧ ofLe ((c.drop 16).take 1) = 4 := ⟨(lab 4 []), (lab 4 []).takeRx (3) (⟨{ kind := 0x40, dstDev := 0x7FF }, .msg (List.replicate 16 0 ++ [4])⟩), 3, (⟨{ kind := 0x40, dstDev := 0x7FF }, .msg (List.replicate 16 0 ++ [4])⟩), (List.replicate 16 0 ++ [4]), by decide +kernel, by decide +kernel, by decide +kernel⟩

theorem witness_ManagementPaths_3 : ∃ (s : State) (u : State) (b : Fin 4) (p : Tfp) (c : List Byte) (d : Nat),
    MgArrives s u b p 0x42 c ∧ ofLe ((c.drop 16).take 2) % 2048 = d := ⟨(lab 3 []), (lab 3 []).takeRx (0) (⟨{ kind := 0x42, dstDev := 0x7FF }, .msg (List.replicate 16 0 ++ [5, 0])⟩), 0, (⟨{ kind := 0x42, dstDev := 0x7FF }, .msg (List.replicate 16 0 ++ [5, 0])⟩), (List.replicate 16 0 ++ [5, 0]), 5, by decide +kernel, by decide +kernel⟩

theorem witness_ManagementPaths_4 : ∃ (s : State) (u : State) (b : Fin 4) (p : Tfp) (c : List Byte),
    MgArrives s u b p 0x44 c ∧ bundleUsable u b = true := ⟨(lab 3 [(FBL.LL_STATUS_STATE 0, 2)]), (lab 3 [(FBL.LL_STATUS_STATE 0, 2)]).takeRx (0) (⟨{ kind := 0x44, dstDev := 0x7FF }, .msg (List.replicate 20 0)⟩), 0, (⟨{ kind := 0x44, dstDev := 0x7FF }, .msg (List.replicate 20 0)⟩), (List.replicate 20 0), by decide +kernel, by decide +kernel⟩

theorem witness_ManagementPaths_5 : ∃ (s : State) (u : State) (b : Fin 4) (p : Tfp) (c : List Byte),
    MgArrives s u b p 0x46 c ∧ hasClass u (.bundle b) 1 = false ∧ bundleUsable u b = true := ⟨(lab 3 [(FBL.LL_STATUS_STATE 3, 2)]), (lab 3 [(FBL.LL_STATUS_STATE 3, 2)]).takeRx (3) (⟨{ kind := 0x46, dstDev := 0x7FF }, .msg (List.replicate 24 0)⟩), 3, (⟨{ kind := 0x46, dstDev := 0x7FF }, .msg (List.replicate 24 0)⟩), (List.replicate 24 0), by decide +kernel, by decide +kernel, by decide +kernel⟩

theorem witness_ManagementPaths_6 : ∃ (s : State) (u : State) (b : Fin 4) (p : Tfp) (c : List Byte),
    MgArrives s u b p 0x46 c ∧ hasClass u (.bundle b) 1 = true := ⟨(lab 3 []), (lab 3 []).takeRx (0) (⟨{ kind := 0x46, dstDev := 0x7FF }, .msg (List.replicate 24 0)⟩), 0, (⟨{ kind := 0x46, dstDev := 0x7FF }, .msg (List.replicate 24 0)⟩), (List.replicate 24 0), by decide +kernel, by decide +kernel⟩

theorem witness_ManagementPaths_7 : ∃ (s : State) (u : State) (b : Fin 4) (p : Tfp) (c : List Byte),
    (∀ j ∈ u.mdma.jobs, j.msgId ≠ some (mgHdrOf c).msgId ∨ j.status ≠ none) := ⟨(lab 3 []), (lab 3 []).takeRx (3) (⟨{ kind := 0x47, dstDev := 0x7FF }, .msg (List.replicate 16 0)⟩), 3, (⟨{ kind := 0x47, dstDev := 0x7FF }, .msg (List.replicate 16 0)⟩), (List.replicate 16 0), by decide +kernel⟩

theorem witness_ManagementPaths_8 : ∃ (s : State) (n : Fin 96) (m : Tlp) (bar : Nat) (off : Nat),
    mgmtBar s (s.get (PORT.CFG_PART n)) m.addr = some (bar, off) ∧ portOfPart s (s.get (PORT.CFG_PART n)) n = true ∧ linkUp s n = true ∧ s.flag (PORT.STATUS_SHED n) = false ∧ s.mode ≠ 7 ∧ tlpCls m = 1 ∧ barAccepts s (s.get (PORT.CFG_PART n)) m bar off = false := by
  refine ⟨{ lab 3 [(PORT.CFG_ROLE 95, 1), (PORT.CFG_PART 95, 31), (PORT.CFG_SHARED 95, 0), (PORT.STATUS_LINK_UP 95, 1)] with cfg := [(1024 * (33 * 31) + 1, 2)] }, 95, { kind := .memRd, addr := 1 }, 0, 1, ?_⟩
  and_intros <;> decide +kernel

theorem witness_ManagementPaths_9 : ∃ (s : State) (n : Fin 96) (m : Tlp) (bar : Nat) (off : Nat),
    mgmtBar s (s.get (PORT.CFG_PART n)) m.addr = some (bar, off) ∧ barAccepts s (s.get (PORT.CFG_PART n)) m bar off = true := ⟨{ lab 3 [(PORT.CFG_PART 95, 31)] with cfg := [(1024 * (33 * 31) + 1, 2)] }, 95, { kind := .memRd, addr := 0xFFFFFC }, 0, 0xFFFFFC, by decide +kernel, by decide +kernel⟩

theorem witness_ManagementPaths_10 : ∃ (s : State) (u : State) (frame : List Byte) (r : Nat),
    frame.head? = some 0x02 ∧ mspAlive s = true ∧ 9 ≤ frame.length ∧ frame[8]? = some (BitVec.ofNat 8 (crc8 (frame.take 8))) ∧ (ignored (mspAddr frame) = true ∨ waitsAt s .msp (mspAddr frame) = none) ∧ s.tryWrite .msp (mspAddr frame) (BitVec.ofNat 32 (ofBe ((frame.drop 4).take 4))) = (r, u) := by
  refine ⟨(lab 3 []), ((lab 3 []).tryWrite .msp (mspAddr (aWriteFrame)) (BitVec.ofNat 32 (ofBe (((aWriteFrame).drop 4).take 4)))).2, aWriteFrame, ((lab 3 []).tryWrite .msp (mspAddr (aWriteFrame)) (BitVec.ofNat 32 (ofBe (((aWriteFrame).drop 4).take 4)))).1, ?_, ?_, ?_, ?_, ?_, (Prod.eta _).symm⟩
  all_goals and_intros <;> decide +kernel

theorem witness_ManagementPaths_11 : ∃ (s : State) (frame : List Byte),
    frame.head? = some 0x02 ∧ mspAlive s = true ∧ 9 ≤ frame.length ∧ frame[8]? ≠ some (BitVec.ofNat 8 (crc8 (frame.take 8))) := by
  refine ⟨(lab 3 []), [2, 0, 0, 0, 0, 0, 0, 0, 0], ?_⟩
  and_intros <;> decide +kernel

theorem witness_ManagementPaths_12 : ∃ (s : State) (u : State) (frame : List Byte) (w : Word),
    frame.head? = some 0x03 ∧ mspAlive s = true ∧ 12 ≤ frame.length ∧ frame[4]? = some (BitVec.ofNat 8 (crc8 (frame.take 4))) ∧ waitingAt s .msp = none ∧ answers s .msp (mspAddr frame) = true ∧ s.busRead .msp (mspAddr frame) = (w, u) := by
  refine ⟨(lab 3 []), ((lab 3 []).busRead .msp (mspAddr (aReadFrame))).2, aReadFrame, ((lab 3 []).busRead .msp (mspAddr (aReadFrame))).1, ?_, ?_, ?_, ?_, ?_, ?_, (Prod.eta _).symm⟩
  all_goals and_intros <;> decide +kernel

theorem witness_ManagementPaths_13 : ∃ (s : State) (frame : List Byte),
    frame.head? = some 0x05 ∧ mspAlive s = true ∧ 2 ≤ frame.length := ⟨(lab 7 []), [5, 0], by decide +kernel, by decide +kernel, by decide +kernel⟩

theorem witness_ManagementPaths_14 : ∃ (s : State),
    s.dbg.busy = none := ⟨(lab 3 []), by decide +kernel⟩

theorem witness_ManagementPaths_15 : ∃ (s : State) (x : Nat × Nat × Nat),
    s.dbg.busy = some x := ⟨{ lab 3 [] with dbg := { busy := some (3, 95, 0) } }, (3, 95, 0), by decide +kernel⟩

theorem witness_ManagementPaths_16 : ∃ (s : State) (off : BitVec 24),
    s.dbg.busy = none ∧ waitingAt s .jtag = none := ⟨(lab 3 []), 0xFFFFFC, by decide +kernel, by decide +kernel⟩

theorem witness_ManagementPaths_17 : ∃ (s : State) (off : BitVec 24) (val : Word),
    s.dbg.busy = none := ⟨(lab 3 []), 0xFFFFFC, 5, by decide +kernel⟩

theorem witness_ManagementPaths_18 : ∃ (s : State) (n : BitVec 7) (a : BitVec 64) (val : Word),
    s.dbg.busy = none ∧ (dapPowered s = false ∨ (s.mode ≠ 0 ∧ hasClass s .jtag 0 = false) ∨ 96 ≤ n.toNat ∨ 2 ≤ s.get (PORT.CFG_ROLE n.toNat)) := ⟨(lab 3 []), 96, 0, 5, by decide +kernel, by decide +kernel⟩

theorem witness_ManagementPaths_19 : ∃ (s : State) (n : BitVec 7) (a : BitVec 64) (val : Word) (m : Tlp) (w : Tlp) (lr : Bool) (lw : Bool),
    m = memTlp .memRd (a.toNat / 4 * 4) 4 (portRid s n.toNat) 0 false none [] ∧ w = memTlp .memWr (a.toNat / 4 * 4) 4 (portRid s n.toNat) 0 false none (leBytes 4 val.toNat) ∧ s.dbg.busy = none ∧ dapPowered s = true ∧ (s.mode = 0 ∨ hasClass s .jtag 0 = true) ∧ n.toNat < 96 ∧ s.get (PORT.CFG_ROLE n.toNat) < 2 ∧ targetRefusal s n.toNat = none := by
  refine ⟨(lab 0 [(PORT.CFG_ROLE 95, 0), (PORT.STATUS_LINK_UP 95, 1), (PORT.STATUS_DRAIN_STATE 95, 0)]), 95, 4, 5, (memTlp .memRd (((4) : BitVec 64).toNat / 4 * 4) 4 (portRid (lab 0 [(PORT.CFG_ROLE 95, 0), (PORT.STATUS_LINK_UP 95, 1), (PORT.STATUS_DRAIN_STATE 95, 0)]) ((95) : BitVec 7).toNat) 0 false none []), (memTlp .memWr (((4) : BitVec 64).toNat / 4 * 4) 4 (portRid (lab 0 [(PORT.CFG_ROLE 95, 0), (PORT.STATUS_LINK_UP 95, 1), (PORT.STATUS_DRAIN_STATE 95, 0)]) ((95) : BitVec 7).toNat) 0 false none (leBytes 4 ((5) : Word).toNat)), false, false, rfl, rfl, ?_⟩
  all_goals and_intros <;> decide +kernel

theorem witness_ManagementPaths_21 : ∃ (s : State) (status : HostStatus) (data : Word) (op : Nat) (n : Nat) (a : Nat),
    s.dbg.busy = some (op, n, a) ∧ readQueued s .debug = false := ⟨{ lab 3 [] with dbg := { busy := some (3, 95, 0) } }, .ok, 5, 3, 95, 0, by decide +kernel, by decide +kernel⟩

theorem witness_ManagementPaths_20 : ∃ (s : State) (n : BitVec 7) (a : BitVec 64) (m : Tlp) (cause : Nat),
    m = memTlp .memRd (a.toNat / 4 * 4) 4 (portRid s n.toNat) 0 false none [] ∧ s.dbg.busy = none ∧ dapPowered s = true ∧ (s.mode = 0 ∨ hasClass s .jtag 0 = true) ∧ n.toNat < 96 ∧ s.get (PORT.CFG_ROLE n.toNat) < 2 ∧ guardVerdict s 102 0xFFE (needOf m) (rangeOf m).1 (rangeOf m).2 = (.refuse cause, 0) := by
  refine ⟨{ lab 0 [(PORT.CFG_ROLE 95, 0)] with fuses := { prod := true } }, 95, 4, (memTlp .memRd (((4) : BitVec 64).toNat / 4 * 4) 4 (portRid ({ lab 0 [(PORT.CFG_ROLE 95, 0)] with fuses := { prod := true } }) ((95) : BitVec 7).toNat) 0 false none []), 0, rfl, ?_⟩
  all_goals and_intros <;> decide +kernel

theorem witness_ManagementDma_0 : ∃ (s : State) (path : Path) (e : Fin 8),
    reaches s path (MDMA.ENG_CTRL e) = true ∧ s.flag (MDMA.ENG_CTRL_ENABLE e) = false := ⟨(lab 3 []), .msp, 7, by decide +kernel, by decide +kernel⟩

theorem witness_ManagementDma_2 : ∃ (s : State) (path : Path) (e : Fin 8) (val : Word) (rest : List CheckReq),
    s.img.checks = .enable ⟨path, MDMA.ENG_CTRL e, val⟩ :: rest ∧ s.img.stalled = [] ∧ s.flag (MDMA.ENG_CTRL_ENABLE e) = false ∧ val.toNat.testBit 0 = true ∧ s.mode ≠ 7 ∧ (e = 0 ∨ s.flag (MDMA.ENG_OWNER_VALID e) = false) := by
  refine ⟨{ lab 3 [] with img := { checks := [.enable ⟨.msp, MDMA.ENG_CTRL 0, 1⟩] } }, .msp, 0, 1, [], ?_⟩
  and_intros <;> decide +kernel

theorem witness_ManagementDma_3 : ∃ (s : State) (path : Path) (e : Fin 8),
    reaches s path (MDMA.ENG_CTRL e) = true ∧ e ≠ 0 ∧ s.flag (MDMA.ENG_CTRL_ENABLE e) = true ∧ checkPending s (MDMA.ENG_CTRL e) = false := by
  refine ⟨(lab 3 [(MDMA.ENG_CTRL_ENABLE 7, 1)]), .msp, 7, ?_⟩
  and_intros <;> decide +kernel

theorem witness_ManagementDma_4 : ∃ (s : State) (path : Path) (e : Fin 8) (val : Word),
    reaches s path (MDMA.ENG_OWNER e) = true := ⟨(lab 3 []), .msp, 7, 1, by decide +kernel⟩

theorem witness_ManagementDma_5 : ∃ (s : State) (path : Path) (e : Fin 8) (tail : BitVec 16),
    reaches s path (MDMA.ENG_SQ_TAIL e) = true ∧ e ≠ 0 := ⟨(lab 3 []), .msp, 7, 65535, by decide +kernel, by decide +kernel⟩

theorem witness_ManagementDma_6 : ∃ (s : State) (tag : Nat) (data : List Byte) (r : MdmaRead),
    readQueued s (.mdmaRead tag) = false ∧ s.mdma.reads.find? (fun x => x.tag = tag) = some r ∧ r.what = 0 ∧ r.len ≤ data.length := by
  refine ⟨{ lab 3 [] with mdma := { reads := [⟨5, 7, 0, 0, 0, 0, 64, []⟩] } }, 5, (List.replicate 64 0), (⟨5, 7, 0, 0, 0, 0, 64, []⟩), ?_⟩
  and_intros <;> decide +kernel

theorem witness_ManagementDma_7 : ∃ (s : State) (tag : Nat) (status : HostStatus) (data : List Byte) (r : MdmaRead),
    status ≠ .ok ∧ readQueued s (.mdmaRead tag) = false ∧ s.mdma.reads.find? (fun x => x.tag = tag) = some r ∧ r.what = 1 := by
  refine ⟨{ lab 3 [] with mdma := { reads := [⟨5, 7, 1, 0, 0, 0, 64, []⟩] } }, 5, .ur, [], (⟨5, 7, 1, 0, 0, 0, 64, []⟩), ?_⟩
  and_intros <;> decide +kernel

theorem witness_ManagementDma_8 : ∃ (s : State) (e : Fin 8) (j : MdmaJob),
    nextJob? s e 3 = some j := ⟨{ lab 3 [(MDMA.ENG_STATUS_RUNNING 7, 1)] with mdma := { jobs := [{ id := 0, eng := 7, index := 0, op := 3 }] } }, 7, { id := 0, eng := 7, index := 0, op := 3 }, by decide +kernel⟩

theorem witness_ManagementDma_9 : ∃ (s : State) (v : State) (e : Fin 8) (j : MdmaJob) (ok : Bool),
    nextJob? s e 1 = some j ∧ (∀ q ∈ (List.range j.count).map (fun i => (j.first + i) / 512), q < 139 ∧ pageVisible s (engPath s e) q = true) ∧ s.hostWrite e j.addr ((List.range j.count).flatMap (fun i => leBytes 8 (s.counter ((j.first + i) / 512) ((j.first + i) % 512)))) = (ok, v) := ⟨{ lab 3 [(MDMA.ENG_STATUS_RUNNING 7, 1)] with mdma := { jobs := [{ id := 0, eng := 7, index := 0, op := 1, count := 1, first := 138 * 512 + 511 }] } }, ((({ lab 3 [(MDMA.ENG_STATUS_RUNNING 7, 1)] with mdma := { jobs := [{ id := 0, eng := 7, index := 0, op := 1, count := 1, first := 138 * 512 + 511 }] } }) : State).hostWrite 7 (({ id := 0, eng := 7, index := 0, op := 1, count := 1, first := 138 * 512 + 511 }) : MdmaJob).addr ((List.range (({ id := 0, eng := 7, index := 0, op := 1, count := 1, first := 138 * 512 + 511 }) : MdmaJob).count).flatMap (fun i => leBytes 8 ((({ lab 3 [(MDMA.ENG_STATUS_RUNNING 7, 1)] with mdma := { jobs := [{ id := 0, eng := 7, index := 0, op := 1, count := 1, first := 138 * 512 + 511 }] } }) : State).counter (((({ id := 0, eng := 7, index := 0, op := 1, count := 1, first := 138 * 512 + 511 }) : MdmaJob).first + i) / 512) (((({ id := 0, eng := 7, index := 0, op := 1, count := 1, first := 138 * 512 + 511 }) : MdmaJob).first + i) % 512))))).2, 7, { id := 0, eng := 7, index := 0, op := 1, count := 1, first := 138 * 512 + 511 }, ((({ lab 3 [(MDMA.ENG_STATUS_RUNNING 7, 1)] with mdma := { jobs := [{ id := 0, eng := 7, index := 0, op := 1, count := 1, first := 138 * 512 + 511 }] } }) : State).hostWrite 7 (({ id := 0, eng := 7, index := 0, op := 1, count := 1, first := 138 * 512 + 511 }) : MdmaJob).addr ((List.range (({ id := 0, eng := 7, index := 0, op := 1, count := 1, first := 138 * 512 + 511 }) : MdmaJob).count).flatMap (fun i => leBytes 8 ((({ lab 3 [(MDMA.ENG_STATUS_RUNNING 7, 1)] with mdma := { jobs := [{ id := 0, eng := 7, index := 0, op := 1, count := 1, first := 138 * 512 + 511 }] } }) : State).counter (((({ id := 0, eng := 7, index := 0, op := 1, count := 1, first := 138 * 512 + 511 }) : MdmaJob).first + i) / 512) (((({ id := 0, eng := 7, index := 0, op := 1, count := 1, first := 138 * 512 + 511 }) : MdmaJob).first + i) % 512))))).1, by decide +kernel, by decide +kernel, (Prod.eta _).symm⟩

theorem witness_ManagementDma_10 : ∃ (s : State) (e : Fin 8) (j : MdmaJob) (i : Nat),
    nextJob? s e 1 = some j ∧ i < j.count ∧ (139 ≤ (j.first + i) / 512 ∨ pageVisible s (engPath s e) ((j.first + i) / 512) = false) := ⟨{ lab 3 [(MDMA.ENG_STATUS_RUNNING 7, 1)] with mdma := { jobs := [{ id := 0, eng := 7, index := 0, op := 1, count := 1, first := 139 * 512 }] } }, 7, { id := 0, eng := 7, index := 0, op := 1, count := 1, first := 139 * 512 }, 0, by decide +kernel, by decide +kernel, by decide +kernel⟩

theorem witness_ManagementDma_11 : ∃ (s : State) (e : Fin 8) (j : MdmaJob),
    nextJob? s e 2 = some j ∧ hasClass s (engPath s e) 1 = false := ⟨{ lab 3 [(MDMA.ENG_STATUS_RUNNING 7, 1), (PART.TABLE_CTRL_UPSTREAM 0, 5)] with mdma := { jobs := [{ id := 0, eng := 7, index := 0, op := 2 }] } }, 7, { id := 0, eng := 7, index := 0, op := 2 }, by decide +kernel, by decide +kernel⟩

theorem witness_ManagementDma_12 : ∃ (s : State) (e : Fin 8) (j : MdmaJob),
    nextJob? s e 2 = some j ∧ hasClass s (engPath s e) 1 = true ∧ ((s.mdma.jobs.filter (fun x => x.eng = e.val ∧ x.op = 2 ∧ x.started ∧ x.status = none)).length < 8) := ⟨{ lab 3 [(MDMA.ENG_STATUS_RUNNING 7, 1)] with mdma := { jobs := [{ id := 0, eng := 7, index := 0, op := 2 }] } }, 7, { id := 0, eng := 7, index := 0, op := 2 }, by decide +kernel, by decide +kernel, by decide +kernel⟩

theorem witness_ManagementDma_13 : ∃ (s : State) (e : Fin 8) (j : MdmaJob),
    j ∈ s.mdma.jobs ∧ j.eng = e ∧ j.msgId.isSome = true ∧ j.status = none ∧ s.due j.dl = true := by
  refine ⟨{ lab 3 [] with mdma := { jobs := [{ id := 0, eng := 7, index := 0, op := 2, started := true, msgId := some 5, dl := some 5 }] }, adv := 5 }, 7, { id := 0, eng := 7, index := 0, op := 2, started := true, msgId := some 5, dl := some 5 }, ?_⟩
  and_intros <;> decide +kernel

theorem witness_ManagementDma_1 : ∃ (s : State) (u : State) (path : Path) (e : Fin 8) (val : Word) (rest : List CheckReq),
    s.img.checks = .enable ⟨path, MDMA.ENG_CTRL e, val⟩ :: rest ∧ s.img.stalled = [] ∧ u = { s with img := { s.img with checks := rest } } ∧ s.flag (MDMA.ENG_CTRL_ENABLE e) = false ∧ val.toNat.testBit 0 = true ∧ e ≠ 0 ∧ s.mode ≠ 7 ∧ s.flag (MDMA.ENG_OWNER_VALID e) = true ∧ 4 ≤ fieldOf val 1 4 ∧ fieldOf val 1 4 ≤ 12 ∧ checkState u (liveRd u) = none := by
  refine ⟨{ anEngine with img := { anEngine.img with checks := [.enable ⟨.msp, MDMA.ENG_CTRL 7, 25⟩] } }, anEngine, .msp, 7, 25, [], ?_, ?_, rfl, ?_, ?_, ?_, ?_, ?_, ?_, ?_, by exact anEngine_passes⟩
  all_goals and_intros <;> decide +kernel

theorem witness_RmaPacketsAndTimers_1 : ∃ (s : State) (u : State) (b : Fin 4) (p : Tfp) (r : RmaHdr) (cipher : List Byte) (tag : List Byte) (data : List Byte) (kind : Nat) (body : Nat) (c : Fin 1024),
    (kind = 0x20 ∨ kind = 0x21) ∧ RmaArrives s u b p kind r cipher tag ∧ openRma u p r cipher tag = some (body, data) ∧ r.dstConn = c ∧ (u.conn c).state = 2 ∧ u.get (ConnW.MODE c) = 0 ∧ r.psn = (u.conn c).rxNext ∧ r.psn ∉ (u.conn c).rxMap := by
  refine ⟨{ bridging 3 [] with rma := { conns := [(1023, { state := 2, rxNext := 7 })], crypto := [(4094, some [])] } }, ({ bridging 3 [] with rma := { conns := [(1023, { state := 2, rxNext := 7 })], crypto := [(4094, some [])] } }).takeRx (3) (aTfp 0x20 (.rma ⟨1023, 1, 0, false, 7, 0⟩ (List.replicate 16 0) [])), 3, (aTfp 0x20 (.rma ⟨1023, 1, 0, false, 7, 0⟩ (List.replicate 16 0) [])), (⟨1023, 1, 0, false, 7, 0⟩), (List.replicate 16 0), [], [], 0x20, 0, 1023, ?_⟩
  and_intros <;> decide +kernel

theorem witness_RmaPacketsAndTimers_1b : ∃ (s : State) (u : State) (b : Fin 4) (p : Tfp) (r : RmaHdr) (cipher : List Byte) (tag : List Byte) (data : List Byte) (kind : Nat) (body : Nat) (c : Fin 1024),
    (kind = 0x20 ∨ kind = 0x21) ∧ RmaArrives s u b p kind r cipher tag ∧ openRma u p r cipher tag = some (body, data) ∧ r.dstConn = c ∧ (u.conn c).state = 2 ∧ u.get (ConnW.MODE c) = 0 ∧ r.psn = (u.conn c).rxNext ∧ r.psn ∉ (u.conn c).rxMap := by
  refine ⟨{ bridging 3 [] with rma := { conns := [(1023, { state := 2, rxNext := 7 })], crypto := [(4094, some [])] } }, ({ bridging 3 [] with rma := { conns := [(1023, { state := 2, rxNext := 7 })], crypto := [(4094, some [])] } }).takeRx (3) (aTfp 0x21 (.rma ⟨1023, 1, 0, false, 7, 0⟩ (List.replicate 16 0) [])), 3, (aTfp 0x21 (.rma ⟨1023, 1, 0, false, 7, 0⟩ (List.replicate 16 0) [])), (⟨1023, 1, 0, false, 7, 0⟩), (List.replicate 16 0), [], [], 0x21, 0, 1023, ?_⟩
  and_intros <;> decide +kernel

theorem witness_RmaPacketsAndTimers_2 : ∃ (s : State) (u : State) (b : Fin 4) (p : Tfp) (r : RmaHdr) (cipher : List Byte) (tag : List Byte) (data : List Byte) (kind : Nat) (body : Nat) (c : Fin 1024),
    (kind = 0x20 ∨ kind = 0x21) ∧ RmaArrives s u b p kind r cipher tag ∧ openRma u p r cipher tag = some (body, data) ∧ r.dstConn = c ∧ (u.conn c).state = 2 ∧ 2 ^ 23 ≤ psnSub r.psn (u.conn c).rxNext := by
  refine ⟨{ bridging 3 [] with rma := { conns := [(1023, { state := 2, rxNext := 7 })], crypto := [(4094, some [])] } }, ({ bridging 3 [] with rma := { conns := [(1023, { state := 2, rxNext := 7 })], crypto := [(4094, some [])] } }).takeRx (3) (aTfp 0x20 (.rma ⟨1023, 1, 0, false, 6, 0⟩ (List.replicate 16 0) [])), 3, (aTfp 0x20 (.rma ⟨1023, 1, 0, false, 6, 0⟩ (List.replicate 16 0) [])), (⟨1023, 1, 0, false, 6, 0⟩), (List.replicate 16 0), [], [], 0x20, 0, 1023, ?_⟩
  and_intros <;> decide +kernel

theorem witness_RmaPacketsAndTimers_6 : ∃ (s : State) (u : State) (b : Fin 4) (p : Tfp) (r : RmaHdr) (cipher : List Byte) (tag : List Byte) (data : List Byte) (body : Nat) (c : Fin 1024),
    RmaArrives s u b p 0x22 r cipher tag ∧ openRma u p r cipher tag = some (body, data) ∧ r.dstConn = c ∧ (u.conn c).state = 2 ∧ workOfPsn u c (bitsHiLo body 127 104) = none := by
  refine ⟨{ bridging 3 [] with rma := { conns := [(1023, { state := 2 })], crypto := [(4094, some [])] } }, ({ bridging 3 [] with rma := { conns := [(1023, { state := 2 })], crypto := [(4094, some [])] } }).takeRx (3) (aTfp 0x22 (.rma ⟨1023, 1, 0, false, 0, 0⟩ (List.replicate 16 0) [])), 3, (aTfp 0x22 (.rma ⟨1023, 1, 0, false, 0, 0⟩ (List.replicate 16 0) [])), (⟨1023, 1, 0, false, 0, 0⟩), (List.replicate 16 0), [], [], 0, 1023, ?_⟩
  and_intros <;> decide +kernel

theorem witness_RmaPacketsAndTimers_7 : ∃ (s : State) (u : State) (b : Fin 4) (p : Tfp) (r : RmaHdr) (cipher : List Byte) (tag : List Byte) (data : List Byte) (body : Nat) (c : Fin 1024) (w : Work) (i : Nat) (g : Seg),
    RmaArrives s u b p 0x22 r cipher tag ∧ openRma u p r cipher tag = some (body, data) ∧ r.dstConn = c ∧ (u.conn c).state = 2 ∧ workOfPsn u c (bitsHiLo body 127 104) = some (w, i) ∧ w.segs[i]? = some g ∧ bitsHiLo body 103 96 = 0 := by
  refine ⟨{ bridging 3 [] with rma := { conns := [(1023, { state := 2 })], crypto := [(4094, some [])], works := [{ id := 0, ring := 0, index := 0, op := 2, conn := 1023, segs := [⟨0, 0, 64, some 0, false, []⟩] }] } }, ({ bridging 3 [] with rma := { conns := [(1023, { state := 2 })], crypto := [(4094, some [])], works := [{ id := 0, ring := 0, index := 0, op := 2, conn := 1023, segs := [⟨0, 0, 64, some 0, false, []⟩] }] } }).takeRx (3) (aTfp 0x22 (.rma ⟨1023, 1, 0, false, 0, 0⟩ (List.replicate 16 0) [])), 3, (aTfp 0x22 (.rma ⟨1023, 1, 0, false, 0, 0⟩ (List.replicate 16 0) [])), (⟨1023, 1, 0, false, 0, 0⟩), (List.replicate 16 0), [], [], 0, 1023, { id := 0, ring := 0, index := 0, op := 2, conn := 1023, segs := [⟨0, 0, 64, some 0, false, []⟩] }, 0, (⟨0, 0, 64, some 0, false, []⟩), ?_⟩
  and_intros <;> decide +kernel

theorem witness_RmaPacketsAndTimers_8 : ∃ (s : State) (u : State) (b : Fin 4) (p : Tfp) (r : RmaHdr) (cipher : List Byte) (tag : List Byte) (data : List Byte) (body : Nat) (c : Fin 1024),
    RmaArrives s u b p 0x23 r cipher tag ∧ openRma u p r cipher tag = some (body, data) ∧ r.dstConn = c ∧ ((u.conn c).state = 1 ∨ (u.conn c).state = 2) := by
  refine ⟨{ bridging 3 [] with rma := { conns := [(1023, { state := 1 })], crypto := [(4094, some [])] } }, ({ bridging 3 [] with rma := { conns := [(1023, { state := 1 })], crypto := [(4094, some [])] } }).takeRx (3) (aTfp 0x23 (.rma ⟨1023, 1, 0, false, 0, 0⟩ (List.replicate 16 0) [])), 3, (aTfp 0x23 (.rma ⟨1023, 1, 0, false, 0, 0⟩ (List.replicate 16 0) [])), (⟨1023, 1, 0, false, 0, 0⟩), (List.replicate 16 0), [], [], 0, 1023, ?_⟩
  and_intros <;> decide +kernel

theorem witness_RmaPacketsAndTimers_9 : ∃ (s : State) (u : State) (b : Fin 4) (p : Tfp) (r : RmaHdr) (cipher : List Byte) (tag : List Byte) (data : List Byte) (body : Nat) (c : Fin 1024) (w : Work) (i : Nat),
    RmaArrives s u b p 0x24 r cipher tag ∧ openRma u p r cipher tag = some (body, data) ∧ r.dstConn = c ∧ (u.conn c).state = 2 ∧ bitsHiLo body 103 96 ≠ 9 ∧ workOfPsn u c (bitsHiLo body 127 104) = some (w, i) := by
  refine ⟨{ bridging 3 [] with rma := { conns := [(1023, { state := 2 })], crypto := [(4094, some [])], works := [{ id := 0, ring := 0, index := 0, op := 2, conn := 1023, segs := [⟨0, 0, 64, some 0, false, []⟩] }] } }, ({ bridging 3 [] with rma := { conns := [(1023, { state := 2 })], crypto := [(4094, some [])], works := [{ id := 0, ring := 0, index := 0, op := 2, conn := 1023, segs := [⟨0, 0, 64, some 0, false, []⟩] }] } }).takeRx (3) (aTfp 0x24 (.rma ⟨1023, 1, 0, false, 0, 0⟩ (List.replicate 16 0) [])), 3, (aTfp 0x24 (.rma ⟨1023, 1, 0, false, 0, 0⟩ (List.replicate 16 0) [])), (⟨1023, 1, 0, false, 0, 0⟩), (List.replicate 16 0), [], [], 0, 1023, { id := 0, ring := 0, index := 0, op := 2, conn := 1023, segs := [⟨0, 0, 64, some 0, false, []⟩] }, 0, ?_⟩
  and_intros <;> decide +kernel

theorem witness_RmaPacketsAndTimers_10 : ∃ (s : State) (u : State) (b : Fin 4) (p : Tfp) (r : RmaHdr) (cipher : List Byte) (tag : List Byte) (data : List Byte) (body : Nat) (c : Fin 1024),
    RmaArrives s u b p 0x25 r cipher tag ∧ openRma u p r cipher tag = some (body, data) ∧ r.dstConn = c ∧ ((u.conn c).state = 2 ∨ (u.conn c).state = 6) := by
  refine ⟨{ bridging 3 [] with rma := { conns := [(1023, { state := 6 })], crypto := [(4094, some [])] } }, ({ bridging 3 [] with rma := { conns := [(1023, { state := 6 })], crypto := [(4094, some [])] } }).takeRx (3) (aTfp 0x25 (.rma ⟨1023, 1, 0, false, 0, 0⟩ (List.replicate 16 0) [])), 3, (aTfp 0x25 (.rma ⟨1023, 1, 0, false, 0, 0⟩ (List.replicate 16 0) [])), (⟨1023, 1, 0, false, 0, 0⟩), (List.replicate 16 0), [], [], 0, 1023, ?_⟩
  and_intros <;> decide +kernel

theorem witness_RmaPacketsAndTimers_11 : ∃ (s : State) (u : State) (b : Fin 4) (p : Tfp) (r : RmaHdr) (cipher : List Byte) (tag : List Byte) (data : List Byte) (body : Nat) (c : Fin 1024),
    RmaArrives s u b p 0x26 r cipher tag ∧ openRma u p r cipher tag = some (body, data) ∧ r.dstConn = c ∧ (u.conn c).state = 6 ∧ (u.conn c).unacked = [] := by
  refine ⟨{ bridging 3 [] with rma := { conns := [(1023, { state := 6 })], crypto := [(4094, some [])] } }, ({ bridging 3 [] with rma := { conns := [(1023, { state := 6 })], crypto := [(4094, some [])] } }).takeRx (3) (aTfp 0x26 (.rma ⟨1023, 1, 0, false, 0, 0⟩ (List.replicate 16 0) [])), 3, (aTfp 0x26 (.rma ⟨1023, 1, 0, false, 0, 0⟩ (List.replicate 16 0) [])), (⟨1023, 1, 0, false, 0, 0⟩), (List.replicate 16 0), [], [], 0, 1023, ?_⟩
  and_intros <;> decide +kernel

theorem witness_CheckerResultAndCommitApply_2 : ∃ (s : State) (r : State) (rest : List CheckReq) (snap : SMap Word) (atEpoch : Bool) (strict : Bool) (only : Bool) (epoch : Nat) (f : Fail),
    s.img.checks = .commit snap atEpoch strict only epoch :: rest ∧ r = { s with img := { s.img with checks := rest } } ∧ s.img.stalled = [] ∧ s.twin.sent = none ∧ (s.srcQ Src.commit).full = false ∧ commitCheck r snap atEpoch epoch = some f := by
  refine ⟨{ lab 3 [(⟨GLB.GEN, 20, 1⟩, 1)] with img := { checks := [.commit [(Region.word 0 4, 1)] false true false 0] } }, { ({ lab 3 [(⟨GLB.GEN, 20, 1⟩, 1)] with img := { checks := [.commit [(Region.word 0 4, 1)] false true false 0] } }) with img := { (({ lab 3 [(⟨GLB.GEN, 20, 1⟩, 1)] with img := { checks := [.commit [(Region.word 0 4, 1)] false true false 0] } })).img with checks := [] } }, [], [(Region.word 0 4, 1)], false, true, false, 0, (⟨8, offReg GLB.GEN⟩), ?_, rfl, ?_⟩
  all_goals and_intros <;> decide +kernel

theorem witness_CheckerResultAndCommitApply_3 : ∃ (s : State) (c : CheckReq) (rest : List CheckReq),
    s.img.checks = c :: rest ∧ resultWaits s c = true := ⟨{ (lab 3 []).setSrcQ Src.commit { queue := List.replicate 16 { type := .portLink }, store := List.replicate 64 { type := .portLink } } with img := { checks := [.commit [] false true false 0] } }, (.commit [] false true false 0), [], by decide +kernel, by decide +kernel⟩

theorem witness_CheckerResultAndCommitApply_4 : ∃ (s : State),
    s.img.checks = [] := ⟨(lab 3 []), by decide +kernel⟩

theorem witness_CheckerResultAndCommitApply_6 : ∃ (s : State) (c : Staged),
    s.img.commit = some c ∧ s.time.ft < c.epoch := ⟨{ lab 3 [] with img := { commit := some ⟨[], true, 5, false⟩ }, time := { ft := 4 } }, (⟨[], true, 5, false⟩), by decide +kernel, by decide +kernel⟩

theorem witness_CheckerResultAndCommitApply_0 : ∃ (s : State) (r : State) (rest : List CheckReq) (snap : SMap Word) (strict : Bool) (epoch : Nat),
    s.img.checks = .commit snap false strict true epoch :: rest ∧ r = { s with img := { s.img with checks := rest } } ∧ s.img.stalled = [] ∧ s.twin.sent = none ∧ (s.srcQ Src.commit).full = false ∧ commitCheck r snap false epoch = none := by
  refine ⟨{ aPlain with img := { checks := [.commit [] false true true 0] } }, aPlain, [], [], true, 0, ?_, rfl, ?_, ?_, ?_, commitCheck_nothing aPlain_passes rfl⟩
  all_goals and_intros <;> decide +kernel

theorem witness_CheckerResultAndCommitApply_1 : ∃ (s : State) (r : State) (rest : List CheckReq) (snap : SMap Word) (strict : Bool) (epoch : Nat),
    s.img.checks = .commit snap true strict false epoch :: rest ∧ r = { s with img := { s.img with checks := rest } } ∧ s.img.stalled = [] ∧ s.twin.sent = none ∧ (s.srcQ Src.commit).full = false ∧ commitCheck r snap true epoch = none := by
  refine ⟨{ aPlain with img := { checks := [.commit [] true true false (usFt 50)] } }, aPlain, [], [], true, (usFt 50), ?_, rfl, ?_, ?_, ?_, commitCheck_nothing aPlain_passes (by decide +kernel)⟩
  all_goals and_intros <;> decide +kernel

theorem witness_CheckerResultAndCommitApply_5 : ∃ (s : State) (c : Staged),
    s.img.commit = some c ∧ c.epoch ≤ s.time.ft ∧ genBusy { s with img := { s.img with commit := none } } c.snap = none ∧ busyTests { s with img := { s.img with commit := none } } (appliedRd { s with img := { s.img with commit := none } } c.snap) = none := by
  refine ⟨{ aPlain with img := { commit := some ⟨[], true, 0, false⟩ } }, (⟨[], true, 0, false⟩), ?_, ?_, genBusy_nothing _, busyTests_live _⟩
  all_goals and_intros <;> decide +kernel

end Sys2Proof
end

section
/-! PROOFS. The register interface at an offset of BAR0 that nothing occupies (R6): what the shared read and write of a word do there. -/
namespace Sys2Proof.Machine
open Sys2Proof

/-! ### Reads and writes of the register interface -/

theorem ignored_of_unoccupied {off : Nat} (h : occupied off = false) : ignored off = true := by
  simp [ignored, h]

theorem State.busWrite_ignored (s : State) (path : Path) {off : Nat} (val : Word) (h : ignored off = true) : s.busWrite path off val = s := by
  simp [State.busWrite, h]

theorem State.busRead_unoccupied (s : State) (path : Path) {off : Nat} (h : occupied off = false) : s.busRead path off = (0, s) := by
  simp [State.busRead, h]

/-- A read with nothing of its path waiting is answered at once (R33). -/
theorem State.readOut_of_idle (s : State) (path : Path) (off : Nat) (h : waitingAt s path = none) :
    s.readOut path off = (s.busRead path off).2.emit (.readData path off (s.busRead path off).1) := by
  simp [State.readOut, h]

/-! ### The commands that read or write a word -/

theorem exec_registerWrite (s : State) (path : Path) (off : BitVec 24) (val : Word) :
    exec (.registerWrite path off val) s = .next (s.busWrite path off.toNat val) := rfl

theorem exec_rcRead (s : State) (path : Path) (off : BitVec 24) : exec (.rcRead path off) s = .next (s.readOut path off.toNat) := rfl

/-! ### Unlisted offsets (R6) -/

/-- Settles O30: a write there is ignored before any check of the path, and a read answers 0 before the view is consulted. -/
theorem unlistedOffsetsReadZero : Obligations.UnlistedOffsetsReadZero := by
  unfold Obligations.UnlistedOffsetsReadZero
  intro s path off val hfree
  constructor
  · rw [exec_registerWrite, State.busWrite_ignored s path val (ignored_of_unoccupied hfree)]
  · intro hidle
    rw [exec_rcRead, State.readOut_of_idle s path off.toNat hidle, State.busRead_unoccupied s path hfree]

end Sys2Proof.Machine
end

section
/-! PROOFS. The length of a packet on a bundle (R276): the cells of a length (R149), the length of a TFP packet in the core and LMAX of a bundle's egress (R181). -/
namespace Sys2Proof.Machine
open Sys2Proof

/-! ### Cells (R149) -/

theorem cellsOf_mono {l m : Nat} (h : l ≤ m) : cellsOf l ≤ cellsOf m := by
  have hsum : l + 64 - 1 ≤ m + 64 - 1 := Nat.sub_le_sub_right (Nat.add_le_add_right h 64) 1
  exact Nat.div_le_div_right hsum

/-- 68 cells are the longest bundle packet's, with none of them part filled (R276). -/
theorem cellsOf_longest_tfp : cellsOf 4352 = 68 := rfl

/-! ### The length of a packet in the core -/

theorem pktLen_of_tfp {p : Pkt} {q : Tfp} {c : Chan} {np : Bool} (h : p.body = .tfp q c np) : pktLen p = 32 * tfpFlits q := by
  simp only [pktLen, h]

/-! ### A bundle's egress -/

/-- SCHED index 96 + b is PortID 112 + b: the bundles are the four egresses behind the 96 ports. -/
@[simp] theorem egressId_bundle (b : Nat) : egressId (96 + b) = 112 + b := by
  have hport : ¬ 96 + b < 96 := by omega
  rw [egressId, if_neg hport, Nat.add_sub_cancel_left]

theorem lmaxIdx_bundle (s : State) (b : Nat) : lmaxIdx s (96 + b) = 4352 + overheadOf s (112 + b) := by
  have hport : ¬ 96 + b < 96 := by omega
  rw [lmaxIdx, if_neg hport, egressId_bundle]

/-! ### The longest packet (R276) -/

/-- Settles O45: the length is read off the packet's body, and the cells follow because they grow with the length and 4,352 bytes are 68 of them. -/
theorem bundlePacketLength : Obligations.BundlePacketLength := by
  unfold Obligations.BundlePacketLength
  refine ⟨fun p q c np hbody => ?_, fun s b => lmaxIdx_bundle s b⟩
  have hlen : pktLen p = 32 * tfpFlits q := pktLen_of_tfp hbody
  refine ⟨hlen, fun hmost => ?_, fun hlongest => ?_⟩
  · have hbytes : pktLen p ≤ 4352 := by omega
    have hcells : cellsOf (pktLen p) ≤ 68 := cellsOf_longest_tfp ▸ cellsOf_mono hbytes
    exact ⟨hbytes, hcells⟩
  · have hbytes : pktLen p = 4352 := by omega
    exact ⟨hbytes, hbytes ▸ cellsOf_longest_tfp⟩

end Sys2Proof.Machine
end

section
/-! PROOFS. What the reactions to a fault event leave: the words in which the collector latches events (R421, R446). Interrupts, sheds, stop croak and the
failover write registers of other blocks, or those of the collector that lie above the latches. -/
namespace Sys2Proof.Machine
open Sys2Proof

/-! ### The latch words -/

/-- The words from STATUS_LO to FIRST_LEDGER_HI, in which the collector latches events (R446), are in `t` as they are in `s`. -/
def KeepsLatches (s t : State) : Prop := ∀ o, 0x30000 ≤ o → o < 0x30020 → t.rd o = s.rd o

theorem connWord_above (c k : Nat) : 0x30020 ≤ ConnW.word c k := by
  simp only [ConnW.word]; omega

theorem winWord_above (w k : Nat) : 0x30020 ≤ Win.word w k := by
  simp only [Win.word]; omega

theorem vdsp_above (p d : Nat) : 0x30020 ≤ PART.VDSP p d := by
  simp only [PART.VDSP]; omega

namespace KeepsLatches

theorem get {s t : State} (h : KeepsLatches s t) (f : RF) (hlo : 0x30000 ≤ f.off := by decide) (hhi : f.off < 0x30020 := by decide) :
    t.get f = s.get f := by
  simp only [State.get, h f.off hlo hhi]

theorem refl {s : State} : KeepsLatches s s := fun _ _ _ => rfl

section
variable {s t : State} (h : KeepsLatches s t)
include h

theorem trans {u : State} (hu : KeepsLatches t u) : KeepsLatches s u := fun o hlo hhi => (hu o hlo hhi).trans (h o hlo hhi)

/-! ### Control structure -/

theorem ite {u : State} (hu : KeepsLatches s u) {c : Prop} [Decidable c] : KeepsLatches s (if c then t else u) := by
  split
  · exact h
  · exact hu

theorem when {c : Bool} {f : State → State} (hf : KeepsLatches t (f t)) : KeepsLatches s (t.when c f) := by
  unfold State.when
  exact .ite (h.trans hf) h

theorem foldl {α : Type} {f : State → α → State} {l : List α} (hf : ∀ u a, KeepsLatches u (f u a)) : KeepsLatches s (l.foldl f t) := by
  induction l generalizing t with
  | nil => exact h
  | cons a l ih => exact ih (h.trans (hf t a))

/-! ### Words and fields

A name with `At` is for a register of an array, whose base is `b`; one with `Below` for a register under the collector's block. -/

theorem of_regs {u : State} (hu : u.regs = t.regs) : KeepsLatches s u :=
  h.trans fun o _ _ => State.rd_congr hu o

theorem wr_outside {o : Nat} {w : Word} (ho : o < 0x30000 ∨ 0x30020 ≤ o) : KeepsLatches s (t.wr o w) :=
  h.trans fun p hlo hhi => State.rd_wr_other t w (by omega)

theorem wr {o : Nat} {w : Word} (ho : 0x30020 ≤ o := by decide) : KeepsLatches s (t.wr o w) := h.wr_outside (.inr ho)

theorem wrBelow {o : Nat} {w : Word} (ho : o < 0x30000 := by decide) : KeepsLatches s (t.wr o w) := h.wr_outside (.inl ho)

theorem set {f : RF} {v : Nat} (hf : 0x30020 ≤ f.off := by decide) : KeepsLatches s (t.set f v) := h.wr hf

theorem setBelow {f : RF} {v : Nat} (hf : f.off < 0x30000 := by decide) : KeepsLatches s (t.set f v) := h.wrBelow hf

theorem setAt {f : RF} {v b k : Nat} (hf : f.off = b + k := by rfl) (hb : 0x30020 ≤ b := by decide) : KeepsLatches s (t.set f v) :=
  h.set (hf ▸ Nat.le_add_right_of_le hb)

theorem addSat {f : RF} {v : Nat} (hf : 0x30020 ≤ f.off := by decide) : KeepsLatches s (t.addSat f v) := h.set hf

theorem addSatAt {f : RF} {v b k : Nat} (hf : f.off = b + k := by rfl) (hb : 0x30020 ≤ b := by decide) : KeepsLatches s (t.addSat f v) :=
  h.setAt hf hb

theorem wr64At {o v b k : Nat} (ho : o = b + k := by rfl) (hb : 0x30020 ≤ b := by decide) : KeepsLatches s (t.wr64 o v) := by
  have hbase : 0x30020 ≤ o := ho ▸ Nat.le_add_right_of_le hb
  exact (h.wr hbase).wr (Nat.le_add_right_of_le hbase)

/-! ### Parts of the state beside the registers -/

theorem core {c : Core} : KeepsLatches s { t with core := c } := h.of_regs rfl
theorem brg {c : Bridge} : KeepsLatches s { t with brg := c } := h.of_regs rfl
theorem rma {c : Rma} : KeepsLatches s { t with rma := c } := h.of_regs rfl
theorem mdma {c : Mdma} : KeepsLatches s { t with mdma := c } := h.of_regs rfl
theorem part {c : Part} : KeepsLatches s { t with part := c } := h.of_regs rfl
theorem time {c : Time} : KeepsLatches s { t with time := c } := h.of_regs rfl
theorem twin {c : Twin} : KeepsLatches s { t with twin := c } := h.of_regs rfl
theorem flt {c : Collector} : KeepsLatches s { t with flt := c } := h.of_regs rfl
theorem dbg {c : Debug} : KeepsLatches s { t with dbg := c } := h.of_regs rfl
theorem msix {c : SMap Word} : KeepsLatches s { t with msix := c } := h.of_regs rfl

theorem post {k : Nat} {e : Ev} : KeepsLatches s (t.post k e) := h.of_regs (State.post_regs t k e)
theorem count {q k n : Nat} : KeepsLatches s (t.count q k n) := h.of_regs (State.count_regs t q k n)
theorem cfgWr {fn dw : Nat} {w : Word} : KeepsLatches s (t.cfgWr fn dw w) := h.of_regs (State.cfgWr_regs t fn dw w)
theorem setPaux {n : Nat} {a : PortAux} : KeepsLatches s (t.setPaux n a) := h.of_regs (State.setPaux_regs t n a)
theorem setRing {r : Nat} {g : Ring} : KeepsLatches s (t.setRing r g) := h.of_regs (State.setRing_regs t r g)
theorem setMemKey {i : Nat} {k : Key} : KeepsLatches s (t.setMemKey i k) := h.of_regs (State.setMemKey_regs t i k)
theorem setEng {e : Nat} {g : MdmaEng} : KeepsLatches s (t.setEng e g) := h.of_regs (State.setEng_regs t e g)
theorem setTag {x : Nat} {e : Option TagEntry} : KeepsLatches s (t.setTag x e) := h.of_regs rfl
theorem onSampler {k : Nat} {f : Sampler → Sampler} : KeepsLatches s (t.onSampler k f) := h.of_regs rfl
theorem mapWorks {sel : Work → Bool} {f : Work → Work} : KeepsLatches s (t.mapWorks sel f) := h.of_regs rfl
theorem failWorks {sel : Work → Bool} {st : Nat} : KeepsLatches s (t.failWorks sel st) := h.mapWorks
theorem mapJobs {sel : MdmaJob → Bool} {f : MdmaJob → MdmaJob} : KeepsLatches s (t.mapJobs sel f) := h.of_regs rfl
theorem localWriteEnded {w : Nat} : KeepsLatches s (t.localWriteEnded w) := h.mapWorks
theorem ringEvent {r st i : Nat} : KeepsLatches s (t.ringEvent r st i) := h.setRing
theorem forgetEnded {n : Nat} : KeepsLatches s (t.forgetEnded n) := h.of_regs rfl
theorem bumpDdt : KeepsLatches s t.bumpDdt := h.of_regs rfl

/-! ### Packets in the core (R149 to R175) -/

theorem noteEnter {p : Pkt} : KeepsLatches s (t.noteEnter p) := by
  unfold State.noteEnter
  have hpeak : ∀ u : State, KeepsLatches s u → KeepsLatches s (if u.get (CORE.IBUF_PEAK_PEAK (ibufOf u p.ingress)) < ibufUsed u (ibufOf u p.ingress)
      then u.set (CORE.IBUF_PEAK_PEAK (ibufOf u p.ingress)) (ibufUsed u (ibufOf u p.ingress)) else u) := fun u hu => .ite hu.setAt hu
  cases samplerOf t p with
  | none => exact .ite (hpeak _ h) h
  | some k => exact .ite (hpeak _ h.onSampler) h.onSampler

theorem noteLeave {p : Pkt} : KeepsLatches s (t.noteLeave p) := by
  unfold State.noteLeave
  split
  · exact h.onSampler
  · exact h

theorem addPkt {p : Pkt} : KeepsLatches s (t.addPkt p) := by
  unfold State.addPkt
  exact .noteEnter (.core h)

theorem dropPkt {id : Nat} : KeepsLatches s (t.dropPkt id) := by
  unfold State.dropPkt
  cases t.core.pkts.find? (fun p => p.id = id) with
  | none => exact .core h
  | some p => exact .core h.noteLeave

theorem sendTfp {p : Tfp} {i : Nat} {o : Origin} : KeepsLatches s (t.sendTfp p i o) := by
  unfold State.sendTfp
  split
  · exact h.addPkt
  · exact .ite (.addSat (.addSat h)) (.addSat h)

theorem setMirror {m : Nat} {v : MirrorSess} : KeepsLatches s (t.setMirror m v) := by
  unfold State.setMirror
  exact .setAt (.core h)

theorem mirrorDrop {m : Nat} : KeepsLatches s (t.mirrorDrop m) := by
  unfold State.mirrorDrop
  exact .addSatAt (.setMirror h)

theorem mirrorCopy {m : Nat} {p : Pkt} {x : Tlp} {l : Bool} : KeepsLatches s (t.mirrorCopy m p x l) := by
  unfold State.mirrorCopy
  exact .ite h.mirrorDrop h.setMirror

theorem mirrorHalf {p : Pkt} {l : Bool} : KeepsLatches s (t.mirrorHalf p l) := by
  unfold State.mirrorHalf
  split
  · exact h
  · exact .ite h (.foldl h fun _ _ => .ite (.mirrorCopy .refl) .refl)

theorem sendTlp {x : Tlp} {i e : Nat} {o : Origin} : KeepsLatches s (t.sendTlp x i e o) := by
  unfold State.sendTlp
  exact .ite h.count (.ite h.count (.addPkt h.mirrorHalf))

/-! ### Virtual downstream ports and interrupts (R218, R468) -/

theorem raiseVector {p v : Nat} : KeepsLatches s (t.raiseVector p v) := by
  unfold State.raiseVector
  exact .ite h.sendTlp h.msix

theorem portMsi {p fn rid : Nat} : KeepsLatches s (t.portMsi p fn rid) := by
  unfold State.portMsi
  exact .ite h.sendTlp (.ite h h.sendTlp)

theorem hotplugIrq {p d : Nat} : KeepsLatches s (t.hotplugIrq p d) := by
  unfold State.hotplugIrq
  exact .ite h.portMsi h

theorem slotShows {fn : Nat} {pr l tell : Bool} : KeepsLatches s (t.slotShows fn pr l tell) := by
  unfold State.slotShows
  exact .cfgWr (.cfgWr h)

theorem updatePresence {p d : Nat} : KeepsLatches s (t.updatePresence p d) := by
  unfold State.updatePresence
  exact .ite h (.hotplugIrq (.slotShows (.set h (vdsp_above p d))))

theorem presenceOf {n : Nat} : KeepsLatches s (t.presenceOf n) := by
  unfold State.presenceOf
  exact .foldl (.ite h.slotShows h) fun _ _ => .foldl .refl fun _ _ => .ite (.updatePresence .refl) .refl

/-! ### The bridge: tags, notices and the fence (R321 to R329) -/

theorem freeTag {x : Nat} : KeepsLatches s (t.freeTag x) := by
  unfold State.freeTag
  split
  · exact h
  · exact .ite (.set (.set h.setTag)) (.set (.set h.setTag))

theorem noticeFor {g : TfpHdr} {c a : Nat} : KeepsLatches s (t.noticeFor g c a) := by
  unfold State.noticeFor
  split
  · exact h.brg
  · exact .ite h.addSat (.sendTfp h.brg)

theorem rwfRecord {w c n d a g : Nat} : KeepsLatches s (t.rwfRecord w c n d a g) := by
  unfold State.rwfRecord
  have hcount : KeepsLatches s (t.addSat (BRG.RWF_COUNT_V (t.get (Win.PART w))) n) := h.addSatAt
  exact .post (.ite (.raiseVector (.ite hcount (.wr64At (.wr64At (.setAt (.setAt (.setAt (.setAt hcount)))))))) (.ite hcount
    (.wr64At (.wr64At (.setAt (.setAt (.setAt (.setAt hcount))))))))

theorem fenceFail {w r g : Nat} : KeepsLatches s (t.fenceFail w r g) := by
  unfold State.fenceFail
  have hcounted : ∀ e, KeepsLatches s ((((t.set (BRG.FENCE_FAILED w) 1).addSat (BRG.FENCE_FAILS w) 1).addSat (BRG.FENCE_STATS_V w) 1).post Src.brg e) :=
    fun e => .post (.addSatAt (.addSatAt (.setAt h)))
  exact .ite (hcounted _) (.ite (.setAt (.brg (hcounted _))) (.setAt (hcounted _)))

theorem failEntry {e : TagEntry} {n st c : Nat} : KeepsLatches s (t.failEntry e n st c) := by
  unfold State.failEntry
  split
  · exact h.sendTfp
  · exact h.sendTlp

theorem failOut {p : Tfp} {st : Nat} : KeepsLatches s (t.failOut p st) := by
  unfold State.failOut
  split
  · exact h
  · exact .ite (.freeTag (.set h.fenceFail (winWord_above _ 7))) (.failEntry h.freeTag)

/-! ### Remote memory access (R343 to R368) -/

theorem setConn {c : Nat} {k : Conn} : KeepsLatches s (t.setConn c k) := by
  unfold State.setConn
  exact .wr h.rma (connWord_above c 3)

theorem onConn {c : Nat} {f : Conn → Conn} : KeepsLatches s (t.onConn c f) := h.setConn

theorem connTo {c st : Nat} : KeepsLatches s (t.connTo c st) := by
  unfold State.connTo
  exact .post h.onConn

theorem connBroken {c : Nat} : KeepsLatches s (t.connBroken c) := by
  unfold State.connBroken State.dropUnacked
  exact .connTo (.ringEvent (.failWorks (.onConn (.set h))))

theorem advanceCounter {c : Nat} : KeepsLatches s (t.advanceCounter c) := by
  unfold State.advanceCounter
  exact .ite (.connTo (.ringEvent (.ite (.ringEvent h.setConn) h.setConn))) (.ite (.ringEvent h.setConn) h.setConn)

theorem sendRma {c k p n : Nat} {ro : Bool} {d : List Byte} : KeepsLatches s (t.sendRma c k p ro n d) := by
  unfold State.sendRma
  dsimp only
  split
  · exact h
  · exact .ite h (.advanceCounter h.sendTfp)

theorem sendNak {c p n : Nat} : KeepsLatches s (t.sendNak c p n) := by
  unfold State.sendNak
  exact .ite h.sendRma h

theorem ackSoon {c : Nat} : KeepsLatches s (t.ackSoon c) := h.onConn

theorem keyRevoked {i : Nat} : KeepsLatches s (t.keyRevoked i) := by
  unfold State.keyRevoked
  exact .post (.ringEvent h.setMemKey)

theorem keyLeaves {i : Nat} : KeepsLatches s (t.keyLeaves i) := by
  unfold State.keyLeaves
  exact .ite (.keyRevoked h.setMemKey) h.setMemKey

theorem serveDone {x : RmaRx} : KeepsLatches s (t.serveDone x) := by
  unfold State.serveDone
  have hleft := h.rma (c := { t.rma with serving := t.rma.serving.filter (fun y => y.id ≠ x.id) }) |>.keyLeaves (i := x.key)
  exact .ite (.ite (.ackSoon hleft.sendNak) (.ite hleft.sendRma hleft)) (.ite (.ite (.ackSoon hleft.sendNak) (.ackSoon hleft.onConn)) hleft)

theorem serveEnded {v c : Nat} : KeepsLatches s (t.serveEnded v c) := by
  unfold State.serveEnded
  split
  · exact h
  · exact .ite (.serveDone h.rma) h.rma

theorem rmaReadFree {g : Nat} : KeepsLatches s (t.rmaReadFree g) := by
  unfold State.rmaReadFree
  exact .set h.rma

theorem readLost {r : RmaRead} {st c : Nat} : KeepsLatches s (t.readLost r st c) := by
  unfold State.readLost
  exact .ite h.serveEnded (.ite h.failWorks (.setAt (.setRing h.rma)))

theorem rmaReadFailed {g st : Nat} : KeepsLatches s (t.rmaReadFailed g st) := by
  unfold State.rmaReadFailed
  split
  · exact h
  · exact .readLost h.rmaReadFree

/-! ### Reads of the other internal masters (R225, R486, R513) -/

theorem mdmaReadLost {r : MdmaRead} {st : Nat} : KeepsLatches s (t.mdmaReadLost r st) := by
  unfold State.mdmaReadLost State.addJob
  exact .ite (.setAt (.setEng h.mdma)) h.mapJobs

theorem mdmaReadFailed {g st : Nat} : KeepsLatches s (t.mdmaReadFailed g st) := by
  unfold State.mdmaReadFailed State.mdmaReadFree
  split
  · exact .mdmaReadLost (.set h.mdma)
  · exact h

theorem debugEnds {st d : Nat} : KeepsLatches s (t.debugEnds st d) := by
  unfold State.debugEnds
  split
  · exact h.dbg
  · exact h

theorem mailboxEnds {r : Nat} {d : Word} : KeepsLatches s (t.mailboxEnds r d) := by
  unfold State.mailboxEnds
  exact .ite (.ite (.wr (.part (.set (.set h)))) (.part (.set (.set h)))) h

/-! ### How a packet ends (R172, R425, R553) -/

theorem failNp {o : Origin} {r g tc n st c : Nat} : KeepsLatches s (t.failNp o r g tc n st c) := by
  unfold State.failNp
  cases o with
  | port n => exact h.sendTlp
  | func n r => exact h.sendTlp
  | tagged x =>
    dsimp only
    split
    · exact .failEntry h.freeTag
    · exact h
  | bridged g acked x a =>
    cases x with
    | none => exact .sendTfp h
    | some i => exact .sendTfp h.freeTag
  | rmaServe v => exact h.serveEnded
  | rmaRead k => exact h.rmaReadFailed
  | mdmaRead k => exact h.mdmaReadFailed
  | debug => exact h.debugEnds
  | mailbox => exact h.mailboxEnds
  | rmaWrite | mdmaWrite | mirror | none_ => exact h

theorem mirrorLost {m q : Nat} : KeepsLatches s (t.mirrorLost m q) := by
  unfold State.mirrorLost
  exact .ite h (.setMirror h.mirrorDrop)

theorem endPkt {p : Pkt} {e : EndPath} {g : Nat} : KeepsLatches s (t.endPkt p e g) := by
  unfold State.endPkt
  have hgone : ∀ q k n, KeepsLatches s ((t.dropPkt p.id).count q k n) := fun q k n => .count h.dropPkt
  dsimp only
  cases p.body with
  | tlp x =>
    refine .ite ?_ (.ite (.ite (hgone _ _ _) ?_) ?_)
    · split
      · exact (hgone _ _ _).failNp
      · exact .ite (hgone _ _ _).failNp (hgone _ _ _)
    · split
      · exact .ite (hgone _ _ _).sendTfp (hgone _ _ _).noticeFor
      · exact (hgone _ _ _).serveEnded
      · exact (hgone _ _ _).localWriteEnded
      · exact (hgone _ _ _).mirrorLost
      · exact (hgone _ _ _).debugEnds
      · exact hgone _ _ _
    · split
      · exact (hgone _ _ _).freeTag
      · exact hgone _ _ _
  | tfp q c np =>
    refine .ite (hgone _ _ _) (.ite (.ite (hgone _ _ _).rwfRecord (hgone _ _ _).noticeFor) (.ite (.ite ?_ (hgone _ _ _).sendTfp)
      (.ite (hgone _ _ _).sendTfp (.ite (hgone _ _ _).addSat (hgone _ _ _)))))
    split
    · exact .ite (hgone _ _ _).fenceFail (hgone _ _ _).failEntry
    · exact (hgone _ _ _).failOut

theorem endAll {sel : Pkt → Bool} {e : EndPath} {g : Nat} : KeepsLatches s (t.endAll sel e g) := by
  unfold State.endAll
  exact .foldl h fun _ _ => .endPkt .refl

theorem endOut {r : NpRec} {e : EndPath} {g : Nat} {l : Bool} : KeepsLatches s (t.endOut r e g l) := by
  unfold State.endOut
  dsimp only
  split
  · exact .failNp (.count h.core)
  · exact .count h.core

theorem endOuts {n : Nat} {e : EndPath} {l : Bool} : KeepsLatches s (t.endOuts n e l) := by
  unfold State.endOuts
  exact .foldl h fun _ _ => .endOut .refl

theorem dropEntered {p : Pkt} {g : Nat} : KeepsLatches s (t.dropEntered p g) := by
  unfold State.dropEntered
  have hgone : KeepsLatches s ((t.dropPkt p.id).count g 15 1) := .count h.dropPkt
  dsimp only
  split
  · exact .ite (.freeTag (.when hgone (.set .refl (winWord_above _ 7)))) hgone
  · exact .freeTag hgone
  · exact hgone

/-! ### Sheds (R425 to R427) -/

theorem linkOff {n st : Nat} : KeepsLatches s (t.linkOff n st) := by
  unfold State.linkOff
  exact .forgetEnded (.time (.setAt (.setAt (.setAt (.setAt (.setAt (.setAt (.setAt h))))))))

theorem drainEnds {n w np o : Nat} : KeepsLatches s (t.drainEnds n w np o) := by
  unfold State.drainEnds
  exact .post (.setPaux (.setAt h))

theorem shedTraffic {n : Nat} : KeepsLatches s (t.shedTraffic n) := by
  unfold State.shedTraffic
  exact .foldl (.endOuts h.endAll) fun _ _ => .dropEntered .refl

theorem mirrorShed {n : Nat} : KeepsLatches s (t.mirrorShed n) := by
  unfold State.mirrorShed
  exact .foldl h fun _ _ => .ite (.addSatAt (.setMirror .refl)) .refl

theorem shedPort {n : Nat} {d : Bool} {c : Nat} : KeepsLatches s (t.shedPort n d c) := by
  unfold State.shedPort
  have hmarked : KeepsLatches s (if d then t.set (PORT.STATUS_DPC n) 1 else t.setPaux n { t.paux n with collector := true }) := .ite h.setAt h.setPaux
  have hdown := KeepsLatches.presenceOf (n := n) (.linkOff (n := n) (st := 7) (.mirrorShed (n := n) (.shedTraffic (n := n)
    (hmarked.setAt (f := PORT.STATUS_SHED n) (v := 1)))))
  exact .post (.ite hmarked (.ite hdown.drainEnds hdown))

theorem shedBundle {b c : Nat} : KeepsLatches s (t.shedBundle b c) := by
  unfold State.shedBundle
  exact .post (.endAll (.set (.setAt h)))

theorem shedPart {p c : Nat} : KeepsLatches s (t.shedPart p c) := by
  unfold State.shedPart
  exact .post (.foldl (.foldl (.foldl (.foldl (.foldl (.wr h) fun _ _ => .shedPort .refl) fun _ _ => .dropEntered .refl)
    fun _ _ => .ite (.setAt (.setAt .refl)) .refl) fun _ _ => .connBroken .refl) fun _ _ => .ite (.setAt (.setAt .refl)) .refl)

theorem shedFor {k : Nat} {x : ShedTarget} : KeepsLatches s (t.shedFor k x) := by
  unfold State.shedFor
  cases x with
  | port n => exact .shedPort h.flt
  | part p => exact .shedPart h.flt
  | bundle b => exact .shedBundle h.flt

theorem shedAll {k : Nat} {l : List ShedTarget} : KeepsLatches s (l.foldl (fun u x => u.shedFor k x) t) :=
  .foldl h fun _ _ => .shedFor .refl

/-! ### Stop croak and the failover reaction (R403, R407) -/

theorem stopCroak : KeepsLatches s t.stopCroak := by
  unfold State.stopCroak
  exact .set (.set h)

theorem sendTwin {k : Nat} {d : List Byte} : KeepsLatches s (t.sendTwin k d) := by
  unfold State.sendTwin
  exact h.addPkt

theorem devidFor {m : Nat} {i : Bool} : KeepsLatches s (t.devidFor m i) := by
  unfold State.devidFor
  have hput : ∀ d v r, KeepsLatches s (((t.set GLB.DEVID_DEVID d).set GLB.DEVID_VALID v).set GLB.DEVID_ROLE r) :=
    fun d v r => .setBelow (.setBelow (.setBelow h))
  exact .ite h.wrBelow (.ite (hput 0 1 2) (.ite (.ite (hput 0 0 1) h.setBelow) (.ite (.ite (hput 0 0 1) h.setBelow)
    (.ite (.ite h (.ite h.setBelow h)) h))))

theorem enterMode {m g : Nat} {i : Bool} : KeepsLatches s (t.enterMode m g i) := by
  unfold State.enterMode
  have hshown : ∀ v, KeepsLatches s (if m = t.get GLB.MODE_CURRENT then t.devidFor m i else (t.devidFor m i).set GLB.MODE_PREVIOUS v) :=
    fun v => .ite h.devidFor (.setBelow h.devidFor)
  exact .post (.bumpDdt (.ite (.mdma (.setBelow (.setBelow (hshown _)))) (.setBelow (.setBelow (hshown _)))))

theorem failoverReaction {k : Nat} : KeepsLatches s (t.failoverReaction k) := by
  unfold State.failoverReaction
  have hshed : ∀ u : State, KeepsLatches s u → KeepsLatches s ((dataPorts u).foldl (fun s n => s.shedPort n false 4) u) :=
    fun u hu => .foldl hu fun _ _ => .shedPort .refl
  exact .ite (.ite (.enterMode (hshed _ (.twin h.sendTwin))) (hshed _ (.twin h.sendTwin))) h.post

/-! ### The actions of an event (R422, R423) -/

theorem runActions {k i a : Nat} {own : Option Nat} : KeepsLatches s (t.runActions k i a own) := by
  unfold State.runActions
  have hirq := KeepsLatches.ite (c := bitOf a 0) (.foldl (l := List.range 32) h fun u p =>
    .ite (c := u.flag (FLT.IRQ_VEC_EN p)) (KeepsLatches.raiseVector (p := p) (v := u.get (FLT.IRQ_VEC_VECTOR p)) .refl) .refl) h
  have hports := fun l => KeepsLatches.ite (c := bitOf a 2) (hirq.shedAll (k := k) (l := l)) hirq
  have hparts := fun l m => KeepsLatches.ite (c := bitOf a 3) ((hports l).shedAll (k := k) (l := m)) (hports l)
  have hcroak := fun l m => KeepsLatches.ite (c := bitOf a 5) (hparts l m).stopCroak (hparts l m)
  exact .ite (hcroak _ _).failoverReaction (hcroak _ _)

theorem repeatFault {k i a : Nat} {own : Option Nat} : KeepsLatches s (t.repeatFault k i a own) := by
  unfold State.repeatFault
  exact .ite h.addSatAt (.post (.shedAll h.addSatAt))

end
end KeepsLatches
end Sys2Proof.Machine
end

section
/-! PROOFS. FLT.FIRST and FLT.OVERFLOW cleared by writing 1 (R432): the write of such a word, and the record an event makes where FIRST is free (R421). -/
namespace Sys2Proof.Machine
open Sys2Proof

/-! ### A word whose bit 0 is RW1C (R9) -/

/-- What a write leaves of a word whose bit 0 clears where 1 is written and whose other bits are read-only. -/
def clearedByOne (old val : Word) : Word := old &&& ~~~(val &&& fieldMask 0 1)

theorem getLsbD_clearedByOne (old val : Word) {i : Nat} (hi : i < 32) :
    (clearedByOne old val).getLsbD i = (old.getLsbD i && !(val.getLsbD i && decide (i = 0))) := by
  have hmask : (fieldMask 0 1).getLsbD i = decide (i = 0) := by
    have hone : fieldMask 0 1 = 1#32 := rfl
    simp [hone, BitVec.getLsbD_one]
  simp only [clearedByOne, BitVec.getLsbD_and, BitVec.getLsbD_not, hmask, hi, decide_true, Bool.true_and]

theorem fieldOf_bit (w : Word) (lo : Nat) : fieldOf w lo 1 = (w.getLsbD lo).toNat :=
  (Nat.toNat_testBit w.toNat lo).symm

theorem fieldOf_clearedByOne_bit (old val : Word) :
    fieldOf (clearedByOne old val) 0 1 = if val.toNat % 2 = 1 then 0 else fieldOf old 0 1 := by
  have hval : val.getLsbD 0 = decide (val.toNat % 2 = 1) := by simp [BitVec.getLsbD, Nat.testBit_zero]
  rw [fieldOf_bit, fieldOf_bit, getLsbD_clearedByOne old val (by decide), hval]
  by_cases hone : val.toNat % 2 = 1
  · simp [hone]
  · simp [hone]

theorem fieldOf_clearedByOne_other (old val : Word) {lo n : Nat} (hlo : 1 ≤ lo) (hn : lo + n ≤ 32) :
    fieldOf (clearedByOne old val) lo n = fieldOf old lo n := by
  apply Nat.eq_of_testBit_eq
  intro i
  rw [testBit_fieldOf, testBit_fieldOf]
  by_cases hi : i < n
  · have hbit : decide (lo + i = 0) = false := by simp only [decide_eq_false_iff_not]; omega
    rw [getLsbD_clearedByOne old val (by omega), hbit, Bool.and_false, Bool.not_false, Bool.and_true]
  · simp [hi]

/-! ### A write that reaches its register (R33, R79, R476) -/

theorem State.writing_of_reaches {s : State} {path : Path} {off : Nat} (h : reaches s path off = true) (val : Word) (f : State → State) :
    s.writing path off val f = f s := by
  simp only [reaches, Bool.and_eq_true, Bool.not_eq_true', Option.isNone_iff_eq_none, decide_eq_true_eq, Bool.or_eq_true] at h
  obtain ⟨⟨⟨⟨hfree, hidle⟩, hon⟩, hmode⟩, hclass⟩ := h
  refine State.writing_admitted s path off val f hfree hidle ?_ hclass
  rintro (hoff | ⟨hparked, hclosed⟩)
  · omega
  · exact hmode.elim (fun hawake => hawake hparked) hclosed

/-- TWIN.DECIDE and the alarms' CTRL, whose writes are met by rules of their own (R109, R406), are left out. -/
theorem State.busWrite_of_reaches {s : State} {path : Path} {off : Nat} (h : reaches s path off = true) (val : Word)
    (hseen : ignored off = false := by decide) (hdecide : off ≠ TWIN.DECIDE := by decide) (halarm : alarmAt off = none := by decide) :
    s.busWrite path off val = s.actWrite path off val := by
  rw [State.busWrite, hseen, if_neg Bool.false_ne_true, if_neg hdecide, halarm]
  exact State.writing_of_reaches h val _

/-! ### FIRST and OVERFLOW written (R432, R446) -/

theorem State.actWrite_first (s : State) (path : Path) (val : Word) :
    s.actWrite path FLT.FIRST val = s.wr FLT.FIRST (clearedByOne (s.rd FLT.FIRST) val) := rfl

theorem State.actWrite_overflow (s : State) (path : Path) (val : Word) :
    s.actWrite path FLT.OVERFLOW val = s.wr FLT.OVERFLOW (clearedByOne (s.rd FLT.OVERFLOW) val) := rfl

theorem State.get_wr_same (s : State) {o : Nat} (w : Word) {f : RF} (h : f.off = o) : (s.wr o w).get f = fieldOf w f.lo f.n := by
  rw [State.get, h, State.rd_wr_same]

theorem State.get_first_valid_wr (s : State) (w : Word) : (s.wr FLT.FIRST w).get FLT.FIRST_VALID = fieldOf w 0 1 := State.get_wr_same s w rfl

theorem State.get_overflow_wr (s : State) (w : Word) : (s.wr FLT.OVERFLOW w).get FLT.OVERFLOW_OVERFLOW = fieldOf w 0 1 := State.get_wr_same s w rfl

theorem exec_registerWrite_first {s : State} {path : Path} (h : reaches s path FLT.FIRST = true) (val : Word) :
    exec (.registerWrite path (BitVec.ofNat 24 FLT.FIRST) val) s = .next (s.wr FLT.FIRST (clearedByOne (s.rd FLT.FIRST) val)) :=
  congrArg Host.Outcome.next ((State.busWrite_of_reaches h val).trans (s.actWrite_first path val))

theorem exec_registerWrite_overflow {s : State} {path : Path} (h : reaches s path FLT.OVERFLOW = true) (val : Word) :
    exec (.registerWrite path (BitVec.ofNat 24 FLT.OVERFLOW) val) s = .next (s.wr FLT.OVERFLOW (clearedByOne (s.rd FLT.OVERFLOW) val)) :=
  congrArg Host.Outcome.next ((State.busWrite_of_reaches h val).trans (s.actWrite_overflow path val))

theorem exec_firstRearm {s : State} {path : Path} (h : reaches s path FLT.FIRST = true) :
    exec (.firstRearm path) s = .next (s.set FLT.FIRST_VALID 0) :=
  congrArg Host.Outcome.next (State.writing_of_reaches h _ _)

/-- Both ways of clearing FIRST.VALID replace the word by one that differs in bit 0 alone. -/
theorem exec_clears_first_valid {s : State} {path : Path} {c : Instr} (h : reaches s path FLT.FIRST = true)
    (hc : c = .firstRearm path ∨ ∃ v : Word, v.toNat % 2 = 1 ∧ c = .registerWrite path (BitVec.ofNat 24 FLT.FIRST) v) :
    ∃ w, exec c s = .next (s.wr FLT.FIRST w) ∧ fieldOf w 0 1 = 0 ∧
      ∀ lo n, 1 ≤ lo → lo + n ≤ 32 → fieldOf w lo n = fieldOf (s.rd FLT.FIRST) lo n := by
  obtain rfl | ⟨v, hone, rfl⟩ := hc
  · exact ⟨_, exec_firstRearm h, fieldOf_withField_same _ 0 1 0 (by decide), fun lo n hlo hn =>
      fieldOf_withField_other _ 0 1 0 lo n hn (.inr hlo)⟩
  · exact ⟨_, exec_registerWrite_first h v, (fieldOf_clearedByOne_bit _ v).trans (if_pos hone), fun lo n hlo hn =>
      fieldOf_clearedByOne_other _ v hlo hn⟩

/-! ### The first event (R421) -/

theorem State.get_wr64_other (s : State) {o : Nat} (v : Nat) {f : RF} (hlo : o ≠ f.off) (hhi : o + 4 ≠ f.off) : (s.wr64 o v).get f = s.get f := by
  rw [State.get, State.get, State.wr64, State.rd_wr_other _ _ hhi, State.rd_wr_other _ _ hlo]

theorem statusBit_off_ne_first (src : Nat) : (statusBit src).off ≠ FLT.FIRST := by
  have hlo : FLT.STATUS_LO ≠ FLT.FIRST := by decide
  have hhi : FLT.STATUS_HI ≠ FLT.FIRST := by decide
  unfold statusBit
  split
  · exact hlo
  · exact hhi

theorem srcStat_off_ne_first (src : Nat) : (FLT.SRC_STAT_LATCHED src).off ≠ FLT.FIRST := by
  simp only [FLT.SRC_STAT_LATCHED, FLT.SRC_STAT, FLT.FIRST]; omega

/-- Latching an event fills a FIRST that was free with what the event reports. -/
theorem State.latchFault_of_free {s : State} (h : s.flag FLT.FIRST_VALID = false) (src eff inst : Nat) :
    ∃ (u : State) (ft : Nat), s.latchFault src eff inst =
      ((((((u.set FLT.FIRST_CLASS (eff + 1)).set FLT.FIRST_SOURCE src).set FLT.FIRST_INSTANCE inst).set FLT.FIRST_VALID 1).wr64 FLT.FIRST_FT_LO
        ft).wr64 FLT.FIRST_LEDGER_LO 0) := by
  have hbit : (s.set (statusBit src) 1).get FLT.FIRST_VALID = s.get FLT.FIRST_VALID := State.get_set_word s 1 (statusBit_off_ne_first src)
  unfold State.latchFault
  dsimp only
  split
  next hlower =>
    have hfree : ((s.set (statusBit src) 1).set (FLT.SRC_STAT_LATCHED src) (eff + 1)).flag FLT.FIRST_VALID = false := by
      rw [State.flag, State.get_set_word _ _ (srcStat_off_ne_first src), hbit]; exact h
    rw [hfree, if_neg Bool.false_ne_true]
    exact ⟨_, _, rfl⟩
  next hraised =>
    have hfree : (s.set (statusBit src) 1).flag FLT.FIRST_VALID = false := by rw [State.flag, hbit]; exact h
    rw [hfree, if_neg Bool.false_ne_true]
    exact ⟨_, _, rfl⟩

theorem State.latchFault_fills_first {s : State} (h : s.flag FLT.FIRST_VALID = false) (src eff inst : Nat) :
    (s.latchFault src eff inst).get FLT.FIRST_VALID = 1 ∧ (s.latchFault src eff inst).get FLT.FIRST_SOURCE = src % 2 ^ 6 ∧
      (s.latchFault src eff inst).get FLT.FIRST_INSTANCE = inst % 2 ^ 16 := by
  obtain ⟨u, ft, hu⟩ := State.latchFault_of_free h src eff inst
  have hbeside : ∀ f : RF, f.off = FLT.FIRST → (s.latchFault src eff inst).get f =
      ((((u.set FLT.FIRST_CLASS (eff + 1)).set FLT.FIRST_SOURCE src).set FLT.FIRST_INSTANCE inst).set FLT.FIRST_VALID 1).get f := by
    intro f hf
    rw [hu, State.get_wr64_other _ _ (by rw [hf]; decide) (by rw [hf]; decide), State.get_wr64_other _ _ (by rw [hf]; decide) (by rw [hf]; decide)]
  refine ⟨?_, ?_, ?_⟩
  · rw [hbeside _ rfl, State.get_set_same _ _ _ (by decide)]; rfl
  · rw [hbeside _ rfl, State.get_set_beside _ _ (by decide) (by decide), State.get_set_beside _ _ (by decide) (by decide),
      State.get_set_same _ _ _ (by decide)]; rfl
  · rw [hbeside _ rfl, State.get_set_beside _ _ (by decide) (by decide), State.get_set_same _ _ _ (by decide)]; rfl

/-- What an event does after it is latched leaves the latch words. -/
theorem State.raiseFaultFor_keepsLatches (s : State) (src cls inst : Nat) (own : Option Nat) :
    KeepsLatches (s.latchFault src (effClass s src cls) inst) (s.raiseFaultFor src cls inst own) := by
  unfold State.raiseFaultFor
  exact .ite (.runActions (.post .refl)) (.repeatFault .refl)

theorem State.raiseFaultFor_fills_first {s : State} (h : s.flag FLT.FIRST_VALID = false) (src cls inst : Nat) (own : Option Nat) :
    (s.raiseFaultFor src cls inst own).get FLT.FIRST_VALID = 1 ∧ (s.raiseFaultFor src cls inst own).get FLT.FIRST_SOURCE = src % 2 ^ 6 ∧
      (s.raiseFaultFor src cls inst own).get FLT.FIRST_INSTANCE = inst % 2 ^ 16 := by
  have hkept := State.raiseFaultFor_keepsLatches s src cls inst own
  rw [hkept.get FLT.FIRST_VALID, hkept.get FLT.FIRST_SOURCE, hkept.get FLT.FIRST_INSTANCE]
  exact State.latchFault_fills_first h src _ inst

theorem exec_faultEvent (src : Fin 64) (cls : Fin 4) (inst : Nat) (s : State) :
    exec (.faultEvent src cls inst) s = .next (s.raiseFaultFor src (min 2 cls) (inst % 2 ^ 16) (ownerOf s src (inst % 2 ^ 16))) := rfl

theorem exec_faultEvent_fills_first {s : State} (h : s.flag FLT.FIRST_VALID = false) (src : Fin 64) (cls : Fin 4) (inst : Nat) :
    ∃ u, exec (.faultEvent src cls inst) s = .next u ∧ u.flag FLT.FIRST_VALID = true ∧ u.get FLT.FIRST_SOURCE = src ∧
      u.get FLT.FIRST_INSTANCE = inst % 2 ^ 16 := by
  obtain ⟨hvalid, hsource, hinst⟩ := State.raiseFaultFor_fills_first h src (min 2 cls) (inst % 2 ^ 16) (ownerOf s src (inst % 2 ^ 16))
  exact ⟨_, exec_faultEvent src cls inst s, by simp only [State.flag, hvalid, decide_true], hsource.trans (Nat.mod_eq_of_lt src.isLt),
    hinst.trans (Nat.mod_mod _ _)⟩

/-! ### Clearing FIRST and OVERFLOW (R432) -/

/-- Settles O58: each of the writes changes one word in its bit 0 alone, and an event that finds FIRST free latches itself there before its actions,
which leave the latch words. That a repeat may fill FIRST as well is R421 and R422 with log entry 12. -/
theorem firstAndOverflowClear : Obligations.FirstAndOverflowClear := by
  unfold Obligations.FirstAndOverflowClear
  refine ⟨fun s path c hc hreach => ?cleared, fun s path v hzero hreach => ?kept, fun s path v hreach => ?overflow⟩
  case cleared =>
    obtain ⟨w, hexec, hbit, hrest⟩ := exec_clears_first_valid hreach hc
    have hfree : (s.wr FLT.FIRST w).flag FLT.FIRST_VALID = false := by
      simp only [State.flag, State.get_first_valid_wr, hbit, Nat.zero_ne_one, decide_false]
    have hfield : ∀ f : RF, f.off = FLT.FIRST → 1 ≤ f.lo → f.lo + f.n ≤ 32 → (s.wr FLT.FIRST w).get f = s.get f := fun f hf hlo hn => by
      rw [State.get_wr_same s w hf, hrest _ _ hlo hn, State.get, hf]
    exact ⟨_, hexec, hfree, State.rd_wr_other s w (by decide), State.rd_wr_other s w (by decide), hfield _ rfl (by decide) (by decide),
      hfield _ rfl (by decide) (by decide), hfield _ rfl (by decide) (by decide), exec_faultEvent_fills_first hfree⟩
  case kept =>
    have hbit : fieldOf (clearedByOne (s.rd FLT.FIRST) v) 0 1 = fieldOf (s.rd FLT.FIRST) 0 1 :=
      (fieldOf_clearedByOne_bit _ v).trans (if_neg (by omega))
    exact ⟨_, exec_registerWrite_first hreach v, (State.get_first_valid_wr s _).trans hbit, State.rd_wr_other s _ (by decide),
      State.rd_wr_other s _ (by decide)⟩
  case overflow =>
    exact ⟨_, exec_registerWrite_overflow hreach v, (State.get_overflow_wr s _).trans (fieldOf_clearedByOne_bit _ v), State.rd_wr_other s _ (by decide),
      State.rd_wr_other s _ (by decide)⟩

end Sys2Proof.Machine
end
